-- ==== Sys2Proof/Word.lean ====
section
/-!
DEFINITION. The machine's plainest words: a byte, the names of the parts that are fitted in twos, fours, sixes
and eights (ports, towers, approaches, heads, lamps, arms, detectors, edges, masts), and a record that holds one
value for each of them. Every order is the one R214 gives for repeated items.
-/

namespace Sys2Proof

/-- One byte of a frame (R208). -/
abbrev Byte := BitVec 8

/-- The 57 filtered inputs of R194 as one word, bit set = made, broken, occupied or current present.
The bit of each input is given by the readers of `Machine/Inputs.lean`. -/
abbrev RawInputs := BitVec 57

/-- The two ports (1.2 of 00_scope.md). -/
inductive Port | control | harbour deriving DecidableEq, Repr

/-- The two towers; the two lock bolts have the same names (R141). -/
inductive Tower | w | e deriving DecidableEq, Repr

/-- The two road approaches. -/
inductive Approach | north | south deriving DecidableEq, Repr

/-- The eight warning heads. -/
inductive Head | n1 | n2 | n3 | n4 | s1 | s2 | s3 | s4 deriving DecidableEq, Repr

/-- The three lamps of a head. -/
inductive Lamp | amber | ra | rb deriving DecidableEq, Repr

/-- The four barrier arms. -/
inductive Arm | nEntry | nExit | sEntry | sExit deriving DecidableEq, Repr

/-- The six deck detectors. -/
inductive Detector | d1 | d2 | d3 | d4 | d5 | d6 deriving DecidableEq, Repr

/-- The two channel edges, U upstream and D downstream. -/
inductive Edge | u | d deriving DecidableEq, Repr

/-- The two masts. -/
inductive Mast | upstream | downstream deriving DecidableEq, Repr

/-- The two directions of travel. -/
inductive Direction | inbound | outbound deriving DecidableEq, Repr

/-- One value for each port. -/
structure PerPort (α : Type) where
  control : α
  harbour : α
deriving DecidableEq, Repr

/-- One value for each tower (or bolt). -/
structure PerTower (α : Type) where
  w : α
  e : α
deriving DecidableEq, Repr

/-- One value for each approach. -/
structure PerApproach (α : Type) where
  north : α
  south : α
deriving DecidableEq, Repr

/-- One value for each lamp of a head. -/
structure PerLamp (α : Type) where
  amber : α
  ra : α
  rb : α
deriving DecidableEq, Repr

/-- One value for each head. -/
structure PerHead (α : Type) where
  n1 : α
  n2 : α
  n3 : α
  n4 : α
  s1 : α
  s2 : α
  s3 : α
  s4 : α
deriving DecidableEq, Repr

/-- One value for each arm. -/
structure PerArm (α : Type) where
  nEntry : α
  nExit : α
  sEntry : α
  sExit : α
deriving DecidableEq, Repr

/-- One value for each deck detector. -/
structure PerDetector (α : Type) where
  d1 : α
  d2 : α
  d3 : α
  d4 : α
  d5 : α
  d6 : α
deriving DecidableEq, Repr

/-- One value for each edge. -/
structure PerEdge (α : Type) where
  u : α
  d : α
deriving DecidableEq, Repr

/-- One value for each mast. -/
structure PerMast (α : Type) where
  upstream : α
  downstream : α
deriving DecidableEq, Repr

/-- The baud rates of R206. -/
inductive Baud | b9600 | b19200 | b38400 | b115200 deriving DecidableEq, Repr

/-- The straps of one port as they stand at power-on (R206): seven station lines, two baud lines (set = made). -/
structure Straps where
  station : BitVec 7
  firstBaudLine : Bool
  secondBaudLine : Bool
deriving DecidableEq, Repr

/-- What is found at power-on: the straps of both ports and the encoder levels (channel A, channel B) of both towers. -/
structure PowerOnLevels where
  straps : PerPort Straps
  encoders : PerTower (Bool × Bool)
deriving DecidableEq, Repr

/-- The levels of a line in the eleven bit times of one character, bit k in the k-th of them, set = mark (R207). -/
abbrev Levels := BitVec 11

/-- Why a frame is discarded (R210). A framing error carries the levels of its character as received, a bad check the
frame's body and two check bytes. -/
inductive DiscardCause
  | framingError (levels : Levels)
  | badLength (n : Byte)
  | badCheck (body : List Byte) (high low : Byte)
  | earlyMark (value : Byte)
deriving DecidableEq, Repr

namespace PerPort
variable {α : Type}
/-- The value at one port. -/
def get (x : PerPort α) : Port → α
  | .control => x.control
  | .harbour => x.harbour
/-- A new value at one port. -/
def set (x : PerPort α) (p : Port) (v : α) : PerPort α :=
  match p with
  | .control => { x with control := v }
  | .harbour => { x with harbour := v }
end PerPort

namespace PerTower
variable {α : Type}
/-- The value at one tower. -/
def get (x : PerTower α) : Tower → α
  | .w => x.w
  | .e => x.e
/-- A new value at one tower. -/
def set (x : PerTower α) (t : Tower) (v : α) : PerTower α :=
  match t with
  | .w => { x with w := v }
  | .e => { x with e := v }
/-- The same change at both towers. -/
def map {β : Type} (f : α → β) (x : PerTower α) : PerTower β := { w := f x.w, e := f x.e }
end PerTower

namespace PerApproach
variable {α : Type}
/-- The value at one approach. -/
def get (x : PerApproach α) : Approach → α
  | .north => x.north
  | .south => x.south
/-- A new value at one approach. -/
def set (x : PerApproach α) (a : Approach) (v : α) : PerApproach α :=
  match a with
  | .north => { x with north := v }
  | .south => { x with south := v }
/-- The same change at both approaches. -/
def map {β : Type} (f : α → β) (x : PerApproach α) : PerApproach β := { north := f x.north, south := f x.south }
end PerApproach

namespace PerLamp
variable {α : Type}
/-- The value at one lamp. -/
def get (x : PerLamp α) : Lamp → α
  | .amber => x.amber
  | .ra => x.ra
  | .rb => x.rb
/-- A new value at one lamp. -/
def set (x : PerLamp α) (l : Lamp) (v : α) : PerLamp α :=
  match l with
  | .amber => { x with amber := v }
  | .ra => { x with ra := v }
  | .rb => { x with rb := v }
/-- The same change at the three lamps. -/
def map {β : Type} (f : α → β) (x : PerLamp α) : PerLamp β := { amber := f x.amber, ra := f x.ra, rb := f x.rb }
end PerLamp

namespace PerHead
variable {α : Type}
/-- The value at one head. -/
def get (x : PerHead α) : Head → α
  | .n1 => x.n1
  | .n2 => x.n2
  | .n3 => x.n3
  | .n4 => x.n4
  | .s1 => x.s1
  | .s2 => x.s2
  | .s3 => x.s3
  | .s4 => x.s4
/-- A new value at one head. -/
def set (x : PerHead α) (h : Head) (v : α) : PerHead α :=
  match h with
  | .n1 => { x with n1 := v }
  | .n2 => { x with n2 := v }
  | .n3 => { x with n3 := v }
  | .n4 => { x with n4 := v }
  | .s1 => { x with s1 := v }
  | .s2 => { x with s2 := v }
  | .s3 => { x with s3 := v }
  | .s4 => { x with s4 := v }
/-- The same change at the eight heads. -/
def map {β : Type} (f : α → β) (x : PerHead α) : PerHead β :=
  { n1 := f x.n1, n2 := f x.n2, n3 := f x.n3, n4 := f x.n4, s1 := f x.s1, s2 := f x.s2, s3 := f x.s3, s4 := f x.s4 }
end PerHead

namespace PerArm
variable {α : Type}
/-- The value at one arm. -/
def get (x : PerArm α) : Arm → α
  | .nEntry => x.nEntry
  | .nExit => x.nExit
  | .sEntry => x.sEntry
  | .sExit => x.sExit
/-- A new value at one arm. -/
def set (x : PerArm α) (a : Arm) (v : α) : PerArm α :=
  match a with
  | .nEntry => { x with nEntry := v }
  | .nExit => { x with nExit := v }
  | .sEntry => { x with sEntry := v }
  | .sExit => { x with sExit := v }
/-- The same change at the four arms. -/
def map {β : Type} (f : α → β) (x : PerArm α) : PerArm β :=
  { nEntry := f x.nEntry, nExit := f x.nExit, sEntry := f x.sEntry, sExit := f x.sExit }
end PerArm

namespace PerDetector
variable {α : Type}
/-- The value at one detector. -/
def get (x : PerDetector α) : Detector → α
  | .d1 => x.d1
  | .d2 => x.d2
  | .d3 => x.d3
  | .d4 => x.d4
  | .d5 => x.d5
  | .d6 => x.d6
/-- A new value at one detector. -/
def set (x : PerDetector α) (d : Detector) (v : α) : PerDetector α :=
  match d with
  | .d1 => { x with d1 := v }
  | .d2 => { x with d2 := v }
  | .d3 => { x with d3 := v }
  | .d4 => { x with d4 := v }
  | .d5 => { x with d5 := v }
  | .d6 => { x with d6 := v }
/-- The same change at the six detectors. -/
def map {β : Type} (f : α → β) (x : PerDetector α) : PerDetector β :=
  { d1 := f x.d1, d2 := f x.d2, d3 := f x.d3, d4 := f x.d4, d5 := f x.d5, d6 := f x.d6 }
end PerDetector

namespace PerEdge
variable {α : Type}
/-- The value at one edge. -/
def get (x : PerEdge α) : Edge → α
  | .u => x.u
  | .d => x.d
/-- A new value at one edge. -/
def set (x : PerEdge α) (e : Edge) (v : α) : PerEdge α :=
  match e with
  | .u => { x with u := v }
  | .d => { x with d := v }
end PerEdge

namespace PerMast
variable {α : Type}
/-- The value at one mast. -/
def get (x : PerMast α) : Mast → α
  | .upstream => x.upstream
  | .downstream => x.downstream
end PerMast

/-- The towers in order. -/
def allTowers : List Tower := [.w, .e]
/-- The approaches in order. -/
def allApproaches : List Approach := [.north, .south]
/-- The heads in order. -/
def allHeads : List Head := [.n1, .n2, .n3, .n4, .s1, .s2, .s3, .s4]
/-- The lamps of a head in order. -/
def allLamps : List Lamp := [.amber, .ra, .rb]
/-- The arms in order. -/
def allArms : List Arm := [.nEntry, .nExit, .sEntry, .sExit]
/-- The detectors in order. -/
def allDetectors : List Detector := [.d1, .d2, .d3, .d4, .d5, .d6]
/-- The directions in order. -/
def allDirections : List Direction := [.inbound, .outbound]

/-- The other direction. -/
def Direction.opposite : Direction → Direction
  | .inbound => .outbound
  | .outbound => .inbound

/-- The approach of a head. -/
def Head.approach : Head → Approach
  | .n1 | .n2 | .n3 | .n4 => .north
  | _ => .south

/-- The approach of an arm. -/
def Arm.approach : Arm → Approach
  | .nEntry | .nExit => .north
  | _ => .south

/-- Whether an arm is an entry arm. -/
def Arm.isEntry : Arm → Bool
  | .nEntry | .sEntry => true
  | _ => false

/-- The entry arm of an approach. -/
def Approach.entryArm : Approach → Arm
  | .north => .nEntry
  | .south => .sEntry

/-- The exit arm of an approach. -/
def Approach.exitArm : Approach → Arm
  | .north => .nExit
  | .south => .sExit

/-- The heads of an approach. -/
def Approach.heads : Approach → List Head
  | .north => [.n1, .n2, .n3, .n4]
  | .south => [.s1, .s2, .s3, .s4]

end Sys2Proof
end

