-- ==== Sys2Proof/Syntax.lean ====
section
/-!
DEFINITION. The commands of the block: one constructor for each row of spec/opcode_table.json.
The rows give no bits and no fields, so the operands are the model's (log 3): a request carries the port that takes
it and its payload bytes, one whole good frame; a line event carries what the line shows; an expiry names its timer.
-/

namespace Sys2Proof

/-- The commands, in the order of the table. -/
inductive Instr
  | powerOn (levels : PowerOnLevels)
  | inputSample (raw : RawInputs)
  | positionSample
  | encoderEdge (tower : Tower) (a b : Bool)
  | timePulseLeadingEdge (elapsedMs : Nat)
  | secondMark
  | minuteMarkCorrection
  | supervisionTimerExpiry
  | oscillatorStep
  | lineBreak (port : Port)
  | frameDiscarded (port : Port) (cause : DiscardCause)
  | unknownRequest (port : Port) (code : Byte) (payload : List Byte)
  | responseSent (port : Port)
  | createBooking (port : Port) (payload : List Byte)
  | createTimetable (port : Port) (payload : List Byte)
  | postArrival (port : Port) (payload : List Byte)
  | amend (port : Port) (payload : List Byte)
  | withdraw (port : Port) (payload : List Byte)
  | release (port : Port) (payload : List Byte)
  | deleteTimetable (port : Port) (payload : List Byte)
  | lookUp (port : Port) (payload : List Byte)
  | find (port : Port) (payload : List Byte)
  | list (port : Port) (payload : List Byte)
  | listDue (port : Port) (payload : List Byte)
  | queueStatus (port : Port) (payload : List Byte)
  | clearDamage (port : Port) (payload : List Byte)
  | clearTable (port : Port) (payload : List Byte)
  | setRegions (port : Port) (payload : List Byte)
  | waterLevel (port : Port) (payload : List Byte)
  | stalenessTimerExpiry
  | clearanceStatus (port : Port) (payload : List Byte)
  | openingStatus (port : Port) (payload : List Byte)
  | openNow (port : Port) (payload : List Byte)
  | closeSpan (port : Port) (payload : List Byte)
  | abandon (port : Port) (payload : List Byte)
  | roadPriority (port : Port) (payload : List Byte)
  | roadPriorityEnd (port : Port) (payload : List Byte)
  | closeNavigation (port : Port) (payload : List Byte)
  | openNavigation (port : Port) (payload : List Byte)
  | closeRoad (port : Port) (payload : List Byte)
  | reopenRoad (port : Port) (payload : List Byte)
  | stop (port : Port) (payload : List Byte)
  | resume (port : Port) (payload : List Byte)
  | recoverSeat (port : Port) (payload : List Byte)
  | sequenceStatus (port : Port) (payload : List Byte)
  | confirmUnwarned (port : Port) (payload : List Byte)
  | clearLamp (port : Port) (payload : List Byte)
  | headService (port : Port) (payload : List Byte)
  | clearRoadStatus (port : Port) (payload : List Byte)
  | armRetry (port : Port) (payload : List Byte)
  | armService (port : Port) (payload : List Byte)
  | detectorService (port : Port) (payload : List Byte)
  | roadStatus (port : Port) (payload : List Byte)
  | jog (port : Port) (payload : List Byte)
  | driveStatus (port : Port) (payload : List Byte)
  | zoneReset (port : Port) (payload : List Byte)
  | channelStatus (port : Port) (payload : List Byte)
  | setTime (port : Port) (payload : List Byte)
  | clockStatus (port : Port) (payload : List Byte)
  | configure (port : Port) (payload : List Byte)
  | commission (port : Port) (payload : List Byte)
  | setParameter (port : Port) (payload : List Byte)
  | readParameter (port : Port) (payload : List Byte)
  | fetchAttention (port : Port) (payload : List Byte)
  | setAttentionEnable (port : Port) (payload : List Byte)
  | roadHoldOffExpiry
  | roadPriorityTimerExpiry
  | maxRaisedTimerExpiry
  | windWaitTimerExpiry
  | amberTimerExpiry (approach : Approach)
  | flasherHalf (approach : Approach)
  | lampProving (head : Head) (lamp : Lamp)
  | offCheck (head : Head) (lamp : Lamp)
  | warningCountComplete (approach : Approach)
  | armTravelTimeout (arm : Arm)
  | retryWaitExpiry (arm : Arm)
  | deckClear
  | deckWaitExpiry
  | occupancyTimerExpiry (detector : Detector)
  | brakeSettleExpiry
  | lockTravelTimerExpiry (bolt : Tower)
  | jogKeepAliveExpiry
  | channelClearTimerRun
  | noShowTimerExpiry (slot : Nat)
  | addressMark (port : Port) (value : Byte)
deriving DecidableEq, Repr

end Sys2Proof
end

