-- ==== Sys2Proof/Config.lean ====
section
/-!
DEFINITION. The fixed figures of the part, and the values that the spec leaves free.
The free values have no body: nothing can be proved about which value they take.
-/

namespace Sys2Proof.Config

/-- FREE VALUE (log 4). Which of several expiries due at the same moment comes first: the spec fixes no order among
events of different timers (1.5 of 00_scope.md). Applied to the count of such choices made so far. -/
opaque dueChoice : Nat → Nat

/-- FREE VALUE (log 22). What CLOCK_STATUS sends in the two bytes of a pulse age above 65535 ms. -/
opaque longPulseAge : Nat → BitVec 16

/-- FREE VALUE (log 22). What ROAD_STATUS sends in the two bytes of an occupancy counted for more than 65535 tenths of a
second, by the count of free choices and the place of the detector. -/
opaque longOccupancy : Nat → Nat → BitVec 16

/-- The entries of the passage table (R1). -/
def entryCount : Nat := 64
/-- The most slots an opening uses (R60, R73). -/
def slotLimit : Nat := 8
/-- Flasher half-period, ms (R104). -/
def flasherHalfMs : Nat := 500
/-- Delay of a proving, ms (R104). -/
def provingMs : Nat := 100
/-- First off-check after a lamp is switched off, ms (R104). -/
def offCheckFirstMs : Nat := 250
/-- Later off-checks, ms (R104). -/
def offCheckNextMs : Nat := 500
/-- Position range margin, mm (R142). -/
def rangeMargin : Int := 500
/-- Stall window, position samples (R142). -/
def stallWindow : Nat := 50
/-- Seat drift limit, mm (R142). -/
def seatDriftLimit : Int := 50
/-- Seat-missing depth below 0, mm (R142). -/
def seatMissingDepth : Int := 100
/-- Trim reduction cap, per mille (R142). -/
def trimCap : Int := 750
/-- Jog keep-alive, ms (R142). -/
def keepAliveMs : Nat := 500
/-- Encoder count limits (R143). -/
def countMax : Int := 8388607
/-- Encoder count limits (R143). -/
def countMin : Int := -8388608
/-- Hold age saturation, minutes (R22). -/
def holdAgeMax : Nat := 120
/-- Gauge range, cm (R33). -/
def gaugeMin : Int := -400
/-- Gauge range, cm (R33). -/
def gaugeMax : Int := 1200
/-- Seconds since acceptance stop here (R31). -/
def sinceMaxMs : Nat := 65535000
/-- Early pulse bound, ms (R199). -/
def pulseEarlyMs : Nat := 800
/-- In-window pulse bound and supervision time, ms (R199, R200). -/
def pulseLateMs : Nat := 1200
/-- Oscillator step, ms (R200). -/
def oscillatorMs : Nat := 1000
/-- Width that makes a minute mark, ms (R199). -/
def minuteMarkMs : Nat := 300
/-- An oscillator step nearer than this to the relocking pulse has made its second, ms (R201). -/
def relockMs : Nat := 500
/-- Zone count limit (R176). -/
def zoneMax : Nat := 8
/-- Minutes of a day. -/
def dayMinutes : Nat := 1440
/-- Obstructions that end the reversals (R130). -/
def obstructionLimit : Nat := 3
/-- Steps of consequences worked off inside one command (log 10). -/
def settleFuel : Nat := 64

end Sys2Proof.Config
end

