-- ==== Sys2Proof/Machine/Names.lean ====
section
/-!
DEFINITION. The named values of the spec, each list in the order of the list or table that first gives it: the
position, counted from 0, is the value's code on the line (R214).
-/

namespace Sys2Proof.Machine

/-- Operating modes (R206). -/
inductive Mode | configuring | service deriving DecidableEq, Repr

/-- Entry states (R3). -/
inductive EntryState | vacant | pending | due | assigned | cleared | transiting | concluded | damaged
deriving DecidableEq, Repr

/-- Kinds of entry (R1). -/
inductive Kind | timetable | booked | arrival deriving DecidableEq, Repr

/-- Outcomes (R3). -/
inductive PassageOutcome | passed | withdrawn | lapsed | noShow | notNeeded | turnedOut deriving DecidableEq, Repr

/-- Gauge statuses (R31). -/
inductive GaugeStatus | unread | live | stale deriving DecidableEq, Repr

/-- Dispositions of a reading (R32). -/
inductive Disposition | accepted | confirmed | held deriving DecidableEq, Repr

/-- Causes of an opening (R59). -/
inductive OpeningCause | operator | priorityClass | queueCritical | timetable | demand deriving DecidableEq, Repr

/-- Closing causes (R73). -/
inductive ClosingCause | allDone | closeSpan | maxRaised | abandon | roadPriority | wind deriving DecidableEq, Repr

/-- Slot states (R74). -/
inductive SlotState | waiting | proceedGiven | inZone | done deriving DecidableEq, Repr

/-- Sequence states (R76). -/
inductive SeqState
  | inactive | positionLost | recovering | roadOpen | warning | entryClosing | deckClearing | exitClosing
  | roadClosed | windWait | unlocking | lifting | raised | lowering | locking | barriersRaising | faultHold | halted
deriving DecidableEq, Repr

/-- Fault causes (R94). -/
inductive FaultCause
  | skew | overtravel | level | positionRange | lockSwitchConflict | armLost | stall | encoder | seatMissing
  | lockTimeout
deriving DecidableEq, Repr

/-- The state in which an operator closure was accepted (R72). -/
inductive ClosureOrigin | roadOpen | positionLost deriving DecidableEq, Repr

/-- States of a lamp of an in-service head (R103); a lamp of an out-of-service head is OUT_OF_SERVICE by its head. -/
inductive LampState | unproven | proven | failed | outOfService deriving DecidableEq, Repr

/-- Approach phases (R103). -/
inductive ApproachPhase | dark | amber | red deriving DecidableEq, Repr

/-- Flasher halves (R103). -/
inductive Half | a | b deriving DecidableEq, Repr

/-- Approach warning states (R103). -/
inductive WarningState | warned | degraded | unwarned deriving DecidableEq, Repr

/-- Conditions of a warning count (R119); `paused` is the model's own: a count stopped at HALTED with its time kept
(R115). -/
inductive CountStatus | running | complete | held | paused deriving DecidableEq, Repr

/-- Arm states (R120). -/
inductive ArmState | up | lowering | down | raising | stopped | fault | outOfService deriving DecidableEq, Repr

/-- An end of an arm's travel (R120). -/
inductive ArmEnd | up | down deriving DecidableEq, Repr

/-- Reversals (R120). -/
inductive Reversal | reversing | final deriving DecidableEq, Repr

/-- The travel an arm was in when it became STOPPED (R120). -/
inductive Travel | lowering | raising deriving DecidableEq, Repr

/-- Arm fault reasons (R120). -/
inductive ArmFaultReason | timeout | switchConflict | obstructed | upLost | downLost | notLocked | position
deriving DecidableEq, Repr

/-- Deck-clear measurement, where present (R135). -/
inductive Measurement | running | complete deriving DecidableEq, Repr

/-- Vertical directions (R141). -/
inductive Vertical | up | down deriving DecidableEq, Repr

/-- Motions (R141). -/
inductive Motion | none | raise | lower | descent | jog deriving DecidableEq, Repr

/-- Motion phases (R141). -/
inductive MotionPhase | settling | running | held deriving DecidableEq, Repr

/-- Hold reasons (R141). -/
inductive HoldReason | channel | bolts deriving DecidableEq, Repr

/-- Bolt states (R141). -/
inductive BoltState | driven | withdrawing | withdrawn | driving | fault deriving DecidableEq, Repr

/-- Bolt fault reasons (R141). -/
inductive BoltFaultReason | timeout | switchConflict | position deriving DecidableEq, Repr

/-- Mast aspects (R170). -/
inductive Aspect | dark | hold | standby | proceed | fault deriving DecidableEq, Repr

/-- First broken beam of an occupied recognizer (R170). -/
inductive FirstBroken | outer | inner | both deriving DecidableEq, Repr

/-- Crossings (R174). -/
inductive Crossing | inward | outward deriving DecidableEq, Repr

/-- Lock states of the clock (R198). -/
inductive LockState | locked | free deriving DecidableEq, Repr

/-- Marks of a pulse (R198). -/
inductive Mark | second | minute deriving DecidableEq, Repr

/-- Receiver states (R206). -/
inductive Receiver | ignoring | receiving | busy deriving DecidableEq, Repr

/-- Statuses of a response, coded in this order (10.7). -/
inductive Status
  | ok | unknownRequest | malformed | notPermitted | wrongMode | outOfRange | stale | full | duplicate | tooTall
  | noOpeningNeeded | filtered | frozen | committed | notConcluded | concluded | regionInUse | tooLate | notReady
  | inconsistent
deriving DecidableEq, Repr

/-- Attention sources of the control port, highest first (R224). -/
inductive ControlSource
  | halted | faultHold | conflict | clearanceLowInZone | clearanceLow | approachUnwarned | armFault | deckNotClear
  | recordDamaged | lostMemberDone | windAbandon | gaugeStale | gaugeJump | gaugeRange | clockFree | clockStepped
  | lampFailure | queueCritical | queueOverrun | unlisted | countError | edgeAmbiguous | seatDrift | phaseChange
deriving DecidableEq, Repr

/-- Attention sources of the harbour port, highest first (R224). -/
inductive HarbourSource
  | recordDamaged | queueOverrun | gaugeStale | passageConcluded | openingStarted | spanRaised | openingEnded
deriving DecidableEq, Repr

end Sys2Proof.Machine
end

