-- ==== Sys2Proof/Machine/State.lean ====
section
/-!
DEFINITION. The state of the part as plain data: every item of the state tables of R3, R31, R49, R72, R103, R120,
R135, R141, R170, R198 and R206, the readings of R194, the parameters of R219, the queue of waiting commands, and the
model's own helpers that INVENTORY.md lists. State.reset is the machine right after power-on.
-/

namespace Sys2Proof.Machine

/-- A named interval (1.5 of 00_scope.md): stopped, running with what it has counted and what it runs to, stopped with
its time kept (R98), or past its limit and counting on, as an occupancy timer does (R137). Counts are milliseconds; the
three timers of the planner count minute events (R51). -/
inductive Timer
  | stopped
  | running (counted limit : Nat)
  | paused (counted limit : Nat)
  | over (counted : Nat)
deriving DecidableEq, Repr

/-- One place of the passage table (R3). A field that R3 shows absent is `none`. `codeGood` says whether the stored
check code agrees with the fields (R26, log 5). -/
structure Entry where
  state : EntryState
  identity : List Byte
  direction : Direction
  airDraft : Int
  cls : Nat
  earliest : Option Nat
  latest : Option Nat
  recurrence : Option (Nat × Nat)
  skip : Option Bool
  lastOutcome : Option PassageOutcome
  dueStamp : Option (BitVec 16)
  tideHold : Option Bool
  lapseMark : Option Bool
  openingNumber : Option (BitVec 16)
  outcome : Option PassageOutcome
  concludedMinute : Option Nat
  holdAge : Option Nat
  codeGood : Bool
deriving DecidableEq, Repr

/-- A VACANT entry: a state and nothing more. -/
def Entry.vacant : Entry :=
  { state := .vacant, identity := [], direction := .inbound, airDraft := 0, cls := 0, earliest := none,
    latest := none, recurrence := none, skip := none, lastOutcome := none, dueStamp := none, tideHold := none,
    lapseMark := none, openingNumber := none, outcome := none, concludedMinute := none, holdAge := none,
    codeGood := true }

/-- One generation with its check code (R4, R5). -/
structure Generation where
  value : BitVec 4
  codeGood : Bool
deriving DecidableEq, Repr

/-- The passage table (R1 to R30). -/
structure Table where
  tb : Nat
  qb : Nat
  entries : List Entry
  generations : List Generation
  dueList : List Nat
  arrivalOrder : List Nat
  counter : BitVec 16
  lastLost : Option (Nat × BitVec 4)
  firstDamaged : Option Nat
  moreDamaged : Bool
deriving DecidableEq, Repr

/-- The clearance computer (R31). The seconds since acceptance are held in milliseconds. -/
structure Water where
  accepted : Option Int
  candidate : Option Int
  gauge : GaugeStatus
  staleness : Timer
  effective : Int
  sinceMs : Option Nat
deriving DecidableEq, Repr

/-- The opening planner (R49). Its timers count minute events. `evaluationOwed`, a change of the queue-critical flag not
yet evaluated (R55, R57), is the model's own (log 11). -/
structure Planner where
  holdOff : Timer
  holdOffElapsed : Bool
  roadPriority : Bool
  roadPriorityTimer : Timer
  navigationClosed : Bool
  queueCritical : Bool
  evaluationOwed : Bool
  maxRaised : Timer
deriving DecidableEq, Repr

/-- A slot of the opening record (R61, R74) with the channel unit's items of it (R170). `entry` is `none` for LOST.
`serial`, `kept` and `givenAt` are the model's own (log 30). -/
structure Slot where
  serial : Nat
  entry : Option Nat
  tagIndex : Nat
  tagGeneration : BitVec 4
  direction : Direction
  cls : Nat
  airDraft : Int
  lift : Int
  state : SlotState
  outcome : Option PassageOutcome
  noShow : Timer
  overdue : Bool
  short : Bool
  kept : Bool
  givenAt : Nat
deriving DecidableEq, Repr

/-- The opening record (R73). The closing call is set exactly while the closing cause is present. `nextSerial`,
`proceedCount`, `raisedBefore` and `abandoned` are the model's own (log 30). -/
structure Opening where
  number : BitVec 16
  cause : OpeningCause
  operatorLift : Bool
  startMinute : Nat
  levelUsed : Option Int
  target : Option Int
  closingCause : Option ClosingCause
  slots : List Slot
  taken : BitVec 8
  withdrawn : BitVec 8
  returned : BitVec 8
  lost : BitVec 8
  nextSerial : Nat
  proceedCount : Nat
  raisedBefore : Bool
  abandoned : Bool
deriving DecidableEq, Repr

/-- The last-opening summary (R75). -/
structure Summary where
  number : BitVec 16
  cause : OpeningCause
  operatorLift : Bool
  startMinute : Nat
  levelUsed : Option Int
  target : Option Int
  closingCause : Option ClosingCause
  taken : BitVec 8
  withdrawn : BitVec 8
  returned : BitVec 8
  lost : BitVec 8
  endMinute : Nat
  endState : SeqState
  passed : Nat
  noShow : Nat
  turnedOut : Nat
deriving DecidableEq, Repr

/-- The sequence controller (R72). Bit k of `causes` is the cause in place k of R94. `entryRaise` says that step 2 of
R89 has been given (log 7). -/
structure Sequence where
  state : SeqState
  heldPhase : Option SeqState
  causes : BitVec 10
  opening : Option Opening
  summary : Option Summary
  roadClosedByOperator : Bool
  closureOrigin : Option ClosureOrigin
  counter : BitVec 16
  windWait : Timer
  entryRaise : Bool
deriving DecidableEq, Repr

/-- One lamp (R103), its proving and its off-check. -/
structure LampRecord where
  state : LampState
  output : Bool
  proving : Timer
  offCheck : Timer
deriving DecidableEq, Repr

/-- One warning head (R103): service, accrued flags (R112), lamps. -/
structure HeadRecord where
  inService : Bool
  amberFail : Bool
  redOneFail : Bool
  redDark : Bool
  currentWhenOff : Bool
  lamps : PerLamp LampRecord
deriving DecidableEq, Repr

/-- A warning count (R115): time counted in ms, the warning time it started under, the doubled flag. -/
structure WarningCount where
  status : CountStatus
  counted : Nat
  base : Nat
  doubled : Bool
deriving DecidableEq, Repr

/-- One approach (R103, R125). -/
structure ApproachRecord where
  phase : ApproachPhase
  command : Bool
  amberTimer : Timer
  half : Half
  flasher : Timer
  warning : WarningState
  count : Option WarningCount
  permit : Bool
deriving DecidableEq, Repr

/-- One barrier arm (R120). An arm is out of service exactly while its state is `outOfService`. -/
structure ArmRecord where
  state : ArmState
  commandedEnd : ArmEnd
  obstructions : Nat
  reversal : Option Reversal
  retryWait : Timer
  travel : Timer
  stoppedDirection : Option Travel
  faultReason : Option ArmFaultReason
deriving DecidableEq, Repr

/-- One deck detector (R135). `spent` says that the present occupancy sets OCCUPIED_LONG no more: it has set it, or the
flag was cleared during it in a RUNNING measurement (R137, R140, log 29). -/
structure DetectorRecord where
  inService : Bool
  occupiedLong : Bool
  occupancy : Timer
  spent : Bool
deriving DecidableEq, Repr

/-- The deck (R135). -/
structure Deck where
  measurement : Option Measurement
  clear : Timer
  wait : Timer
  notClear : Bool
deriving DecidableEq, Repr

/-- The road guard (R103, R120, R135), and its judgement of the span seated and locked as last made (R105). `halted`
says that HALTED was entered and the held phase has not been re-entered since: the guard's timers stand stopped and its
STOPPED arms are supervised (R98, R132, R139, log 29). -/
structure Guard where
  heads : PerHead HeadRecord
  approaches : PerApproach ApproachRecord
  arms : PerArm ArmRecord
  detectors : PerDetector DetectorRecord
  deck : Deck
  seatedLocked : Bool
  halted : Bool
deriving DecidableEq, Repr

/-- One tower (R141). `limitBefore` is the filtered upper limit switch at the position sample before (R159). -/
structure TowerRecord where
  count : Int
  phaseA : Bool
  phaseB : Bool
  position : Int
  outOfRange : Bool
  released : Bool
  reference : Int
  stopped : Bool
  anchor : Option (Int × Nat)
  limitBefore : Bool
deriving DecidableEq, Repr

/-- One lock bolt (R141). -/
structure BoltRecord where
  state : BoltState
  reason : Option BoltFaultReason
  travel : Timer
  waiting : Bool
deriving DecidableEq, Repr

/-- A jog (R141). `levelMade` says that the level switch has been made since the jog started (R168). -/
structure Jog where
  tower : Tower
  direction : Vertical
  keepAlive : Timer
  levelMade : Bool
deriving DecidableEq, Repr

/-- The lift drive unit (R141), and the two verdicts as last handed to it (R169). `stopAsked` is a STOP of R151 that
waits for its position sample. -/
structure Drive where
  towers : PerTower TowerRecord
  valid : Bool
  direction : Vertical
  motion : Motion
  phase : Option MotionPhase
  holdReason : Option HoldReason
  target : Option Int
  profile : Int
  settle : Timer
  jog : Option Jog
  lastZeroing : Option (Int × Int)
  bolts : PerTower BoltRecord
  armVerdict : Bool
  downVerdict : Bool
  stopAsked : Bool
deriving DecidableEq, Repr

/-- The channel unit (R170). A recognizer is CLEAR while `none`. The channel-clear timer is run while `clearRun`.
`servingRuns` is R180 as last judged; `standing` and `levelRead` are its second and third condition as last read, at
a position sample or an entry to RAISED. -/
structure Channel where
  masts : PerMast Aspect
  recognizers : PerEdge (Option FirstBroken)
  zoneCount : Nat
  zoneList : List Nat
  clearTimer : Timer
  clearRun : Bool
  serving : Option Direction
  servedLast : Option Direction
  reliftArmed : Bool
  deferredCheck : Bool
  servingRuns : Bool
  standing : Bool
  levelRead : Bool
deriving DecidableEq, Repr

/-- The bridge clock (R198). The pulse reference is the time since it, in ms. `measuring` runs from a taken pulse's
leading edge until the pulse is known as a mark (R199); `sinceStep` is the time since the last oscillator step
(R201). -/
structure Clock where
  minute : Nat
  seconds : Nat
  valid : Bool
  lock : LockState
  reference : Option Nat
  recaptureRun : Nat
  stepTimer : Timer
  supervision : Timer
  early : Bool
  lastMark : Option Mark
  measuring : Timer
  sinceStep : Option Nat
deriving DecidableEq, Repr

/-- A response that is being sent: request code, status, payload (R213). -/
structure Response where
  code : Nat
  status : Status
  payload : List Byte
deriving DecidableEq, Repr

/-- One port (R206). Bit k − 1 of the two sets is the source in place k of R224. -/
structure PortRecord where
  station : BitVec 7
  baud : Baud
  receiver : Receiver
  buffer : List Byte
  attention : BitVec 24
  enable : BitVec 24
  response : Option Response
deriving DecidableEq, Repr

/-- The parameters of R219, but for TB, QB and the navigation-closed flag, which their blocks hold. Lengths and
speeds are integers, times naturals in the unit of the table. -/
structure Parameters where
  conclusionHold : Nat
  closedClearance : Int
  margin : Int
  tideAllowance : Int
  maxLift : Int
  highWater : Int
  lowWater : Int
  gaugeMargin : Int
  jumpLimit : Int
  staleTime : Nat
  arrivalFilter : BitVec 10
  roadHoldOff : Nat
  roadPriorityTime : Nat
  queueCriticalLevel : Nat
  maxRaisedTime : Nat
  windWaitTime : Nat
  amberTime : Nat
  warningTime : Nat
  armTimeout : Nat
  retryTime : Nat
  deckClearTime : Nat
  deckWaitLimit : Nat
  scaleWhole : PerTower Int
  scaleSixteenths : PerTower Int
  brakeSettle : Nat
  creepSpeed : Int
  travelSpeed : Int
  creepDistance : Int
  rampStep : Int
  trimBand : Int
  trimGain : Int
  skewLimit : Int
  lockTimeout : Nat
  channelClearTime : Nat
  noShowTime : Nat
deriving DecidableEq, Repr

/-- The whole machine. `inputs` are the last three readings of the sampler, oldest first, absent before the first
input sample (R195). `freeCount` counts the free choices made (logs 4 and 22). -/
structure State where
  pending : List Instr
  mode : Mode
  ports : PerPort PortRecord
  params : Parameters
  table : Table
  water : Water
  planner : Planner
  seq : Sequence
  guard : Guard
  drive : Drive
  channel : Channel
  clock : Clock
  inputs : Option (RawInputs × RawInputs × RawInputs)
  freeCount : Nat
deriving DecidableEq, Repr

/-- The reasons the part stops with a fault: none, since the spec gives every command an effect (INVENTORY, Faults). -/
inductive Fault
deriving DecidableEq, Repr

/-- The reasons a command has no meaning. -/
inductive Refusal
  /-- Raised by an arm of `exec` whose command has no meaning yet; no arm is left so. Safe: nothing changes. -/
  | notModelled (mnemonic : String)
deriving DecidableEq, Repr

/-- The defaults of R219. -/
def Parameters.default : Parameters :=
  { conclusionHold := 30, closedClearance := 650, margin := 100, tideAllowance := 30, maxLift := 34000,
    highWater := 600, lowWater := -50, gaugeMargin := 50, jumpLimit := 50, staleTime := 120,
    arrivalFilter := 0x300#10, roadHoldOff := 10, roadPriorityTime := 5, queueCriticalLevel := 12,
    maxRaisedTime := 25, windWaitTime := 10, amberTime := 4, warningTime := 12, armTimeout := 10, retryTime := 5,
    deckClearTime := 8, deckWaitLimit := 120, scaleWhole := ⟨12, 12⟩, scaleSixteenths := ⟨8, 8⟩, brakeSettle := 400,
    creepSpeed := 100, travelSpeed := 1000, creepDistance := 600, rampStep := 20, trimBand := 15, trimGain := 20,
    skewLimit := 60, lockTimeout := 6, channelClearTime := 30, noShowTime := 8 }

/-- The table at power-on (R30). -/
def Table.reset : Table :=
  { tb := 8, qb := 40, entries := List.replicate 64 Entry.vacant, generations := List.replicate 64 ⟨0, true⟩,
    dueList := [], arrivalOrder := [], counter := 0, lastLost := none, firstDamaged := none, moreDamaged := false }

/-- The clearance computer at power-on (R31). -/
def Water.reset : Water :=
  { accepted := none, candidate := none, gauge := .unread, staleness := .stopped, effective := 600, sinceMs := none }

/-- The planner at power-on (R49). -/
def Planner.reset : Planner :=
  { holdOff := .stopped, holdOffElapsed := false, roadPriority := false, roadPriorityTimer := .stopped,
    navigationClosed := false, queueCritical := false, evaluationOwed := false, maxRaised := .stopped }

/-- The sequence controller at power-on (R72). -/
def Sequence.reset : Sequence :=
  { state := .inactive, heldPhase := none, causes := 0, opening := none, summary := none,
    roadClosedByOperator := false, closureOrigin := none, counter := 0, windWait := .stopped, entryRaise := false }

/-- A lamp at power-on (R103): off, so its off-check falls due 250 ms later (R110, log 8). -/
def LampRecord.reset : LampRecord :=
  { state := .unproven, output := false, proving := .stopped, offCheck := .running 0 250 }

/-- A head at power-on (R103). -/
def HeadRecord.reset : HeadRecord :=
  { inService := true, amberFail := false, redOneFail := false, redDark := false, currentWhenOff := false,
    lamps := ⟨.reset, .reset, .reset⟩ }

/-- An approach at power-on (R103, R105, R125). -/
def ApproachRecord.reset : ApproachRecord :=
  { phase := .red, command := false, amberTimer := .stopped, half := .a, flasher := .stopped, warning := .warned,
    count := none, permit := false }

/-- An arm before the first input sample: its state is still to be taken from its switches (R122, log 7); the fault
reason is absent as R120 gives it. -/
def ArmRecord.reset : ArmRecord :=
  { state := .fault, commandedEnd := .down, obstructions := 0, reversal := none, retryWait := .stopped,
    travel := .stopped, stoppedDirection := none, faultReason := none }

/-- A detector at power-on (R135). -/
def DetectorRecord.reset : DetectorRecord :=
  { inService := true, occupiedLong := false, occupancy := .stopped, spent := false }

/-- The road guard at power-on. -/
def Guard.reset : Guard :=
  { heads := ⟨.reset, .reset, .reset, .reset, .reset, .reset, .reset, .reset⟩, approaches := ⟨.reset, .reset⟩,
    arms := ⟨.reset, .reset, .reset, .reset⟩, detectors := ⟨.reset, .reset, .reset, .reset, .reset, .reset⟩,
    deck := { measurement := none, clear := .stopped, wait := .stopped, notClear := false },
    seatedLocked := false, halted := false }

/-- A tower at power-on (R141); the levels of its encoder are read at power-on. -/
def TowerRecord.reset : TowerRecord :=
  { count := 0, phaseA := false, phaseB := false, position := 0, outOfRange := false, released := false,
    reference := 0, stopped := false, anchor := none, limitBefore := false }

/-- A bolt before the first input sample (R161). -/
def BoltRecord.reset : BoltRecord := { state := .fault, reason := some .position, travel := .stopped, waiting := false }

/-- The lift drive unit at power-on (R141). -/
def Drive.reset : Drive :=
  { towers := ⟨.reset, .reset⟩, valid := false, direction := .up, motion := .none, phase := none, holdReason := none,
    target := none, profile := 0, settle := .stopped, jog := none, lastZeroing := none, bolts := ⟨.reset, .reset⟩,
    armVerdict := false, downVerdict := false, stopAsked := false }

/-- The channel unit at power-on (R170). -/
def Channel.reset : Channel :=
  { masts := ⟨.fault, .fault⟩, recognizers := ⟨none, none⟩, zoneCount := 0, zoneList := [], clearTimer := .stopped,
    clearRun := false, serving := none, servedLast := none, reliftArmed := false, deferredCheck := false,
    servingRuns := false, standing := false, levelRead := false }

/-- The clock at power-on (R198). -/
def Clock.reset : Clock :=
  { minute := 0, seconds := 0, valid := false, lock := .free, reference := none, recaptureRun := 0,
    stepTimer := .running 0 1000, supervision := .stopped, early := false, lastMark := none, measuring := .stopped,
    sinceStep := none }

/-- The control port at power-on (R206): every one of its 24 sources enabled. -/
def PortRecord.resetControl : PortRecord :=
  { station := 0, baud := .b9600, receiver := .ignoring, buffer := [], attention := 0, enable := 0xFFFFFF#24,
    response := none }

/-- The harbour port at power-on (R206): every one of its 7 sources enabled. -/
def PortRecord.resetHarbour : PortRecord := { PortRecord.resetControl with enable := 0x7F#24 }

/-- The machine right after power-on (R30, R31, R49, R72, R103, R120, R135, R141, R170, R195, R198, R206, R219). -/
def State.reset : State :=
  { pending := [], mode := .configuring, ports := ⟨.resetControl, .resetHarbour⟩, params := .default, table := .reset,
    water := .reset, planner := .reset, seq := .reset, guard := .reset, drive := .reset, channel := .reset,
    clock := .reset, inputs := none, freeCount := 0 }

end Sys2Proof.Machine
end

