-- ==== Sys2Proof/Machine/Inputs.lean ====
section
/-!
DEFINITION. The filtered inputs of R194: the bit of each input in a word of readings, the majority of the last three
readings, and what the other blocks read from them.
The bit places are the model's (log 3), in the order of the table of R194 and of R214.
-/

namespace Sys2Proof.Machine

namespace RawInputs

/-- UP switch of an arm: bits 0, 3, 6, 9. -/
def armUp (x : RawInputs) (a : Arm) : Bool := x.getLsbD (3 * a.ctorIdx)
/-- DOWN switch of an arm: bits 1, 4, 7, 10. -/
def armDown (x : RawInputs) (a : Arm) : Bool := x.getLsbD (3 * a.ctorIdx + 1)
/-- Obstruction edge of an arm: bits 2, 5, 8, 11. -/
def obstruction (x : RawInputs) (a : Arm) : Bool := x.getLsbD (3 * a.ctorIdx + 2)
/-- Current input of a lamp: bits 12 to 35. -/
def current (x : RawInputs) (h : Head) (l : Lamp) : Bool := x.getLsbD (12 + 3 * h.ctorIdx + l.ctorIdx)
/-- A deck detector: bits 36 to 41. -/
def occupied (x : RawInputs) (d : Detector) : Bool := x.getLsbD (36 + d.ctorIdx)
/-- Seat switch of a tower: bits 42, 44. -/
def seat (x : RawInputs) (t : Tower) : Bool := x.getLsbD (42 + 2 * t.ctorIdx)
/-- Upper limit switch of a tower: bits 43, 45. -/
def upperLimit (x : RawInputs) (t : Tower) : Bool := x.getLsbD (43 + 2 * t.ctorIdx)
/-- Span level switch: bit 46. -/
def level (x : RawInputs) : Bool := x.getLsbD 46
/-- WITHDRAWN switch of a bolt: bits 47, 49. -/
def withdrawn (x : RawInputs) (b : Tower) : Bool := x.getLsbD (47 + 2 * b.ctorIdx)
/-- DRIVEN switch of a bolt: bits 48, 50. -/
def driven (x : RawInputs) (b : Tower) : Bool := x.getLsbD (48 + 2 * b.ctorIdx)
/-- Outer beam of an edge, set = broken: bits 51, 53. -/
def outer (x : RawInputs) (e : Edge) : Bool := x.getLsbD (51 + 2 * e.ctorIdx)
/-- Inner beam of an edge, set = broken: bits 52, 54. -/
def inner (x : RawInputs) (e : Edge) : Bool := x.getLsbD (52 + 2 * e.ctorIdx)
/-- Wind-limit line: bit 55. -/
def wind (x : RawInputs) : Bool := x.getLsbD 55
/-- Emergency-stop line: bit 56. -/
def emergencyStop (x : RawInputs) : Bool := x.getLsbD 56

/-- The value at least two of three readings share, input by input (R194). -/
def majority (a b c : RawInputs) : RawInputs := (a &&& b) ||| (a &&& c) ||| (b &&& c)

end RawInputs

/-- The filtered values (R194). Before the first input sample every input reads as released, unoccupied, clear and
without current (log 7). -/
def filtered (s : State) : RawInputs :=
  match s.inputs with
  | none => 0
  | some (a, b, c) => RawInputs.majority a b c

/-- A new reading of every input: the oldest is dropped (R194), the first is written into all three places (R195). -/
def takeReading (raw : RawInputs) (s : State) : State :=
  { s with
    inputs := match s.inputs with
      | none => some (raw, raw, raw)
      | some (_, b, c) => some (b, c, raw) }

/-- Both filtered seat switches made. -/
def seated (s : State) : Bool := RawInputs.seat (filtered s) .w && RawInputs.seat (filtered s) .e

/-- All four beams are found clear. Before the first input sample there is no reading that finds them so (R177, R195):
DEDUCED (log 45). -/
def beamsClear (s : State) : Bool :=
  let x := filtered s
  s.inputs.isSome && !RawInputs.outer x .u && !RawInputs.inner x .u && !RawInputs.outer x .d && !RawInputs.inner x .d

end Sys2Proof.Machine
end

