-- ==== Sys2Proof/Machine/Flags.lean ====
section
/-!
DEFINITION. The sets of flags the part reports by: the attention sets of R221 to R224 and the fault causes of R94.
-/

namespace Sys2Proof.Machine

/-- The one bit of a control-port source: bit k − 1 for place k (R224). -/
def ControlSource.bit (x : ControlSource) : BitVec 24 := 1#24 <<< x.ctorIdx

/-- The one bit of a harbour-port source (R224). -/
def HarbourSource.bit (x : HarbourSource) : BitVec 24 := 1#24 <<< x.ctorIdx

/-- The number of sources of a port (R224). -/
def sourceCount : Port → Nat
  | .control => 24
  | .harbour => 7

/-- A source is raised at the control port (R221). -/
def raiseControl (x : ControlSource) (s : State) : State :=
  { s with ports := { s.ports with control := { s.ports.control with
      attention := s.ports.control.attention ||| x.bit } } }

/-- A source is raised at the harbour port (R221). -/
def raiseHarbour (x : HarbourSource) (s : State) : State :=
  { s with ports := { s.ports with harbour := { s.ports.harbour with
      attention := s.ports.harbour.attention ||| x.bit } } }

/-- The attention line of a port (R221): asserted while the two sets have a source in common. -/
def attentionLine (s : State) (p : Port) : Bool :=
  (s.ports.get p).attention &&& (s.ports.get p).enable != 0

/-- The lowest set bit among the first `n` from `k` on, counted from 1; 0 for none. -/
def lowestPlace (x : BitVec 24) : Nat → Nat → Nat
  | _, 0 => 0
  | k, n + 1 => if x.getLsbD k then k + 1 else lowestPlace x (k + 1) n

/-- The enabled pending source of highest priority at a port by its place, 0 for NONE (R223, R224). -/
def fetchPlace (r : PortRecord) : Nat := lowestPlace (r.attention &&& r.enable) 0 24

/-- The number of set bits. -/
def countBits (x : BitVec 24) : Nat := ((List.range 24).filter (fun k => x.getLsbD k)).length

/-- The one bit of a fault cause (R94). -/
def FaultCause.bit (c : FaultCause) : BitVec 10 := 1#10 <<< c.ctorIdx

/-- A cause enters the set of fault causes (R94). -/
def addCause (c : FaultCause) (s : State) : State :=
  { s with seq := { s.seq with causes := s.seq.causes ||| c.bit } }

end Sys2Proof.Machine
end

