-- ==== Sys2Proof/WellFormed.lean ====
section
/-!
DEFINITION. Which commands a sender can give at all: the check refuses a term that stands for no event of the line
(a request frame longer than R208 allows, a discard whose cause is none, a catalogued code called unknown).
A command that fails the check still has a meaning: it leaves the state as R207 to R212 leave it (log 3).
-/

namespace Sys2Proof

/-- The longest payload of a request frame: a body of 250 bytes less the request code (R208). -/
def payloadLimit : Nat := 249

/-- The request codes of the catalogue (R215) are 1 to 51. -/
def cataloguedCode (code : Byte) : Bool := 1 ≤ code.toNat && code.toNat ≤ 51

/-- The check on a discard: a character with a framing error has its start bit and its stop bit at space, a length named
bad is 0 or above 250, and a body has 1 to 250 bytes (R207, R208, R210). -/
def DiscardCause.wf : DiscardCause → Bool
  | .framingError x => !x.getLsbD 0 && !x.getLsbD 10
  | .badLength n => n.toNat == 0 || 250 < n.toNat
  | .badCheck body _ _ => 1 ≤ body.length && body.length ≤ 250
  | .earlyMark _ => true

/-- The payload of a request, where the command is one. -/
def Instr.requestPayload : Instr → Option (List Byte)
  | .createBooking _ p | .createTimetable _ p | .postArrival _ p | .amend _ p | .withdraw _ p | .release _ p
  | .deleteTimetable _ p | .lookUp _ p | .find _ p | .list _ p | .listDue _ p | .queueStatus _ p | .clearDamage _ p
  | .clearTable _ p | .setRegions _ p | .waterLevel _ p | .clearanceStatus _ p | .openingStatus _ p | .openNow _ p
  | .closeSpan _ p | .abandon _ p | .roadPriority _ p | .roadPriorityEnd _ p | .closeNavigation _ p
  | .openNavigation _ p | .closeRoad _ p | .reopenRoad _ p | .stop _ p | .resume _ p | .recoverSeat _ p
  | .sequenceStatus _ p | .confirmUnwarned _ p | .clearLamp _ p | .headService _ p | .clearRoadStatus _ p
  | .armRetry _ p | .armService _ p | .detectorService _ p | .roadStatus _ p | .jog _ p | .driveStatus _ p
  | .zoneReset _ p | .channelStatus _ p | .setTime _ p | .clockStatus _ p | .configure _ p | .commission _ p
  | .setParameter _ p | .readParameter _ p | .fetchAttention _ p | .setAttentionEnable _ p
  | .unknownRequest _ _ p => some p
  | _ => none

/-- The check on a command: payload length, unknown code, discard cause, slot position (at most 8 slots, R73). -/
def Instr.wf (i : Instr) : Bool :=
  (match i.requestPayload with
    | some p => decide (p.length ≤ payloadLimit)
    | none => true) &&
  (match i with
    | .unknownRequest _ code _ => !cataloguedCode code
    | .frameDiscarded _ cause => cause.wf
    | .noShowTimerExpiry slot => decide (slot < 8)
    | _ => true)

end Sys2Proof
end

