-- ==== Sys2Proof/Machine/Operands.lean ====
section
/-!
DEFINITION. The operand forms: reading the fields of a payload and writing those of a response (R214), the check of a
frame (R209), the characters of the line (R207), the taking of a request frame and the sending of its response (R208,
R212, R213).
-/

namespace Sys2Proof.Machine

/-! ## Fields of a request -/

/-- The byte at an offset of the payload. -/
def byteAt (p : List Byte) (k : Nat) : Nat := (p.getD k 0).toNat

/-- A two-byte unsigned number, most significant byte first. -/
def wordAt (p : List Byte) (k : Nat) : Nat := byteAt p k * 256 + byteAt p (k + 1)

/-- A two-byte signed number, two's complement. -/
def signedAt (p : List Byte) (k : Nat) : Int := (BitVec.ofNat 16 (wordAt p k)).toInt

/-- A four-byte signed number. -/
def longAt (p : List Byte) (k : Nat) : Int :=
  (BitVec.ofNat 32 (wordAt p k * 65536 + wordAt p (k + 2))).toInt

/-- The eight characters of a vessel identity. -/
def identityAt (p : List Byte) (k : Nat) : List Byte := (p.drop k).take 8

/-- Every character of an identity is of code 32 to 126 (R3). -/
def identityOk (x : List Byte) : Bool :=
  x.length == 8 && x.all (fun c => decide (32 ≤ c.toNat) && decide (c.toNat ≤ 126))

/-- A named value by its position. -/
def named {α : Type} (values : List α) (code : Nat) : Option α := values[code]?

/-- Yes is 1 and no is 0 (log 19). -/
def yesNo : Nat → Option Bool
  | 0 => some false
  | 1 => some true
  | _ => none

/-- A presence byte followed by a value (R214): `none` for a byte other than 0 and 1. -/
def optional {α : Type} (presence : Nat) (value : α) : Option (Option α) :=
  match presence with
  | 0 => some none
  | 1 => some (some value)
  | _ => none

/-! ## Fields of a response -/

/-- A one-byte number or code. -/
def put1 (n : Nat) : List Byte := [BitVec.ofNat 8 n]

/-- A two-byte unsigned number. -/
def put2 (n : Nat) : List Byte := [BitVec.ofNat 8 (n / 256), BitVec.ofNat 8 n]

/-- A two-byte number in two's complement; a larger one keeps its low 16 bits (log 20). -/
def putInt2 (i : Int) : List Byte := put2 (BitVec.ofInt 16 i).toNat

/-- A four-byte number in two's complement. -/
def putInt4 (i : Int) : List Byte :=
  let n := (BitVec.ofInt 32 i).toNat
  put2 (n / 65536) ++ put2 (n % 65536)

/-- Yes or no, set or clear (log 19). -/
def putBool (b : Bool) : List Byte := put1 b.toNat

/-- A field that may be absent: presence byte, then the field or zeros in its size (R214). -/
def putOpt {α : Type} (size : Nat) (f : α → List Byte) : Option α → List Byte
  | none => 0 :: List.replicate size 0
  | some x => 1 :: f x

/-- A tag (R214). -/
def putTag (index : Nat) (generation : BitVec 4) : List Byte := put1 index ++ put1 generation.toNat

/-- The control port's sets take three bytes, the harbour port's one (R224). -/
def putSources (p : Port) (x : BitVec 24) : List Byte :=
  match p with
  | .control => put1 (x.toNat / 65536) ++ put2 (x.toNat % 65536)
  | .harbour => put1 x.toNat

/-! ## The check of a frame -/

/-- One bit of the register of R209 shifted out. -/
def crcShift (r : BitVec 16) : BitVec 16 := if r.getLsbD 15 then (r <<< 1) ^^^ 0x1021#16 else r <<< 1

/-- One byte into the register, most significant bit first (R209). -/
def crcByte (r : BitVec 16) (b : Byte) : BitVec 16 :=
  Nat.repeat crcShift 8 (r ^^^ (b.zeroExtend 16 <<< 8))

/-- The check of a run of bytes: preset to all ones, not inverted (R209). -/
def crc16 (bytes : List Byte) : BitVec 16 := bytes.foldl crcByte 0xFFFF#16

/-- The check over address mark, length and body (R209). -/
def frameCheck (station : BitVec 7) (body : List Byte) : BitVec 16 :=
  crc16 (station.zeroExtend 8 :: BitVec.ofNat 8 body.length :: body)

/-- The two bytes of a check, high byte first (R208). -/
def checkBytes (c : BitVec 16) : List Byte := put2 c.toNat

/-! ## Characters -/

/-- A character of a port's line: its low eight bits and its mark bit, the ninth (R207). -/
structure Character where
  data : Byte
  mark : Bool
deriving DecidableEq, Repr

/-- The levels of a character (R207): a start bit at space, nine data bits with the least significant first, a stop bit
at mark. -/
def Character.levels (c : Character) : Levels :=
  c.data.zeroExtend 11 <<< 1 ||| (if c.mark then 1#11 <<< 9 else 0) ||| 1#11 <<< 10

/-- The character that levels show; none where the stop bit is at space, a framing error (R207). -/
def receivedCharacter (x : Levels) : Option Character :=
  if x.getLsbD 10 then some { data := (x >>> 1).truncate 8, mark := x.getLsbD 9 } else none

/-- The bits a second of a baud rate (R206). -/
def bitsPerSecond : Baud → Nat
  | .b9600 => 9600
  | .b19200 => 19200
  | .b38400 => 38400
  | .b115200 => 115200

/-- A character time, in seconds: eleven bit times at the port's baud rate (R207). -/
def characterTime (b : Baud) : Rat := 11 / bitsPerSecond b

/-! ## Requests and responses -/

/-- What an owner answers: a status and the response payload. -/
structure Answer where
  status : Status
  payload : List Byte
deriving DecidableEq, Repr

/-- A refusal without payload (R213). -/
def refuse (x : Status) : Answer := { status := x, payload := [] }

/-- OK with a payload. -/
def accept (payload : List Byte) : Answer := { status := .ok, payload := payload }

/-- The modes in which a request is decoded (R215). -/
inductive Modes | both | configuringOnly | serviceOnly deriving DecidableEq, Repr

/-- Whether a request of these modes is decoded in a mode (R212). -/
def Modes.admits : Modes → Mode → Bool
  | .both, _ => true
  | .configuringOnly, m => m == .configuring
  | .serviceOnly, m => m == .service

/-- A row of the request catalogue (R215) with the payload length of R214. -/
structure CatalogueRow where
  code : Nat
  harbour : Bool
  control : Bool
  modes : Modes
  length : Nat
deriving DecidableEq, Repr

/-- Whether a port holds a request (R215). -/
def CatalogueRow.held (r : CatalogueRow) : Port → Bool
  | .control => r.control
  | .harbour => r.harbour

/-- A new record of one port. -/
def setPort (p : Port) (r : PortRecord) (s : State) : State := { s with ports := s.ports.set p r }

/-- A port takes no frame while BUSY or while a response is in transit (R210, R211). -/
def portFree (s : State) (p : Port) : Bool :=
  (s.ports.get p).receiver != .busy && (s.ports.get p).response.isNone

/-- The receive buffer after a whole frame: length, body, check (R208). -/
def frameBuffer (station : BitVec 7) (body : List Byte) : List Byte :=
  BitVec.ofNat 8 body.length :: body ++ checkBytes (frameCheck station body)

/-- The characters of a frame (R208, R225): the address mark with the port's station, alone in having its mark bit set,
then the length, the body, and the check over all of them, high byte first (R209). -/
def frameCharacters (station : BitVec 7) (body : List Byte) : List Character :=
  { data := station.zeroExtend 8, mark := true } ::
    (frameBuffer station body).map (fun b => { data := b, mark := false })

/-- The characters of a response (R213, R225): the body is the request code, the status and the payload. -/
def responseFrame (station : BitVec 7) (r : Response) : List Character :=
  frameCharacters station (BitVec.ofNat 8 r.code :: BitVec.ofNat 8 r.status.ctorIdx :: r.payload)

/-- What a port sends: the frame of the response in transit (R213). -/
def transmitted (r : PortRecord) : List Character :=
  match r.response with
  | some x => responseFrame r.station x
  | none => []

/-- The levels of the transmit line, one for each bit time: the characters of the response one after the other, without
gaps (R207). With no response the line rests at mark. -/
def transmitLevels (r : PortRecord) : List Bool :=
  (transmitted r).flatMap (fun c => (List.range 11).map (fun k => c.levels.getLsbD k))

/-- A good frame, of the characters `frameCharacters` gives, is taken: the receiver enters BUSY with the frame in its
buffer (R208). -/
def takeFrame (p : Port) (body : List Byte) (s : State) : State :=
  let r := s.ports.get p
  setPort p { r with receiver := .busy, buffer := frameBuffer r.station body } s

/-- The response to the frame taken starts (R213). -/
def respond (p : Port) (code : Nat) (a : Answer) (s : State) : State :=
  setPort p { s.ports.get p with response := some { code := code, status := a.status, payload := a.payload } } s

/-- The receiver drops what it has and waits for an address mark; the buffer is emptied (R210, log 24). -/
def discardFrame (p : Port) (s : State) : State :=
  setPort p { s.ports.get p with receiver := .ignoring, buffer := [] } s

/-- The checks of a taken frame after its code, in the order of R212: the first that fails. -/
def decodeRefusal (row : CatalogueRow) (p : Port) (payload : List Byte) (m : Mode) : Option Status :=
  if !row.held p then some .notPermitted
  else if payload.length != row.length then some .malformed
  else if !row.modes.admits m then some .wrongMode
  else none

/-- One request: a frame that the port cannot take is lost, one too long for a frame is discarded, any other is taken,
decoded (R212), handed to its owner and answered (R213). -/
def request (p : Port) (row : CatalogueRow) (payload : List Byte) (owner : State → State × Answer) (s : State) :
    State :=
  if !portFree s p then s
  else if payloadLimit < payload.length then discardFrame p s
  else
    let s1 := takeFrame p (BitVec.ofNat 8 row.code :: payload) s
    match decodeRefusal row p payload s.mode with
    | some x => respond p row.code (refuse x) s1
    | none => respond p row.code (owner s1).2 (owner s1).1

end Sys2Proof.Machine
end

