-- ==== Sys2Proof/Machine/Ops.lean ====
section
/-!
DEFINITION. The shared operations: timers and the passage of time, the bounded loop of consequences, small changes of
one block's record.
-/

namespace Sys2Proof.Machine

/-! ## Timers -/

/-- A timer started for `limit`. -/
def Timer.start (limit : Nat) : Timer := .running 0 limit

/-- A timer after more time: never past its limit, but for one that counts on beyond it. -/
def Timer.advance (ms : Nat) : Timer → Timer
  | .running c l => .running (min (c + ms) l) l
  | .over c => .over (c + ms)
  | t => t

/-- A timer stopped with its time kept (R97, R98, R139). -/
def Timer.pause : Timer → Timer
  | .running c l => .paused c l
  | .over c => .paused c c
  | t => t

/-- A timer that has reached its limit and counts on (R137). -/
def Timer.overrun : Timer → Timer
  | .running _ l => .over l
  | t => t

/-- Whether a timer runs towards its limit. -/
def Timer.isRunning : Timer → Bool
  | .running _ _ => true
  | _ => false

/-- What a timer that runs has counted, before its limit or beyond it. -/
def Timer.running? : Timer → Option Nat
  | .running c _ => some c
  | .over c => some c
  | _ => none

/-- Whether a running timer has reached its limit. -/
def Timer.expired : Timer → Bool
  | .running c l => decide (l ≤ c)
  | _ => false

/-- What a running timer still has to count. -/
def Timer.remaining : Timer → Option Nat
  | .running c l => some (l - c)
  | _ => none

/-- What a timer has counted; 0 where it is stopped. -/
def Timer.counted : Timer → Nat
  | .running c _ => c
  | .paused c _ => c
  | .over c => c
  | .stopped => 0

/-- The time a warning count has to reach: T_warn, or twice that when doubled (R115). -/
def WarningCount.required (c : WarningCount) : Nat := if c.doubled then 2 * c.base else c.base

/-- A warning count as a timer. -/
def WarningCount.timer (c : WarningCount) : Timer :=
  match c.status with
  | .running => .running c.counted c.required
  | _ => .stopped

/-- A warning count after more time. -/
def WarningCount.advance (ms : Nat) (c : WarningCount) : WarningCount :=
  match c.status with
  | .running => { c with counted := min (c.counted + ms) c.required }
  | _ => c

/-! ## The passage of time -/

/-- Time at a lamp: its proving and its off-check. -/
def LampRecord.advance (ms : Nat) (l : LampRecord) : LampRecord :=
  { l with proving := l.proving.advance ms, offCheck := l.offCheck.advance ms }

/-- Time at a head. -/
def HeadRecord.advance (ms : Nat) (h : HeadRecord) : HeadRecord := { h with lamps := h.lamps.map (·.advance ms) }

/-- Time at an approach. -/
def ApproachRecord.advance (ms : Nat) (a : ApproachRecord) : ApproachRecord :=
  { a with amberTimer := a.amberTimer.advance ms, flasher := a.flasher.advance ms,
           count := a.count.map (·.advance ms) }

/-- Time at an arm. -/
def ArmRecord.advance (ms : Nat) (a : ArmRecord) : ArmRecord :=
  { a with retryWait := a.retryWait.advance ms, travel := a.travel.advance ms }

/-- Time at a detector. -/
def DetectorRecord.advance (ms : Nat) (d : DetectorRecord) : DetectorRecord :=
  { d with occupancy := d.occupancy.advance ms }

/-- Time at the road guard. -/
def Guard.advance (ms : Nat) (g : Guard) : Guard :=
  { g with
    heads := g.heads.map (·.advance ms), approaches := g.approaches.map (·.advance ms),
    arms := g.arms.map (·.advance ms), detectors := g.detectors.map (·.advance ms),
    deck := { g.deck with clear := g.deck.clear.advance ms, wait := g.deck.wait.advance ms } }

/-- Time at the lift drive unit. -/
def Drive.advance (ms : Nat) (d : Drive) : Drive :=
  { d with
    settle := d.settle.advance ms, jog := d.jog.map (fun j => { j with keepAlive := j.keepAlive.advance ms }),
    bolts := d.bolts.map (fun b => { b with travel := b.travel.advance ms }) }

/-- Time at the slots of an opening: the no-show timers (R188). -/
def Opening.advance (ms : Nat) (o : Opening) : Opening :=
  { o with slots := o.slots.map (fun x => { x with noShow := x.noShow.advance ms }) }

/-- Time at the sequence controller. -/
def Sequence.advance (ms : Nat) (q : Sequence) : Sequence :=
  { q with windWait := q.windWait.advance ms, opening := q.opening.map (·.advance ms) }

/-- Time at the clearance computer; the seconds since acceptance stop at 65535 (R31). -/
def Water.advance (ms : Nat) (w : Water) : Water :=
  { w with staleness := w.staleness.advance ms, sinceMs := w.sinceMs.map (fun n => min (n + ms) Config.sinceMaxMs) }

/-- Time at the bridge clock. -/
def Clock.advance (ms : Nat) (c : Clock) : Clock :=
  { c with
    reference := c.reference.map (· + ms), stepTimer := c.stepTimer.advance ms,
    supervision := c.supervision.advance ms, measuring := c.measuring.advance ms,
    sinceStep := c.sinceStep.map (· + ms) }

/-- Time passes: every running timer of real time counts, none past its limit (log 1). The planner's timers count
minute events and are left (R51). -/
def elapse (ms : Nat) (s : State) : State :=
  { s with
    water := s.water.advance ms, seq := s.seq.advance ms, guard := s.guard.advance ms, drive := s.drive.advance ms,
    channel := { s.channel with clearTimer := s.channel.clearTimer.advance ms }, clock := s.clock.advance ms }

/-- An expiry command: where its timer runs, time runs on to the expiry and the expiry happens; where it does not run,
there is no expiry and the state is unchanged (log 2). -/
def expire (t : Timer) (act : State → State) (s : State) : State :=
  match t with
  | .running c l => act (elapse (l - c) s)
  | _ => s

/-- An expiry of a timer that counts minute events (log 2). -/
def expireMinutes (t : Timer) (act : State → State) (s : State) : State :=
  match t with
  | .running _ _ => act s
  | _ => s

/-! ## Consequences -/

/-- The consequences of a change are worked off one at a time, until none is left or the bound is reached (log 10). -/
def iterate (rule : State → Option State) : Nat → State → State
  | 0, s => s
  | n + 1, s =>
    match rule s with
    | none => s
    | some s' => iterate rule n s'

/-- The first rule of a list that applies. -/
def firstRule : List (State → Option State) → State → Option State
  | [], _ => none
  | r :: rest, s =>
    match r s with
    | some s' => some s'
    | none => firstRule rest s

/-- A rule that acts where its condition holds. -/
def whenever (c : State → Bool) (f : State → State) (s : State) : Option State := if c s then some (f s) else none

/-! ## Records -/

/-- A new record of one arm. -/
def setArm (a : Arm) (r : ArmRecord) (s : State) : State :=
  { s with guard := { s.guard with arms := s.guard.arms.set a r } }

/-- A new record of one head. -/
def setHead (h : Head) (r : HeadRecord) (s : State) : State :=
  { s with guard := { s.guard with heads := s.guard.heads.set h r } }

/-- A new record of one lamp. -/
def setLamp (h : Head) (l : Lamp) (r : LampRecord) (s : State) : State :=
  let x := s.guard.heads.get h
  setHead h { x with lamps := x.lamps.set l r } s

/-- A new record of one approach. -/
def setApproach (a : Approach) (r : ApproachRecord) (s : State) : State :=
  { s with guard := { s.guard with approaches := s.guard.approaches.set a r } }

/-- A new record of one detector. -/
def setDetector (d : Detector) (r : DetectorRecord) (s : State) : State :=
  { s with guard := { s.guard with detectors := s.guard.detectors.set d r } }

/-- A new record of the deck. -/
def setDeck (r : Deck) (s : State) : State := { s with guard := { s.guard with deck := r } }

/-- A new record of one bolt. -/
def setBolt (b : Tower) (r : BoltRecord) (s : State) : State :=
  { s with drive := { s.drive with bolts := s.drive.bolts.set b r } }

/-- A new record of one tower. -/
def setTower (t : Tower) (r : TowerRecord) (s : State) : State :=
  { s with drive := { s.drive with towers := s.drive.towers.set t r } }

/-- The opening record, changed where there is one. -/
def mapOpening (f : Opening → Opening) (s : State) : State :=
  { s with seq := { s.seq with opening := s.seq.opening.map f } }

/-- The closing call is set exactly while a closing cause is present (R73). -/
def closingCall (s : State) : Bool :=
  match s.seq.opening with
  | some o => o.closingCause.isSome
  | none => false

/-- The slots of the opening record, none where there is no record. -/
def slots (s : State) : List Slot :=
  match s.seq.opening with
  | some o => o.slots
  | none => []

/-- A slot by its serial number. -/
def findSlot (serial : Nat) (s : State) : Option Slot := (slots s).find? (fun x => x.serial == serial)

/-- A slot changed where it stands. -/
def mapSlot (serial : Nat) (f : Slot → Slot) (s : State) : State :=
  mapOpening (fun o => { o with slots := o.slots.map (fun x => if x.serial == serial then f x else x) }) s

/-- Every in-service arm is in state DOWN (R123, R148). An arm out of service is no in-service arm. -/
def allArmsDown (s : State) : Bool :=
  allArms.all (fun a =>
    let st := (s.guard.arms.get a).state
    st == .down || st == .outOfService)

/-- An arm is at an end, or out of service in its place (R80, R82, R89). -/
def armAt (a : Arm) (e : ArmState) (s : State) : Bool :=
  let st := (s.guard.arms.get a).state
  st == e || st == .outOfService

/-- Both bolts are in one state. -/
def boltsAre (b : BoltState) (s : State) : Bool := s.drive.bolts.w.state == b && s.drive.bolts.e.state == b

/-- The span is seated and locked: both filtered seat switches made and both bolts DRIVEN (R105). -/
def spanSecure (s : State) : Bool := seated s && boltsAre .driven s

/-- The downward verdict: the zone count is 0 and all four beams are clear (R177). -/
def channelClear (s : State) : Bool := s.channel.zoneCount == 0 && beamsClear s

/-- The channel conditions for lowering: the channel-clear condition with its timer run (R86, R177). -/
def channelConditions (s : State) : Bool := channelClear s && s.channel.clearRun

end Sys2Proof.Machine
end

