-- ==== Sys2Proof/Machine/Clearance.lean ====
section
/-!
DEFINITION. The clearance computer (chapter 2): readings, the effective water level, the need and the tests.
Lengths are whole centimetres, positions and lifts whole millimetres.
-/

namespace Sys2Proof.Machine

/-- The need n = A + M + X + L − C0, in cm (R39). -/
def need (p : Parameters) (airDraft level allowance : Int) : Int :=
  airDraft + p.margin + allowance + level - p.closedClearance

/-- The required lift of a need: 0 where n ≤ 0, else 100 × ⌈n / 10⌉ mm (R39). -/
def liftOfNeed (n : Int) : Int := if n ≤ 0 then 0 else 100 * ((n + 9) / 10)

/-- The required lift at L_eff with X = T (R44, R45, R46, R61). -/
def requiredLift (s : State) (airDraft : Int) : Int :=
  liftOfNeed (need s.params airDraft s.water.effective s.params.tideAllowance)

/-- The too-tall test fails when A + M + L_low − C0 > Hmax / 10 (R40). -/
def tooTall (p : Parameters) (airDraft : Int) : Bool :=
  decide (p.maxLift < 10 * (airDraft + p.margin + p.lowWater - p.closedClearance))

/-- The fits-under test passes when the need with X = 0 at the level named is at most 0 (R41). -/
def fitsUnder (p : Parameters) (airDraft level : Int) : Bool := decide (need p airDraft level 0 ≤ 0)

/-- The tide-hold test: the required lift at L_eff with X = T exceeds Hmax (R43). -/
def tideHeld (s : State) (airDraft : Int) : Bool := decide (s.params.maxLift < requiredLift s airDraft)

/-- The effective water level of a status (R36). -/
def effectiveLevel (p : Parameters) (w : Water) : Int :=
  match w.gauge, w.accepted with
  | .live, some v => v
  | .stale, some v => v + p.gaugeMargin
  | _, _ => p.highWater

/-- L_eff is recomputed (R36). -/
def recomputeLevel (s : State) : State :=
  { s with water := { s.water with effective := effectiveLevel s.params s.water } }

/-- A reading clamped to the gauge range (R33). -/
def clampReading (v : Int) : Int := max Config.gaugeMin (min v Config.gaugeMax)

/-- The jump comparison (R34): the disposition of a clamped reading. -/
def judgeReading (p : Parameters) (w : Water) (v : Int) : Disposition :=
  match w.accepted with
  | none => .accepted
  | some a =>
    if decide (|v - a| ≤ p.jumpLimit) then .accepted
    else
      match w.candidate with
      | some c => if decide (|v - c| ≤ p.jumpLimit) then .confirmed else .held
      | none => .held

/-- An acceptance (R35, R36). -/
def acceptReading (v : Int) (s : State) : State :=
  recomputeLevel { s with water := { s.water with
    accepted := some v, candidate := none, sinceMs := some 0, gauge := .live,
    staleness := .start (1000 * s.params.staleTime) } }

/-- A reading held as the new candidate; GAUGE_JUMP where none was held (R34). -/
def holdReading (v : Int) (s : State) : State :=
  let s1 := if s.water.candidate.isNone then raiseControl .gaugeJump s else s
  { s1 with water := { s1.water with candidate := some v } }

/-- The two positions of the towers, mm. -/
def positions (s : State) : Int × Int := (s.drive.towers.w.position, s.drive.towers.e.position)

/-- The span position: half the sum of the two, rounded down (R146). -/
def spanPosition (s : State) : Int := (s.drive.towers.w.position + s.drive.towers.e.position) / 2

/-- The skew p_W − p_E (R146). -/
def skew (s : State) : Int := s.drive.towers.w.position - s.drive.towers.e.position

/-- The lower tower position (R146). -/
def lowerPosition (s : State) : Int := min s.drive.towers.w.position s.drive.towers.e.position

/-- The available clearance C0 + ⌊p_low / 10⌋ − L_eff, cm (R47). -/
def availableClearance (s : State) : Int :=
  s.params.closedClearance + lowerPosition s / 10 - s.water.effective

/-- Whether the clearance is sufficient for an air draft; never while the positions are not valid (R47). -/
def sufficient (s : State) (airDraft : Int) : Bool :=
  s.drive.valid && decide (airDraft + s.params.margin ≤ availableClearance s)

/-- The used slots that are not DONE. -/
def openSlots (s : State) : List Slot := (slots s).filter (fun x => x.state != .done)

/-- The greatest lift of a list of slots, raised to 100 mm and lowered to Hmax (R44, R45). -/
def boundedTarget (p : Parameters) (lifts : List Int) : Int :=
  min p.maxLift (max 100 (lifts.foldl max 0))

/-- The lift copies of the slots not DONE, computed anew (R44, R45). -/
def rewriteLifts (s : State) : State :=
  mapOpening (fun o => { o with
    slots := o.slots.map (fun x => if x.state == .done then x else { x with lift := requiredLift s x.airDraft }) }) s

/-- The target of the first entry to LIFTING (R44): Hmax for an operator lift, the floor where no slot is left. -/
def firstTarget (s : State) : Int :=
  match s.seq.opening with
  | some o => if o.operatorLift then s.params.maxLift
              else boundedTarget s.params ((openSlots s).map (fun x => requiredLift s x.airDraft))
  | none => 100

/-- A target is stored with the present L_eff as the level used (R44, R45). -/
def storeTarget (t : Int) (s : State) : State :=
  mapOpening (fun o => { o with target := some t, levelUsed := some s.water.effective }) s

end Sys2Proof.Machine
end

