-- ==== Sys2Proof/Machine/Table.lean ====
section
/-!
DEFINITION. The passage table (chapter 1): reads with their check codes, stamps, the due list, the changes of R8,
retirement, window evaluation.
-/

namespace Sys2Proof.Machine

/-- The entry at an index. -/
def entryAt (s : State) (i : Nat) : Entry := s.table.entries.getD i Entry.vacant

/-- The generation of an index. -/
def generationAt (s : State) (i : Nat) : Generation := s.table.generations.getD i ⟨0, true⟩

/-- The table changed. -/
def mapTable (f : Table → Table) (s : State) : State := { s with table := f s.table }

/-- An entry written with a good check code (R26). -/
def writeEntry (i : Nat) (e : Entry) (s : State) : State :=
  mapTable (fun t => { t with entries := t.entries.set i { e with codeGood := true } }) s

/-- A generation written with a good check code (R5). -/
def writeGeneration (i : Nat) (g : BitVec 4) (s : State) : State :=
  mapTable (fun t => { t with generations := t.generations.set i ⟨g, true⟩ }) s

/-- The kind of an index by its region (R1). -/
def kindOf (t : Table) (i : Nat) : Kind :=
  if i < t.tb then .timetable else if i < t.qb then .booked else .arrival

/-- The indexes of a region (R1). -/
def regionOf (t : Table) : Kind → List Nat
  | .timetable => List.range t.tb
  | .booked => List.range' t.tb (t.qb - t.tb)
  | .arrival => List.range' t.qb (Config.entryCount - t.qb)

/-- All indexes. -/
def allIndexes : List Nat := List.range Config.entryCount

/-- The live states (1.6 of 00_scope.md). -/
def EntryState.live : EntryState → Bool
  | .pending | .due | .assigned | .cleared | .transiting => true
  | _ => false

/-- The states in which a slot of the opening names the entry (R73). -/
def EntryState.inOpening : EntryState → Bool
  | .assigned | .cleared | .transiting => true
  | _ => false

/-- The age of a stamp: the counter's value minus the stamp, modulo 65536 (R9). -/
def stampAge (t : Table) (stamp : BitVec 16) : Nat := (t.counter - stamp).toNat

/-- The age of an entry's stamp. -/
def entryAge (s : State) (i : Nat) : Nat :=
  match (entryAt s i).dueStamp with
  | some x => stampAge s.table x
  | none => 0

/-- An entry leaves the arrival order. -/
def leaveArrivals (i : Nat) (s : State) : State :=
  mapTable (fun t => { t with arrivalOrder := t.arrivalOrder.filter (· != i) }) s

/-- The number of DUE arrival entries (R10, R55). -/
def dueArrivals (t : Table) : Nat := (t.dueList.filter (fun i => kindOf t i == .arrival)).length

/-- The planner changed. -/
def mapPlanner (f : Planner → Planner) (s : State) : State := { s with planner := f s.planner }

/-- The number of DUE arrival entries, or the critical level, is reported to the planner: the queue-critical flag is
recomputed; a rise raises QUEUE_CRITICAL, and a change with no opening in progress owes a start evaluation (R10, R55,
R57, log 11). -/
def refreshQueueCritical (s : State) : State :=
  let now := decide (s.params.queueCriticalLevel ≤ dueArrivals s.table)
  if now == s.planner.queueCritical then s
  else
    let s1 := mapPlanner (fun p => { p with
      queueCritical := now, evaluationOwed := p.evaluationOwed || s.seq.opening.isNone }) s
    if now then raiseControl .queueCritical s1 else s1

/-- An entry taken out of the due list, with no report of the count. -/
def dropDue (i : Nat) (s : State) : State := mapTable (fun t => { t with dueList := t.dueList.filter (· != i) }) s

/-- An entry leaves the due list, and the count of DUE arrivals is reported (R10, R55). -/
def leaveDue (i : Nat) (s : State) : State := refreshQueueCritical (dropDue i s)

/-- The due list changed by an entry that joins it, and the count of DUE arrivals is reported (R10, R55). -/
def joinDue (place : List Nat → List Nat) (s : State) : State :=
  refreshQueueCritical (mapTable (fun t => { t with dueList := place t.dueList }) s)

/-! ## Damage -/

/-- The slot that names a damaged entry becomes LOST and the lost count rises (R74). -/
def loseSlot (i : Nat) (s : State) : State :=
  mapOpening (fun o =>
    if o.slots.any (fun x => x.entry == some i && x.state != .done) then
      { o with
        lost := o.lost + 1,
        slots := o.slots.map (fun x => if x.entry == some i && x.state != .done then { x with entry := none } else x) }
    else o) s

/-- The damage summary takes an index (R26). -/
def recordDamage (i : Nat) (s : State) : State :=
  mapTable (fun t =>
    match t.firstDamaged with
    | none => { t with firstDamaged := some i }
    | some _ => { t with moreDamaged := true }) s

/-- A DAMAGED arrival entry that stood VACANT joins the tail of the arrival order (R11). -/
def joinArrivals (i : Nat) (s : State) : State :=
  mapTable (fun t =>
    if kindOf t i == .arrival && !t.arrivalOrder.contains i then { t with arrivalOrder := t.arrivalOrder ++ [i] }
    else t) s

/-- An entry becomes DAMAGED (R26). -/
def damageEntry (i : Nat) (s : State) : State :=
  let before := (entryAt s i).state
  let s1 := writeEntry i { Entry.vacant with state := .damaged } s
  let s2 := raiseHarbour .recordDamaged (raiseControl .recordDamaged (recordDamage i (joinArrivals i (leaveDue i s1))))
  if before.inOpening then loseSlot i s2 else s2

/-- A read of an entry verifies its check code (R26); an entry already DAMAGED is rewritten and nothing else. -/
def verifyEntry (i : Nat) (s : State) : State :=
  let e := entryAt s i
  if e.codeGood then s
  else if e.state == .damaged then writeEntry i { Entry.vacant with state := .damaged } s
  else damageEntry i s

/-- A read of a generation verifies its check code (R5). -/
def verifyGeneration (i : Nat) (s : State) : State :=
  if (generationAt s i).codeGood then s
  else
    let s1 := writeGeneration i 0 s
    if (entryAt s1 i).state == .damaged then s1 else damageEntry i s1

/-- The entries of a list are read, in order. -/
def verifyEntries (l : List Nat) (s : State) : State := l.foldl (fun s i => verifyEntry i s) s

/-- The generations of a list are read, in order. -/
def verifyGenerations (l : List Nat) (s : State) : State := l.foldl (fun s i => verifyGeneration i s) s

/-- The check of a tag (R4): the state after its reads, and the refusal where there is one. A generation above 15 is
out of its range (R214, log 21). -/
def checkTag (index generation : Nat) (s : State) : State × Option Status :=
  if Config.entryCount ≤ index then (s, some .outOfRange)
  else if 16 ≤ generation then (s, some .outOfRange)
  else
    let s1 := verifyGeneration index s
    if (generationAt s1 index).value.toNat != generation then (s1, some .stale)
    else
      let s2 := verifyEntry index s1
      if (entryAt s2 index).state == .vacant then (s2, some .stale) else (s2, none)

/-! ## Stamps and the due list -/

/-- One entry at the counter's advance to `c`: a stamp whose age would become 0 moves on so that its age stays 65535
(R9). The stamp is read, and a stamp moved is written with a fresh code (R26). -/
def moveStamp (c : BitVec 16) (s : State) (i : Nat) : State :=
  let s1 := verifyEntry i s
  let e := entryAt s1 i
  if (e.state == .due || e.state.inOpening) && e.dueStamp == some c then
    writeEntry i { e with dueStamp := some (c + 1) } s1
  else s1

/-- The due-stamp counter advances (R9). -/
def advanceCounter (s : State) : State :=
  let c := s.table.counter + 1
  allIndexes.foldl (moveStamp c) (mapTable (fun t => { t with counter := c }) s)

/-- An entry becomes DUE with a new stamp: it joins the tail of the due list and takes its tide hold (R9, R10, R12). -/
def becomeDue (i : Nat) (s : State) : State :=
  let stamp := s.table.counter
  let s1 := advanceCounter s
  let e := entryAt s1 i
  joinDue (· ++ [i])
    (writeEntry i { e with state := .due, dueStamp := some stamp, tideHold := some (tideHeld s e.airDraft) } s1)

/-- A returned entry is placed ahead of the first member whose stamp is younger, or at the tail (R10). -/
def insertByAge (age : Nat → Nat) (i : Nat) : List Nat → List Nat
  | [] => [i]
  | j :: rest => if age j < age i then i :: j :: rest else j :: insertByAge age i rest

/-- An entry concludes (R6): a booked or arrival entry becomes CONCLUDED, a timetable entry returns to PENDING. -/
def concludeEntry (i : Nat) (o : PassageOutcome) (s : State) : State :=
  let e := { entryAt s i with tideHold := none, lapseMark := none, openingNumber := none }
  let s1 := leaveDue i s
  match kindOf s.table i with
  | .timetable => writeEntry i { e with state := .pending, lastOutcome := some o, dueStamp := none } s1
  | _ =>
    raiseHarbour .passageConcluded (writeEntry i { e with
      state := .concluded, outcome := some o, concludedMinute := some s.clock.minute, holdAge := some 0 } s1)

/-- A return from an opening to the due list (R7); its place is found by the stamps of the members, which are read. -/
def returnEntry (i : Nat) (namedTideHeld : Bool) (s : State) : State :=
  let e := entryAt s i
  if e.lapseMark == some true then concludeEntry i .lapsed s
  else
    let s1 := writeEntry i { e with
      state := .due, tideHold := some (namedTideHeld || tideHeld s e.airDraft), lapseMark := none,
      openingNumber := none } s
    let s2 := verifyEntries s1.table.dueList s1
    joinDue (insertByAge (entryAge s2) i) s2

/-! ## The changes asked by other blocks (R8) -/

/-- The changes of the table of R8. -/
inductive Change
  | assign (number : BitVec 16)
  | notNeeded
  | giveBack (namedTideHeld : Bool)
  | proceed
  | enter
  | revert
  | conclude (o : PassageOutcome)
  | giveBackWithoutEntry
deriving DecidableEq, Repr

/-- The states from which R8 makes a change. -/
def Change.madeFrom : Change → EntryState → Bool
  | .assign _, x => x == .due
  | .notNeeded, x => x == .due
  | .giveBack _, x => x == .assigned || x == .cleared
  | .proceed, x => x == .assigned
  | .enter, x => x == .cleared
  | .revert, x => x == .cleared || x == .transiting
  | .conclude _, x => x.inOpening
  | .giveBackWithoutEntry, x => x == .cleared

/-- What a change does to its entry (R8). -/
def applyChange (c : Change) (i : Nat) (s : State) : State :=
  let e := entryAt s i
  match c with
  | .assign n =>
    writeEntry i { e with
      state := .assigned, openingNumber := some n, tideHold := none,
      lapseMark := if kindOf s.table i == .arrival then none else some false } (leaveDue i s)
  | .notNeeded => concludeEntry i .notNeeded s
  | .giveBack h => returnEntry i h s
  | .proceed => writeEntry i { e with state := .cleared } s
  | .enter => writeEntry i { e with state := .transiting } s
  | .revert => writeEntry i { e with state := .assigned } s
  | .conclude o => concludeEntry i o s
  | .giveBackWithoutEntry =>
    match kindOf s.table i with
    | .timetable => concludeEntry i .noShow s
    | _ => returnEntry i false s

/-- What the asker is told (R8). -/
inductive AskResult | made | damaged | refused deriving DecidableEq, Repr

/-- A change asked of the table: the entry is read, and the change is made if its state is one shown for it (R8). -/
def ask (c : Change) (i : Nat) (s : State) : State × AskResult :=
  let s1 := verifyEntry i s
  let st := (entryAt s1 i).state
  if c.madeFrom st then (applyChange c i s1, .made)
  else if st == .damaged then (s1, .damaged)
  else (s1, .refused)

/-! ## Retirement -/

/-- An entry becomes VACANT, out of the arrival order, its generation advanced modulo 16 (R4, R21). -/
def vacateEntry (i : Nat) (s : State) : State :=
  writeGeneration i ((generationAt s i).value + 1) (writeEntry i Entry.vacant (leaveArrivals i s))

/-- An entry is retired: out of the due list, and VACANT (R4, R21). -/
def retireEntry (i : Nat) (s : State) : State := vacateEntry i (leaveDue i s)

/-- One entry at a rise of the hold ages by k minutes: it is read (R26); a CONCLUDED one grows older and is retired at
the conclusion hold time (R22). -/
def ageEntry (k : Nat) (s : State) (i : Nat) : State :=
  let s1 := verifyEntry i s
  let e := entryAt s1 i
  if e.state == .concluded then
    let age := min (e.holdAge.getD 0 + k) Config.holdAgeMax
    let s2 := writeEntry i { e with holdAge := some age } s1
    if s.params.conclusionHold ≤ age then
      let s3 := verifyGeneration i s2
      if (entryAt s3 i).state == .concluded then retireEntry i s3 else s3
    else s2
  else s1

/-- Hold ages rise by k and automatic release follows (R22). -/
def ageConcluded (k : Nat) (s : State) : State := allIndexes.foldl (ageEntry k) s

/-! ## Window evaluation -/

/-- A booked window contains a minute (R14). -/
def windowContains (e : Entry) (m : Nat) : Bool :=
  match e.earliest with
  | none => false
  | some f =>
    let since := (m + Config.dayMinutes - f) % Config.dayMinutes
    match e.latest with
    | some z => decide (since < (z + Config.dayMinutes - f) % Config.dayMinutes)
    | none => decide (since < 720)

/-- A clock slot matches a recurrence (R15, R24). -/
def recurs (e : Entry) (clockSlot : Nat) : Bool :=
  match e.recurrence with
  | some (b, r) => clockSlot % r == b
  | none => false

/-- A booked entry at a visited minute (R23). -/
def visitBooked (m : Nat) (s : State) (i : Nat) : State :=
  let s1 := verifyEntry i s
  let e := entryAt s1 i
  if e.state == .pending && e.earliest == some m then becomeDue i s1
  else if (e.state == .pending || e.state == .due) && e.latest == some m then concludeEntry i .lapsed s1
  else if e.state.inOpening && e.latest == some m then writeEntry i { e with lapseMark := some true } s1
  else s1

/-- The lapse pass of a clock slot start (R24). -/
def lapseTimetable (s : State) (i : Nat) : State :=
  let s1 := verifyEntry i s
  let e := entryAt s1 i
  if e.state == .due then concludeEntry i .lapsed s1
  else if e.state.inOpening then writeEntry i { e with lapseMark := some true } s1
  else s1

/-- The recurrence pass of a clock slot start (R24), and the timetable part of the sweep (R25). -/
def recurTimetable (clockSlot : Nat) (s : State) (i : Nat) : State :=
  let s1 := verifyEntry i s
  let e := entryAt s1 i
  if e.state == .pending && recurs e clockSlot then
    if e.skip == some true then writeEntry i { e with skip := some false } s1 else becomeDue i s1
  else s1

/-- A minute is visited: booked entries, then at a clock slot start the two timetable passes (R23, R24, log 11). DESIGN
CHOICE (log 35): within each pass entries are treated, and so become DUE, in index order. -/
def visitMinute (m : Nat) (s : State) : State :=
  let s1 := (regionOf s.table .booked).foldl (visitBooked m) s
  if m % 15 == 0 then
    let l := regionOf s.table .timetable
    l.foldl (recurTimetable (m / 15)) (l.foldl lapseTimetable s1)
  else s1

/-- The k minutes after a minute are visited in order (R25). -/
def visitMinutes : Nat → Nat → State → State
  | 0, _, s => s
  | k + 1, old, s => visitMinutes k ((old + 1) % Config.dayMinutes) (visitMinute ((old + 1) % Config.dayMinutes) s)

/-- A booked entry in the sweep (R25). -/
def sweepBooked (m : Nat) (s : State) (i : Nat) : State :=
  let s1 := verifyEntry i s
  let e := entryAt s1 i
  if e.state == .pending && windowContains e m then becomeDue i s1 else s1

/-- The one sweep when the clock becomes valid, in index order: timetable entries stand before booked ones (R25). -/
def sweepTable (m : Nat) (s : State) : State :=
  (regionOf s.table .booked).foldl (sweepBooked m)
    ((regionOf s.table .timetable).foldl (recurTimetable (m / 15)) s)

/-- The tide hold of every DUE entry tested again (R62); the rewrite reads each entry. -/
def rewriteTideHold (s : State) (i : Nat) : State :=
  let s1 := verifyEntry i s
  let e := entryAt s1 i
  if e.state == .due then writeEntry i { e with tideHold := some (tideHeld s1 e.airDraft) } s1 else s1

/-- The rewrite of R62 over the due list. -/
def rewriteTideHolds (s : State) : State := s.table.dueList.foldl rewriteTideHold s

/-- A new entry as a create request stores it: the fields present for its kind and nothing else (R3). -/
def newEntry (identity : List Byte) (d : Direction) (airDraft : Int) (cls : Nat) : Entry :=
  { Entry.vacant with state := .pending, identity := identity, direction := d, airDraft := airDraft, cls := cls }

/-- The first live entry of an identity and direction, in index order (R13). -/
def duplicateOf (identity : List Byte) (d : Direction) (s : State) : Option Nat :=
  allIndexes.find? (fun i =>
    let e := entryAt s i
    e.state.live && e.identity == identity && e.direction == d)

/-- The reads of the duplicate check: every entry, and the generation of the duplicate found, for its tag (R13). -/
def readForDuplicate (identity : List Byte) (d : Direction) (s : State) : State :=
  let s1 := verifyEntries allIndexes s
  match duplicateOf identity d s1 with
  | some i => verifyGeneration i s1
  | none => s1

/-- The lowest-numbered VACANT entry of a list, its generation read for the new tag (R5, R13). -/
def allocate : List Nat → State → State × Option Nat
  | [], s => (s, none)
  | i :: rest, s =>
    let s1 := verifyEntry i s
    if (entryAt s1 i).state == .vacant then
      let s2 := verifyGeneration i s1
      if (entryAt s2 i).state == .vacant then (s2, some i) else allocate rest s2
    else allocate rest s1

/-- The first entry of a list in one state, read and its generation read; it is retired by the caller (R17). -/
def earliestIn (st : EntryState) : List Nat → State → State × Option Nat
  | [], s => (s, none)
  | i :: rest, s =>
    let s1 := verifyEntry i s
    if (entryAt s1 i).state == st then
      let s2 := verifyGeneration i s1
      if (entryAt s2 i).state == st then (s2, some i) else earliestIn st rest s2
    else earliestIn st rest s1

/-- The overwrite of a due arrival entry: its tag becomes the last lost tag, it is retired, QUEUE_OVERRUN is raised at
both ports (R17). The count of DUE arrivals is reported with the posting that takes its place: by the example of R17
(11.3 of 11_worked_sequences.md) it stands at 3 before and after, and QUEUE_CRITICAL is not raised again. -/
def overwriteArrival (i : Nat) (s : State) : State :=
  let lost := (i, (generationAt s i).value)
  raiseHarbour .queueOverrun (raiseControl .queueOverrun
    (mapTable (fun t => { t with lastLost := some lost }) (vacateEntry i (dropDue i s))))

/-- The allocation of a posting (R17): a VACANT entry, a CONCLUDED one retired, a DUE one overwritten, or none. -/
def allocateArrival (s : State) : State × Option Nat :=
  match allocate (regionOf s.table .arrival) s with
  | (s1, some i) => (s1, some i)
  | (s1, none) =>
    match earliestIn .concluded s1.table.arrivalOrder s1 with
    | (s2, some i) => (retireEntry i s2, some i)
    | (s2, none) =>
      match earliestIn .due s2.table.arrivalOrder s2 with
      | (s3, some i) => (overwriteArrival i s3, some i)
      | (s3, none) => (s3, none)

/-- The tags of a list: each entry is read, and the generation of each entry that passes the test, until `n` are found.
The indexes found, and the rest of the list behind the last of them. -/
def readTags (p : Entry → Bool) : List Nat → Nat → State → State × List Nat × List Nat
  | [], _, s => (s, [], [])
  | l, 0, s => (s, [], l)
  | i :: rest, n + 1, s =>
    let s1 := verifyEntry i s
    if p (entryAt s1 i) then
      let s2 := verifyGeneration i s1
      if p (entryAt s2 i) then
        let (s3, found, left) := readTags p rest n s2
        (s3, i :: found, left)
      else readTags p rest (n + 1) s2
    else readTags p rest (n + 1) s1

/-- The entries of a list are read up to the first that passes the test. -/
def readFirst (p : Entry → Bool) : List Nat → State → State × Option Nat
  | [], s => (s, none)
  | i :: rest, s =>
    let s1 := verifyEntry i s
    if p (entryAt s1 i) then (s1, some i) else readFirst p rest s1

/-- The tag of an entry on the line (R214). -/
def tagOf (s : State) (i : Nat) : List Byte := putTag i (generationAt s i).value

/-- The table as power-on and CLEAR_TABLE leave it, with the boundaries kept (R30). -/
def clearedTable (t : Table) : Table := { Table.reset with tb := t.tb, qb := t.qb }

end Sys2Proof.Machine
end

