-- ==== Sys2Proof/Machine/Opening.lean ====
section
/-!
DEFINITION. The opening record and what the channel unit and the planner do to it: slots, serving, the closing call,
clearance checks, joins, selection, crossings (chapters 3, 4.2 and 8).
-/

namespace Sys2Proof.Machine

/-! ## Slots -/

/-- The channel unit changed. -/
def mapChannel (f : Channel → Channel) (s : State) : State := { s with channel := f s.channel }

/-- The arrival edge of a direction (R172). -/
def arrivalEdge : Direction → Edge
  | .outbound => .u
  | .inbound => .d

/-- The direction of a mast (R172). -/
def Mast.direction : Mast → Direction
  | .upstream => .outbound
  | .downstream => .inbound

/-- The approach of a direction is committed (R175). -/
def committed (s : State) (d : Direction) : Bool := (s.channel.recognizers.get (arrivalEdge d)).isSome

/-- A slot leaves the zone list. -/
def leaveZone (serial : Nat) (s : State) : State :=
  mapChannel (fun c => { c with zoneList := c.zoneList.filter (· != serial) }) s

/-- LOST_MEMBER_DONE where the slot named no entry when it ended (R74). -/
def reportIfLost (x : Slot) (s : State) : State :=
  if x.entry.isNone then raiseControl .lostMemberDone s else s

/-- A slot becomes DONE (R74, R170). -/
def finishSlot (serial : Nat) (o : PassageOutcome) (s : State) : State :=
  match findSlot serial s with
  | none => s
  | some x =>
    reportIfLost x (leaveZone serial (mapSlot serial (fun x => { x with
      state := .done, outcome := some o, noShow := .stopped, overdue := false, short := false, kept := false }) s))

/-- A slot leaves the record (R61, R73, R170). -/
def removeSlot (serial : Nat) (s : State) : State :=
  match findSlot serial s with
  | none => s
  | some x =>
    reportIfLost x (leaveZone serial (mapOpening (fun o => { o with
      slots := o.slots.filter (fun y => y.serial != serial) }) s))

/-- The returned count rises (R73). -/
def countReturned (s : State) : State := mapOpening (fun o => { o with returned := o.returned + 1 }) s

/-- The withdrawn count rises (R73). -/
def countWithdrawn (s : State) : State := mapOpening (fun o => { o with withdrawn := o.withdrawn + 1 }) s

/-- A change of a slot: for a slot naming an entry the table is asked; a LOST slot, or one made LOST by the asking, is
changed in the record alone. The answer says whether the record is to be changed (R74, R192). -/
def askSlot (c : Change) (serial : Nat) (s : State) : State × Bool :=
  match findSlot serial s with
  | none => (s, false)
  | some x =>
    match x.entry with
    | none => (s, true)
    | some i =>
      match ask c i s with
      | (s1, .made) => (s1, true)
      | (s1, .damaged) => (loseSlot i s1, true)
      | (s1, .refused) => (s1, false)

/-- A change asked, and where it goes on, the change of the record. -/
def withAsked (c : Change) (serial : Nat) (f : State → State) (s : State) : State :=
  match askSlot c serial s with
  | (s1, true) => f s1
  | (s1, false) => s1

/-- A slot is returned to the due list and removed (R67). -/
def returnSlot (namedTideHeld : Bool) (serial : Nat) (s : State) : State :=
  withAsked (.giveBack namedTideHeld) serial (fun s => countReturned (removeSlot serial s)) s

/-- A slot goes back to WAITING in its place (R183, R189). -/
def revertSlot (serial : Nat) (s : State) : State :=
  withAsked .revert serial (mapSlot serial (fun x => { x with
    state := .waiting, noShow := .stopped, overdue := false, kept := false })) s

/-- A slot is kept PROCEED_GIVEN on its committed approach (R68, R183). -/
def keepSlot (serial : Nat) (s : State) : State := mapSlot serial (fun x => { x with kept := true }) s

/-! ## Serving -/

/-- The serving direction, if present, becomes served last and is dropped (R181, R183). -/
def dropServing (s : State) : State :=
  mapChannel (fun c =>
    match c.serving with
    | some d => { c with serving := none, servedLast := some d }
    | none => c) s

/-- A PROCEED_GIVEN slot at a stop of serving: kept where its approach is committed, else reverted (R183). -/
def stopSlot (s : State) (x : Slot) : State :=
  if x.state == .proceedGiven then
    if committed s x.direction then keepSlot x.serial s else revertSlot x.serial s
  else s

/-- Serving stops, other than at the closing call (R183). -/
def stopServing (s : State) : State :=
  let s1 := mapChannel (fun c => { c with servingRuns := false }) (dropServing s)
  (slots s1).foldl stopSlot s1

/-- A slot at the closing call (R67, R68). -/
def closeSlot (s : State) (x : Slot) : State :=
  match x.state with
  | .waiting => returnSlot false x.serial s
  | .proceedGiven => if committed s x.direction then keepSlot x.serial s else returnSlot false x.serial s
  | _ => s

/-- The closing call is set (R66 to R68): the max raised timer stops, serving stops, the slots are returned or kept.
Once set, a further cause changes nothing. -/
def setClosingCall (cause : ClosingCause) (s : State) : State :=
  match s.seq.opening with
  | none => s
  | some o =>
    if o.closingCause.isSome then s
    else
      let s1 := mapOpening (fun o => { o with closingCause := some cause }) s
      let s2 := { s1 with planner := { s1.planner with maxRaised := .stopped } }
      let s3 := mapChannel (fun c => { c with servingRuns := false }) (dropServing s2)
      o.slots.foldl closeSlot s3

/-- After a slot becomes DONE or is removed: in an opening started with slots, the closing call is set when every used
slot is DONE or none is used (R66). -/
def checkAllDone (s : State) : State :=
  match s.seq.opening with
  | none => s
  | some o =>
    if !o.operatorLift && o.closingCause.isNone && o.slots.all (fun x => x.state == .done) then
      setClosingCall .allDone s
    else s

/-- Whether a direction has a slot in a state. -/
def hasSlot (s : State) (d : Direction) (st : SlotState) : Bool :=
  (slots s).any (fun x => x.direction == d && x.state == st)

/-- The first WAITING slot of a direction, in record order. -/
def firstWaiting (s : State) (d : Direction) : Option Slot :=
  (slots s).find? (fun x => x.direction == d && x.state == .waiting)

/-- PROCEED is given to the first WAITING slot of a direction (R182). -/
def giveProceed (d : Direction) (s : State) : State :=
  match firstWaiting s d with
  | none => s
  | some x =>
    withAsked .proceed x.serial (fun s =>
      mapOpening (fun o => { o with
        proceedCount := o.proceedCount + 1,
        slots := o.slots.map (fun y => if y.serial == x.serial then
          { y with state := .proceedGiven, noShow := .start (60000 * s.params.noShowTime), overdue := false,
                   givenAt := o.proceedCount } else y) }) s) s

/-- The direction to be taken up (R181). -/
def chooseDirection (s : State) : Option Direction :=
  match firstWaiting s .inbound, firstWaiting s .outbound with
  | none, none => none
  | some _, none => some .inbound
  | none, some _ => some .outbound
  | some x, some y =>
    if x.cls < y.cls then some .inbound
    else if y.cls < x.cls then some .outbound
    else
      match s.channel.servedLast with
      | some d => some d.opposite
      | none => ((slots s).find? (fun z => z.state == .waiting)).map (·.direction)

/-- A direction is taken up and PROCEED given at once (R181, R182). -/
def takeUp (s : State) : State :=
  match chooseDirection s with
  | none => s
  | some d => giveProceed d (mapChannel (fun c => { c with serving := some d }) s)

/-- No slot is in the short set, so no clearance-low block is active (R191). -/
def shortEmpty (s : State) : Bool := !(slots s).any (·.short)

/-- The sequence and closing-call part of R180. -/
def raisedAndOpen (s : State) : Bool :=
  s.seq.state == .raised && s.seq.opening.isSome && !closingCall s

/-- Serving runs (R180), the drive part as last read. -/
def servingConditions (s : State) : Bool :=
  raisedAndOpen s && s.channel.standing && s.channel.levelRead && shortEmpty s

/-- The drive part of R180 as the unit finds it now: both brakes SET, positions valid, p_span at or above the target. -/
def standsAtTarget (s : State) : Bool :=
  !s.drive.towers.w.released && !s.drive.towers.e.released && s.drive.valid &&
    match s.seq.opening with
    | some o =>
      match o.target with
      | some t => decide (t ≤ spanPosition s)
      | none => false
    | none => false

/-- The unit reads the brakes, the positions and the level switch (R180). -/
def readStanding (s : State) : State :=
  mapChannel (fun c => { c with standing := standsAtTarget s, levelRead := RawInputs.level (filtered s) }) s

/-! ## Clearance checks -/

/-- The available-clearance question for one slot (R190). -/
def checkSlot (s : State) (x : Slot) : State :=
  let low := !sufficient s x.airDraft
  match x.state with
  | .waiting | .proceedGiven =>
    let s1 := if low && !x.short then raiseControl .clearanceLow s else s
    mapSlot x.serial (fun x => { x with short := low }) s1
  | .inZone => if low then raiseControl .clearanceLowInZone s else s
  | .done => s

/-- Re-lift armed after a check: set by one at a water event that leaves the short set not empty, cleared by one that
leaves it empty (R190). -/
def rearm (counted : Bool) (s : State) : State :=
  mapChannel (fun c => { c with
    reliftArmed := if shortEmpty s then false else c.reliftArmed || counted }) s

/-- A clearance check of the opening's slots; `counted` says that it is made at a water event or counts as one (R190). -/
def clearanceCheck (counted : Bool) (s : State) : State := rearm counted ((slots s).foldl checkSlot s)

/-- A check of a single slot (R190). -/
def checkOneSlot (serial : Nat) (s : State) : State :=
  match findSlot serial s with
  | some x => rearm false (checkSlot s x)
  | none => s

/-- The raised phase of an opening (R179). -/
def raisedPhase (s : State) : Bool :=
  s.seq.opening.isSome &&
    (s.seq.state == .raised ||
      ((s.seq.state == .faultHold || s.seq.state == .halted) && s.seq.heldPhase == some .raised))

/-- A water event at the channel unit (R37, R190). -/
def waterAtChannel (s : State) : State :=
  if s.seq.opening.isNone then s
  else if raisedPhase s then clearanceCheck true s
  else mapChannel (fun c => { c with deferredCheck := true }) s

/-! ## Filling slots: selection and joins -/

/-- A slot is filled from an entry (R61, R73), whose fields and generation have been read when it was taken. -/
def fillSlot (i : Nat) (s : State) : State :=
  let e := entryAt s i
  mapOpening (fun o => { o with
    taken := o.taken + 1,
    nextSerial := o.nextSerial + 1,
    slots := o.slots ++ [{
      serial := o.nextSerial, entry := some i, tagIndex := i, tagGeneration := (generationAt s i).value,
      direction := e.direction, cls := e.cls, airDraft := e.airDraft, lift := requiredLift s e.airDraft,
      state := .waiting, outcome := none, noShow := .stopped, overdue := false, short := false, kept := false,
      givenAt := 0 }] }) s

/-- The clearance test of a join (R46). -/
def joinFits (s : State) (o : Opening) (airDraft : Int) : Bool :=
  match o.target with
  | none => !tideHeld s airDraft
  | some t => decide (requiredLift s airDraft ≤ t)

/-- A DUE entry that passes its tests is asked to become a member: its generation is read for the copy of its tag
(R5, R61), then the change is asked (R8). -/
def takeMember (number : BitVec 16) (i : Nat) (s : State) : State × Bool :=
  match ask (.assign number) i (verifyGeneration i s) with
  | (s1, .made) => (s1, true)
  | (s1, _) => (s1, false)

/-- One DUE entry is considered for a join (R63); a join while RAISED is checked for clearance (R190). -/
def considerJoin (s : State) (i : Nat) : State :=
  match s.seq.opening with
  | none => s
  | some o =>
    if o.closingCause.isSome || Config.slotLimit ≤ o.slots.length then s
    else
      let s1 := verifyEntry i s
      let e := entryAt s1 i
      if e.state == .due && joinFits s1 o e.airDraft then
        match takeMember o.number i s1 with
        | (s2, true) =>
          let s3 := fillSlot i s2
          if s.seq.state == .raised then checkOneSlot o.nextSerial s3 else s3
        | (s2, false) => s2
      else s1

/-- The members of the due list that pass a test, by class from 0 to 7 and within a class in due-list order (R60). -/
def inClassOrder (p : Nat → Bool) (s : State) : List Nat :=
  (List.range 8).flatMap (fun c => s.table.dueList.filter (fun i => p i && (entryAt s i).cls == c))

/-- Joins are considered for several candidates, tide-held ones left out (R64); the class and tide hold of each are read
first (R26). -/
def considerJoins (p : Nat → Bool) (s : State) : State :=
  let s1 := verifyEntries (s.table.dueList.filter p) s
  (inClassOrder (fun i => p i && (entryAt s1 i).tideHold != some true) s1).foldl considerJoin s1

/-- One visited entry of the selection (R60). -/
def selectEntry (number : BitVec 16) (acc : State × List Nat) (i : Nat) : State × List Nat :=
  if Config.slotLimit ≤ acc.2.length then acc
  else
    let s := verifyEntry i acc.1
    let e := entryAt s i
    if e.state != .due || e.tideHold == some true then (s, acc.2)
    else if fitsUnder s.params e.airDraft s.water.effective then ((ask .notNeeded i s).1, acc.2)
    else
      match takeMember number i s with
      | (s1, true) => (s1, acc.2 ++ [i])
      | (s1, false) => (s1, acc.2)

/-- The walk of one class (R60). -/
def selectClass (number : BitVec 16) (acc : State × List Nat) (c : Nat) : State × List Nat :=
  (acc.1.table.dueList.filter (fun i => (entryAt acc.1 i).cls == c)).foldl (selectEntry number) acc

/-- The selection: one walk for each class from 0 to 7 (R60), over a due list whose entries have been read (R26). -/
def selectMembers (number : BitVec 16) (s : State) : State × List Nat :=
  (List.range 8).foldl (selectClass number) (verifyEntries s.table.dueList s, [])

/-! ## Crossings -/

/-- The PROCEED_GIVEN slot of a direction given PROCEED first (R184). -/
def oldestGiven (s : State) (d : Direction) : Option Slot :=
  ((slots s).filter (fun x => x.direction == d && x.state == .proceedGiven)).foldl
    (fun best x =>
      match best with
      | none => some x
      | some b => if x.givenAt < b.givenAt then some x else some b) none

/-- An ENTER raises the zone count, or saturates it (R176). -/
def countEnter (s : State) : State :=
  if s.channel.zoneCount < Config.zoneMax then mapChannel (fun c => { c with zoneCount := c.zoneCount + 1 }) s
  else raiseControl .countError s

/-- An EXIT lowers the zone count, or saturates it (R176). -/
def countExit (s : State) : State :=
  if s.channel.zoneCount == 0 then raiseControl .countError s
  else mapChannel (fun c => { c with zoneCount := c.zoneCount - 1 }) s

/-- An ENTER in a direction (R176, R184 to R186). -/
def enterCrossing (d : Direction) (s : State) : State :=
  let s1 := countEnter s
  if !raisedPhase s1 then s1
  else
    match oldestGiven s1 d with
    | some x =>
      withAsked .enter x.serial (fun s =>
        mapChannel (fun c => { c with zoneList := c.zoneList ++ [x.serial] })
          (mapSlot x.serial (fun x => { x with
            state := .inZone, noShow := .stopped, overdue := false, short := false, kept := false }) s)) s1
    | none =>
      if s1.channel.servingRuns && s1.channel.serving == some d.opposite then
        stopServing (raiseControl .conflict s1)
      else raiseControl .unlisted s1

/-- The earliest slot of the zone list of a direction. -/
def earliestInZone (s : State) (d : Direction) : Option Slot :=
  s.channel.zoneList.findSome? (fun n => (findSlot n s).filter (fun x => x.direction == d))

/-- A slot put ahead of the first slot that passes a test, or at the tail. -/
def insertBefore (p : Slot → Bool) (x : Slot) : List Slot → List Slot
  | [] => [x]
  | y :: rest => if p y then x :: y :: rest else y :: insertBefore p x rest

/-- A reverted slot is moved ahead of every other WAITING slot of its direction (R187). -/
def moveAhead (serial : Nat) (l : List Slot) : List Slot :=
  match l.find? (fun x => x.serial == serial) with
  | none => l
  | some x =>
    let waits := fun (y : Slot) => y.direction == x.direction && y.state == .waiting
    match l.find? waits with
    | some y => if y.serial == serial then l else insertBefore waits x (l.filter (fun z => z.serial != serial))
    | none => l

/-- A turned-back vessel with the closing call clear (R187). -/
def revertTurned (serial : Nat) (s : State) : State :=
  withAsked .revert serial (fun s =>
    checkOneSlot serial
      (mapOpening (fun o => { o with slots := moveAhead serial o.slots })
        (leaveZone serial (mapSlot serial (fun x => { x with
          state := .waiting, noShow := .stopped, overdue := false, kept := false }) s)))) s

/-- A slot concluded with an outcome, and the closing-call rule after it (R66, R187). -/
def concludeSlot (o : PassageOutcome) (serial : Nat) (s : State) : State :=
  withAsked (.conclude o) serial (fun s => checkAllDone (finishSlot serial o s)) s

/-- An EXIT at an edge (R176, R187): the vessels that leave there travel in the direction that departs at the edge. -/
def exitCrossing (e : Edge) (s : State) : State :=
  let s1 := countExit s
  if !raisedPhase s1 then s1
  else
    let toward : Direction := match e with | .d => .outbound | .u => .inbound
    match earliestInZone s1 toward with
    | some x => concludeSlot .passed x.serial s1
    | none =>
      match earliestInZone s1 toward.opposite with
      | some x => if closingCall s1 then concludeSlot .turnedOut x.serial s1 else revertTurned x.serial s1
      | none => raiseControl .unlisted s1

/-- A slot whose committed approach clears with no ENTER (R189). -/
def clearedSlot (s : State) (x : Slot) : State :=
  if x.state == .proceedGiven && (x.kept || x.overdue) then
    if closingCall s then
      withAsked .giveBackWithoutEntry x.serial (fun s => checkAllDone (countReturned (removeSlot x.serial s))) s
    else if x.overdue then concludeSlot .noShow x.serial s
    else revertSlot x.serial s
  else s

/-- A recognizer's return to CLEAR without an INWARD crossing ends the commitment of its direction (R189). -/
def approachCleared (d : Direction) (s : State) : State :=
  ((slots s).filter (fun x => x.direction == d)).foldl clearedSlot s

/-- What the two beams of an edge make of its recognizer (R174): the new state, the crossing, and whether
EDGE_AMBIGUOUS is raised. The beam cleared last is the one broken at the sample before. -/
def recognize (r : Option FirstBroken) (outerBefore innerBefore outer inner : Bool) :
    Option FirstBroken × Option Crossing × Bool :=
  match r with
  | none =>
    match outer, inner with
    | true, true => (some .both, none, true)
    | true, false => (some .outer, none, false)
    | false, true => (some .inner, none, false)
    | false, false => (none, none, false)
  | some first =>
    if outer || inner then (some first, none, false)
    else
      match outerBefore, innerBefore with
      | true, true => (none, none, true)
      | true, false => (none, if first == .inner then some .outward else none, false)
      | false, true => (none, if first == .outer then some .inward else none, false)
      | false, false => (none, none, false)

/-- The direction whose arrival edge an edge is (R172). -/
def Edge.arrivals : Edge → Direction
  | .u => .outbound
  | .d => .inbound

/-- One edge at an input sample (R174, R175, R189). -/
def edgeSample (before now : RawInputs) (e : Edge) (s : State) : State :=
  let old := s.channel.recognizers.get e
  let (r, crossing, ambiguous) := recognize old (RawInputs.outer before e) (RawInputs.inner before e)
    (RawInputs.outer now e) (RawInputs.inner now e)
  let s1 := mapChannel (fun c => { c with recognizers := c.recognizers.set e r }) s
  let s2 := if ambiguous then raiseControl .edgeAmbiguous s1 else s1
  let s3 := match crossing with
    | some .inward => enterCrossing (Edge.arrivals e) s2
    | some .outward => exitCrossing e s2
    | none => s2
  if old.isSome && r.isNone && crossing != some .inward then approachCleared (Edge.arrivals e) s3 else s3

/-! ## Masts -/

/-- The red line of a mast (R172). -/
def redLine : Aspect → Bool
  | .hold | .standby | .fault => true
  | _ => false

/-- The amber line of a mast (R172). -/
def amberLine (a : Aspect) : Bool := a == .standby

/-- The green line of a mast (R172). -/
def greenLine (a : Aspect) : Bool := a == .proceed

/-- The flash line of a mast (R172). -/
def flashLine (a : Aspect) : Bool := a == .fault

/-- The states in which a direction with a WAITING slot shows STANDBY (R173). -/
def SeqState.standby : SeqState → Bool
  | .warning | .entryClosing | .deckClearing | .exitClosing | .windWait | .unlocking | .lifting | .raised => true
  | _ => false

/-- The aspect of a mast: FAULT until the first input sample (R173, R195), then the first row of R173 whose condition
holds. -/
def aspectOf (s : State) (m : Mast) : Aspect :=
  if s.inputs.isNone then .fault
  else
  match s.seq.state with
  | .inactive => if s.guard.seatedLocked then .dark else .fault
  | .faultHold | .halted | .positionLost | .recovering => .fault
  | st =>
    if s.channel.serving == some (Mast.direction m) then .proceed
    else if s.seq.opening.isSome && st.standby && hasSlot s (Mast.direction m) .waiting then .standby
    else .hold

/-- Both masts worked out anew (R173). -/
def refreshMasts (s : State) : State :=
  mapChannel (fun c => { c with masts := ⟨aspectOf s .upstream, aspectOf s .downstream⟩ }) s

end Sys2Proof.Machine
end

