-- ==== Sys2Proof/Machine/Guard.lean ====
section
/-!
DEFINITION. The road guard (chapters 5 and 6): lamps, approaches, warning counts, arms, deck measurement.
-/

namespace Sys2Proof.Machine

/-! ## Lamps -/

/-- What a lamp shows in a phase and flasher half (R105, R108). -/
def lampWanted (phase : ApproachPhase) (half : Half) (l : Lamp) : Bool :=
  match phase, l with
  | .amber, .amber => true
  | .red, .ra => half == .a
  | .red, .rb => half == .b
  | _, _ => false

/-- A lamp of an in-service head is switched: on sets its proving pending, off starts its off-check (R109, R110). A
lamp already so, or of an out-of-service head, is left. -/
def switchLamp (h : Head) (on : Bool) (s : State) (l : Lamp) : State :=
  let x := (s.guard.heads.get h).lamps.get l
  if !(s.guard.heads.get h).inService || x.output == on then s
  else if on then setLamp h l { x with output := true, proving := .start Config.provingMs, offCheck := .stopped } s
  else setLamp h l { x with output := false, proving := .stopped, offCheck := .start Config.offCheckFirstMs } s

/-- The lamps of one head take the phase of its approach. -/
def applyHead (s : State) (h : Head) : State :=
  let a := s.guard.approaches.get h.approach
  allLamps.foldl (fun s l => switchLamp h (lampWanted a.phase a.half l) s l) s

/-- The lamps of an approach take its phase (R105). -/
def applyPhase (a : Approach) (s : State) : State := a.heads.foldl applyHead s

/-- Both red lamps of a head are FAILED (5.6). -/
def redDarkHead (h : HeadRecord) : Bool := h.lamps.ra.state == .failed && h.lamps.rb.state == .failed

/-- The approach warning state by R114. -/
def judgeApproach (a : Approach) (s : State) : WarningState :=
  let heads := (a.heads.map (fun h => s.guard.heads.get h)).filter (·.inService)
  if heads.all redDarkHead then .unwarned
  else if heads.any redDarkHead then .degraded
  else .warned

/-- A fresh warning count (R115, R117): held where the approach is UNWARNED, doubled where it is DEGRADED; it stands
still while the guard's timers stand stopped by HALTED (R98, log 28). -/
def freshCount (s : State) (w : WarningState) : WarningCount :=
  { status := if w == .unwarned then .held else if s.guard.halted then .paused else .running,
    counted := 0, base := 1000 * s.params.warningTime, doubled := w == .degraded }

/-- What a warning state found does to a count (R115, R117). DEDUCED (log 28): a count paused by HALTED is left as
it is, neither doubled nor held, whatever the evaluation finds. -/
def countAfter (s : State) (w : WarningState) (c : WarningCount) : WarningCount :=
  match c.status, w with
  | .running, .degraded => { c with doubled := true }
  | .running, .unwarned => { c with status := .held, counted := 0 }
  | .held, .unwarned => c
  | .held, _ => freshCount s w
  | _, _ => c

/-- The approach warning state is evaluated (R114), with its effect on the count (R115, R117). -/
def evaluateApproach (a : Approach) (s : State) : State :=
  let w := judgeApproach a s
  let r := s.guard.approaches.get a
  let s1 := if w == .unwarned && r.warning != .unwarned then raiseControl .approachUnwarned s else s
  setApproach a { r with warning := w, count := r.count.map (countAfter s w) } s1

/-- The warning count of an approach starts (R115). -/
def startCount (a : Approach) (s : State) : State :=
  let r := s.guard.approaches.get a
  setApproach a { r with count := some (freshCount s r.warning) } s

/-- An approach shows RED from the start of half A: the flasher, the lamps, an evaluation (R108, R114). -/
def showRed (a : Approach) (s : State) : State :=
  evaluateApproach a (applyPhase a (setApproach a { s.guard.approaches.get a with
    phase := .red, half := .a, flasher := .start Config.flasherHalfMs, amberTimer := .stopped } s))

/-- An approach enters RED, and its count starts where the command is present (R115). -/
def enterRed (a : Approach) (s : State) : State :=
  if (s.guard.approaches.get a).command then startCount a (showRed a s) else showRed a s

/-- An approach enters DARK: the flasher stops and every lamp is off (R105, R108). -/
def enterDark (a : Approach) (s : State) : State :=
  let r := s.guard.approaches.get a
  applyPhase a (setApproach a { r with phase := .dark, flasher := .stopped, amberTimer := .stopped } s)

/-- An approach enters AMBER and its amber period starts (R106, R107). -/
def enterAmber (a : Approach) (s : State) : State :=
  let r := s.guard.approaches.get a
  applyPhase a (setApproach a { r with
    phase := .amber, flasher := .stopped, amberTimer := .start (1000 * s.params.amberTime) } s)

/-- An approach is demanded red (R105). -/
def demandedRed (a : Approach) (s : State) : Bool :=
  (s.guard.arms.get a.entryArm).state != .up || (s.guard.arms.get a.exitArm).state != .up || !spanSecure s

/-- The warning command is given to one approach (R106). -/
def giveWarning (a : Approach) (s : State) : State :=
  let r := s.guard.approaches.get a
  let s1 := setApproach a { r with command := true } s
  match r.phase with
  | .dark => enterAmber a s1
  | .amber => setApproach a { r with command := true, amberTimer := .start (1000 * s.params.amberTime) } s1
  | .red => startCount a s1

/-- The warning command is given to both approaches (R106). -/
def giveWarnings (s : State) : State := giveWarning .south (giveWarning .north s)

/-- The warning command is taken away from one approach: its count and its permit go, and it darkens unless it is
demanded red (R106, R125). -/
def takeWarning (a : Approach) (s : State) : State :=
  let s1 := setApproach a { s.guard.approaches.get a with command := false, count := none, permit := false } s
  if demandedRed a s1 then s1 else enterDark a s1

/-- The warning command is taken away from both approaches (R106). -/
def takeWarnings (s : State) : State := takeWarning .south (takeWarning .north s)

/-! ## Arms -/

/-- The arm's rest position is UP (R122). -/
def restUp (x : RawInputs) (a : Arm) : Bool := RawInputs.armUp x a && !RawInputs.armDown x a

/-- The arm's rest position is DOWN (R122). -/
def restDown (x : RawInputs) (a : Arm) : Bool := RawInputs.armDown x a && !RawInputs.armUp x a

/-- Both switches of an arm are made. -/
def bothEnds (x : RawInputs) (a : Arm) : Bool := RawInputs.armUp x a && RawInputs.armDown x a

/-- The raise output of an arm (R123). -/
def raiseOutput (r : ArmRecord) : Bool := r.state == .raising

/-- The lower output of an arm (R123). -/
def lowerOutput (r : ArmRecord) : Bool := r.state == .lowering

/-- An arm at rest in a state. -/
def restArm (st : ArmState) (r : ArmRecord) : ArmRecord :=
  { r with state := st, reversal := none, retryWait := .stopped, travel := .stopped, stoppedDirection := none,
           faultReason := none }

/-- An arm becomes FAULT: its outputs are off and ARM_FAULT is raised (R127). -/
def armFault (a : Arm) (why : ArmFaultReason) (s : State) : State :=
  raiseControl .armFault
    (setArm a { restArm .fault (s.guard.arms.get a) with faultReason := some why } s)

/-- An arm starts to travel with a fresh travel timer (R123). -/
def travelArm (st : ArmState) (p : Parameters) (r : ArmRecord) : ArmRecord :=
  { restArm st r with travel := .start (1000 * p.armTimeout) }

/-- Whether a command to lower the arm may be carried out: an entry arm needs its approach's permit (R125). -/
def mayLower (a : Arm) (s : State) : Bool := !a.isEntry || (s.guard.approaches.get a.approach).permit

/-- A command to go DOWN (R124). -/
def commandDown (a : Arm) (s : State) : State :=
  let r := s.guard.arms.get a
  if r.state == .outOfService then s
  else
    let r1 := { r with commandedEnd := .down }
    let go := setArm a (travelArm .lowering s.params r1) s
    let stay := setArm a r1 s
    if !mayLower a s then stay
    else
      match r.state, r.reversal with
      | .up, _ => go
      | .raising, none => go
      | .stopped, _ => go
      | _, _ => stay

/-- A command to go UP (R126). -/
def commandUp (a : Arm) (s : State) : State :=
  let r := s.guard.arms.get a
  if r.state == .outOfService then s
  else
    let r1 := { r with commandedEnd := .up, obstructions := 0 }
    if !spanSecure s then setArm a r1 s
    else
      match r.state with
      | .up => setArm a { r1 with retryWait := .stopped } s
      | .lowering | .down | .stopped => setArm a (travelArm .raising s.params r1) s
      | .raising => setArm a { r1 with reversal := none } s
      | _ => setArm a r1 s

/-- The arms as the first input sample finds them (R122). DESIGN CHOICE (log 7): an arm that ARM_SERVICE took out of
service before that sample stays so. -/
def firstArmSample (x : RawInputs) (s : State) (a : Arm) : State :=
  let r := s.guard.arms.get a
  if r.state == .outOfService then s
  else if restUp x a then setArm a { restArm .up r with commandedEnd := .up } s
  else if restDown x a then setArm a { restArm .down r with commandedEnd := .down } s
  else armFault a .position (setArm a { r with commandedEnd := .down } s)

/-- A lowering arm meets its obstruction edge (R130). -/
def obstructArm (a : Arm) (s : State) : State :=
  let r := s.guard.arms.get a
  let n := min (r.obstructions + 1) Config.obstructionLimit
  let r1 := { r with obstructions := n }
  if spanSecure s then
    setArm a { travelArm .raising s.params r1 with
      reversal := some (if n == Config.obstructionLimit then .final else .reversing) } s
  else armFault a .obstructed (setArm a r1 s)

/-- A raising arm shows the rest position UP (R127, R131). -/
def arriveUp (a : Arm) (s : State) : State :=
  let r := s.guard.arms.get a
  match r.reversal with
  | some .final => armFault a .obstructed s
  | some .reversing => setArm a { restArm .up r with retryWait := .start (1000 * s.params.retryTime) } s
  | none => setArm a (restArm .up r) s

/-- One arm at an input sample: end of travel (R127), obstruction (R130), supervision at rest (R128). A STOPPED arm
completes only while HALTED, and in FAULT_HOLD after it until the held phase is re-entered (R98, R132). -/
def armSample (x : RawInputs) (s : State) (a : Arm) : State :=
  let r := s.guard.arms.get a
  match r.state with
  | .outOfService | .fault => s
  | st =>
    if bothEnds x a then armFault a .switchConflict s
    else
      match st with
      | .lowering =>
        if restDown x a then setArm a (restArm .down r) s
        else if RawInputs.obstruction x a then obstructArm a s
        else s
      | .raising => if restUp x a then arriveUp a s else s
      | .up => if restUp x a then s else armFault a .upLost s
      | .down => if restDown x a then s else armFault a .downLost s
      | _ =>
        if !s.guard.halted then s
        else if restDown x a then setArm a (restArm .down r) s
        else if restUp x a then setArm a (restArm .up r) s
        else s

/-- An arm at the entry to HALTED (R132). -/
def haltArm (s : State) (a : Arm) : State :=
  let r := s.guard.arms.get a
  match r.state with
  | .lowering => setArm a { restArm .stopped r with stoppedDirection := some .lowering } s
  | .raising => setArm a { restArm .stopped r with stoppedDirection := some .raising } s
  | .up => setArm a { r with retryWait := .stopped } s
  | _ => s

/-- A raising arm when the span ceases to be both seated and locked (R126). -/
def dropRaising (s : State) (a : Arm) : State :=
  if (s.guard.arms.get a).state == .raising then armFault a .notLocked s else s

/-! ## The deck -/

/-- Every in-service detector is unoccupied (R136). -/
def detectorsClear (s : State) : Bool :=
  allDetectors.all (fun d => !(s.guard.detectors.get d).inService || !RawInputs.occupied (filtered s) d)

/-- The clear timer's start (R136). -/
def clearStart (p : Parameters) : Timer := .start (1000 * p.deckClearTime)

/-- The limit of the deck-wait and occupancy timers (R137). -/
def waitStart (p : Parameters) : Timer := .start (1000 * p.deckWaitLimit)

/-- The occupancy timer of a detector at the start of a measurement (R136). -/
def startOccupancy (s : State) (d : Detector) : State :=
  let r := s.guard.detectors.get d
  setDetector d { r with
    occupancy := if r.inService && RawInputs.occupied (filtered s) d then waitStart s.params else .stopped } s

/-- Every occupancy timer stops. -/
def stopOccupancies (s : State) : State :=
  { s with guard := { s.guard with detectors := s.guard.detectors.map (fun r => { r with occupancy := .stopped }) } }

/-- The deck-clear measurement starts (R136); not-clear reported is cleared unless a held phase is re-entered (R137). -/
def startMeasurement (reentry : Bool) (s : State) : State :=
  let d := s.guard.deck
  let s1 := setDeck {
    measurement := some .running,
    clear := if detectorsClear s then clearStart s.params else .stopped,
    wait := waitStart s.params,
    notClear := if reentry then d.notClear else false } s
  allDetectors.foldl startOccupancy s1

/-- The measurement becomes absent (R136). -/
def dropMeasurement (s : State) : State :=
  stopOccupancies (setDeck { s.guard.deck with
    measurement := none, clear := .stopped, wait := .stopped } s)

/-- Whether the measurement is RUNNING and its timers count (R136, R139). -/
def measuring (s : State) : Bool := s.guard.deck.measurement == some .running && !s.guard.halted

/-- A detector that shows unoccupied ends its occupancy: the next one may set OCCUPIED_LONG (R137, R140). -/
def endOccupancy (now : RawInputs) (s : State) (d : Detector) : State :=
  setDetector d { s.guard.detectors.get d with
    spent := (s.guard.detectors.get d).spent && RawInputs.occupied now d } s

/-- The occupancy timer of a detector at an input sample (R137). -/
def occupancySample (before now : RawInputs) (s : State) (d : Detector) : State :=
  let r := s.guard.detectors.get d
  if !r.inService then s
  else if !RawInputs.occupied now d then setDetector d { r with occupancy := .stopped } s
  else if !RawInputs.occupied before d then setDetector d { r with occupancy := waitStart s.params } s
  else s

/-- The clear timer follows the detectors (R136). -/
def followClear (s : State) : State :=
  let d := s.guard.deck
  setDeck { d with
    clear := if detectorsClear s then (if d.clear.isRunning then d.clear else clearStart s.params) else .stopped } s

/-- The deck at an input sample (R136, R137). -/
def deckSample (before now : RawInputs) (s : State) : State :=
  let s1 := allDetectors.foldl (endOccupancy now) s
  if measuring s1 then followClear (allDetectors.foldl (occupancySample before now) s1) else s1

/-- The guard's timers at the entry to HALTED: amber periods, warning counts and the deck's timers stop with their
times kept (R97, R107, R115, R139). -/
def pauseGuard (s : State) : State :=
  { s with guard := { s.guard with
      approaches := s.guard.approaches.map (fun r => { r with
        amberTimer := r.amberTimer.pause,
        count := r.count.map (fun c => if c.status == .running then { c with status := .paused } else c) }),
      detectors := s.guard.detectors.map (fun r => { r with occupancy := r.occupancy.pause }),
      deck := { s.guard.deck with
        clear := s.guard.deck.clear.pause, wait := s.guard.deck.wait.pause },
      halted := true } }

end Sys2Proof.Machine
end

