-- ==== Sys2Proof/Machine/Drive.lean ====
section
/-!
DEFINITION. The lift drive unit (chapter 7): encoder counting, positions, motions, trim, supervision, lock bolts.
What the unit reports to the sequence controller is acted on in Machine/Sequence.lean.
-/

namespace Sys2Proof.Machine

/-- The drive changed. -/
def mapDrive (f : Drive → Drive) (s : State) : State := { s with drive := f s.drive }

/-! ## Counting and positions -/

/-- The next phase in the counting-up cycle of (A, B) (R143). -/
def nextPhase : Bool × Bool → Bool × Bool
  | (false, false) => (false, true)
  | (false, true) => (true, true)
  | (true, true) => (true, false)
  | (true, false) => (false, false)

/-- The change of a count at a change of phase: the new count, and whether the transition is illegal (R143, R144). -/
def countEdge (c : Int) (old new : Bool × Bool) : Int × Bool :=
  if new = old then (c, false)
  else if new = nextPhase old then (if c < Config.countMax then (c + 1, false) else (c, true))
  else if old = nextPhase new then (if Config.countMin < c then (c - 1, false) else (c, true))
  else (c, true)

/-- The scale's denominator d = 16 × W_s + F_s of a tower (R145). -/
def scaleOf (p : Parameters) (t : Tower) : Int := 16 * p.scaleWhole.get t + p.scaleSixteenths.get t

/-- The unclamped position: 16 × c / d truncated toward zero, mm (R145). -/
def unclamped (p : Parameters) (t : Tower) (c : Int) : Int := (16 * c).tdiv (scaleOf p t)

/-- The lowest position (R145). -/
def positionMin : Int := -Config.rangeMargin

/-- The highest position (R145). -/
def positionMax (p : Parameters) : Int := p.maxLift + Config.rangeMargin

/-- A tower's position and out-of-range mark from its count (R145). -/
def locate (p : Parameters) (t : Tower) (r : TowerRecord) : TowerRecord :=
  let u := unclamped p t r.count
  { r with position := max positionMin (min u (positionMax p)),
           outOfRange := decide (u < positionMin) || decide (positionMax p < u) }

/-- One tower's position is computed from its count. -/
def locateTower (t : Tower) (s : State) : State := setTower t (locate s.params t (s.drive.towers.get t)) s

/-- Both positions are computed (R145, R146). -/
def computePositions (s : State) : State := locateTower .e (locateTower .w s)

/-- A count made 0. -/
def zeroTower (r : TowerRecord) : TowerRecord := { r with count := 0, position := 0, outOfRange := false }

/-- A position lies outside the seat drift limit (R147). -/
def drifted (x : Int) : Bool := decide (x < -Config.seatDriftLimit) || decide (Config.seatDriftLimit < x)

/-- A seat zeroing (R147). -/
def seatZeroing (s : State) : State :=
  let p := positions s
  let s1 := if s.drive.valid && (drifted p.1 || drifted p.2) then raiseControl .seatDrift s else s
  mapDrive (fun d => { d with
    towers := d.towers.map zeroTower, valid := true, lastZeroing := if d.valid then some p else none }) s1

/-! ## Motion -/

/-- A tower at rest: brake SET, reference 0, no anchor. -/
def brakeTower (r : TowerRecord) : TowerRecord := { r with released := false, reference := 0, anchor := none }

/-- Any motion or jog ends: both references 0, both brakes SET (R148, R151, R154, R160, R167). -/
def endMotion (s : State) : State :=
  mapDrive (fun d => { d with
    towers := d.towers.map (fun r => { brakeTower r with stopped := false }), motion := .none, phase := none,
    holdReason := none, target := none, profile := 0, settle := .stopped, jog := none, stopAsked := false }) s

/-- The direction line takes DOWN, as every LOWER and DESCENT gives it (R151, R165). -/
def turnDown (s : State) : State := mapDrive (fun d => { d with direction := .down }) s

/-- A travelling bolt is stopped: outputs off, timer discarded. It stands FAULT with reason POSITION until the next
input sample shows where it is (R164, log 17). Drive waiting for seats is cleared (R162). -/
def stopBolt (r : BoltRecord) : BoltRecord :=
  match r.state with
  | .withdrawing | .driving => { state := .fault, reason := some .position, travel := .stopped, waiting := false }
  | _ => { r with waiting := false }

/-- All lock travel is stopped (R164). -/
def stopLocks (s : State) : State := mapDrive (fun d => { d with bolts := d.bolts.map stopBolt }) s

/-- The command of brakes set and references 0 (R151). -/
def brakesSet (s : State) : State := stopLocks (endMotion s)

/-- A motion is HELD (R149, R150). DESIGN CHOICE (log 44): P is 0 while it is. -/
def holdMotion (why : HoldReason) (s : State) : State :=
  mapDrive (fun d => { d with
    towers := d.towers.map brakeTower, phase := some .held, holdReason := some why, profile := 0,
    settle := .stopped }) s

/-- A motion goes downward under the downward verdict: LOWER and DESCENT (R149). -/
def Motion.downward : Motion → Bool
  | .lower | .descent => true
  | _ => false

/-- A motion that is held by bolts and channel: RAISE, LOWER and DESCENT (R150). -/
def Motion.driven : Motion → Bool
  | .raise | .lower | .descent => true
  | _ => false

/-- A tower at the start or restart of a motion: its brake is RELEASED, but a tower already seated stays SET in LOWER
and DESCENT, and counts as stopped (R151, R152). -/
def settleTower (m : Motion) (x : RawInputs) (t : Tower) (r : TowerRecord) : TowerRecord :=
  let seated := r.stopped || (m.downward && RawInputs.seat x t)
  { brakeTower r with stopped := seated, released := !seated }

/-- A motion begins at SETTLING, or is HELD by the bolts or by the channel (R149, R150, R152); where both hold it, by the
bolts: DEDUCED (log 43). P is 0 in SETTLING: DESIGN CHOICE (log 44). -/
def beginPhase (s : State) : State :=
  if !boltsAre .withdrawn s then holdMotion .bolts s
  else if s.drive.motion.downward && !channelClear s then holdMotion .channel s
  else
    let settled := settleTower s.drive.motion (filtered s)
    mapDrive (fun d => { d with
      towers := { w := settled .w d.towers.w, e := settled .e d.towers.e }, phase := some .settling,
      holdReason := none, profile := 0, settle := .start s.params.brakeSettle }) s

/-- A motion replaces whatever ran and begins (R151, R152). The seats count as stopped where the motion says so. -/
def startMotion (m : Motion) (dir : Vertical) (target : Option Int) (s : State) : State :=
  let x := filtered s
  let s1 := endMotion s
  let mark := fun (t : Tower) (r : TowerRecord) => { r with stopped := m.downward && RawInputs.seat x t }
  beginPhase (mapDrive (fun d => { d with
    motion := m, direction := dir, target := target,
    towers := { w := mark .w d.towers.w, e := mark .e d.towers.e } }) s1)

/-- The leading tower: the higher one when raising, the lower one when lowering (R156). -/
def leading (m : Motion) (skewNow : Int) : Tower :=
  if m == .raise then (if 0 < skewNow then .w else .e) else (if 0 < skewNow then .e else .w)

/-- The trim of the leading tower's reference (R156). -/
def trimmed (p : Parameters) (profile skewNow : Int) : Int :=
  if |skewNow| ≤ p.trimBand || skewNow == 0 then profile
  else profile - profile * min ((|skewNow| - p.trimBand) * p.trimGain) Config.trimCap / 1000

/-- The reference of one tower in a RUNNING RAISE or LOWER (R156). -/
def referenceOf (s : State) (t : Tower) : Int :=
  let d := s.drive
  if (d.towers.get t).stopped then 0
  else if d.towers.w.stopped || d.towers.e.stopped then d.profile
  else if leading d.motion (skew s) = t then trimmed s.params d.profile (skew s)
  else d.profile

/-- Both references are set from P (R156). -/
def setReferences (s : State) : State :=
  mapDrive (fun d => { d with
    towers := { w := { d.towers.w with reference := referenceOf s .w },
                e := { d.towers.e with reference := referenceOf s .e } } }) s

/-- The stall anchor of a moving tower taken at its present position (R158). -/
def takeAnchor (r : TowerRecord) : TowerRecord :=
  { r with anchor := if r.stopped then none else some (r.position, 0) }

/-- The brake-settle timer expires: the motion runs (R152, R165, R167). DESIGN CHOICE (log 44): P stays 0 in a jog, whose
tower takes its reference from Vc itself. -/
def runMotion (s : State) : State :=
  let vc := s.params.creepSpeed
  let s1 := mapDrive (fun d => { d with phase := some .running, settle := .stopped }) s
  match s.drive.motion with
  | .raise | .lower =>
    setReferences (mapDrive (fun d => { d with profile := vc, towers := d.towers.map takeAnchor }) s1)
  | .descent =>
    mapDrive (fun d => { d with
      profile := vc, towers := d.towers.map (fun r => { r with reference := if r.stopped then 0 else vc }) }) s1
  | .jog =>
    match s.drive.jog with
    | some j => setTower j.tower { s1.drive.towers.get j.tower with reference := vc } s1
    | none => s1
  | .none => s

/-- The distance to go: target − p_span when raising, p_span when lowering (R153). -/
def distanceToGo (s : State) : Int :=
  match s.drive.motion, s.drive.target with
  | .raise, some t => t - spanPosition s
  | _, _ => spanPosition s

/-- The profile's change of P at a sample (R153). -/
def stepProfile (s : State) : State :=
  let p := s.params
  mapDrive (fun d => { d with
    profile := if p.creepDistance < distanceToGo s then min p.travelSpeed (d.profile + p.rampStep)
               else max p.creepSpeed (d.profile - p.rampStep) }) s

/-- The stall anchor of a tower at a sample (R158). -/
def stepAnchor (r : TowerRecord) : TowerRecord :=
  match r.anchor with
  | none => r
  | some (p, n) => { r with anchor := if r.position != p then some (r.position, 0) else some (p, n + 1) }

/-- A tower's anchor has counted the stall window (R158). -/
def stalled (r : TowerRecord) : Bool :=
  match r.anchor with
  | some (_, n) => decide (Config.stallWindow ≤ n)
  | none => false

/-- A moving tower whose seat switch is made stops at the sample (R155, R165). -/
def seatStop (x : RawInputs) (t : Tower) (s : State) : State :=
  let r := s.drive.towers.get t
  if !r.stopped && RawInputs.seat x t then setTower t { brakeTower r with stopped := true } s else s

/-- Both towers are stopped at their seats. -/
def bothStopped (s : State) : Bool := s.drive.towers.w.stopped && s.drive.towers.e.stopped

/-- A tower has passed below where its seat should be (R155). -/
def seatMissing (x : RawInputs) (s : State) : Bool :=
  allTowers.any (fun t =>
    let r := s.drive.towers.get t
    !r.stopped && !RawInputs.seat x t && decide (r.position < -Config.seatMissingDepth))

/-- Either tower's unclamped position lies outside its range (R145). -/
def outOfRange (s : State) : Bool := s.drive.towers.w.outOfRange || s.drive.towers.e.outOfRange

/-- The faults a RUNNING RAISE or LOWER finds at a sample, the seat-missing check apart (R157). -/
def motionFaults (x : RawInputs) (s : State) : List FaultCause :=
  (if s.params.skewLimit ≤ |skew s| then [.skew] else []) ++
  (if outOfRange s then [.positionRange] else []) ++
  (if RawInputs.level x then [] else [.level]) ++
  (if stalled s.drive.towers.w || stalled s.drive.towers.e then [.stall] else [])

/-- Every in-service arm DOWN and both bolts WITHDRAWN, and for a tower and direction the conditions of R166 but for
the sequence state and a jog in progress. -/
def jogAllowed (t : Tower) (dir : Vertical) (s : State) : Bool :=
  let x := filtered s
  allArmsDown s && boltsAre .withdrawn s &&
  (match dir with
    | .up => !RawInputs.upperLimit x t
    | .down => !RawInputs.seat x t && channelClear s) &&
  (if s.seq.state == .faultHold && s.drive.valid then
    decide (|skew s| ≤ s.params.trimBand) ||
    (match t, dir with
      | .w, .down | .e, .up => decide (0 < skew s)
      | .w, .up | .e, .down => decide (skew s < 0))
   else true)

/-- The sequence states in which JOG is accepted (R166). -/
def jogState (s : State) : Bool := s.seq.state == .faultHold || s.seq.state == .positionLost

/-- A jog starts (R167). -/
def startJog (t : Tower) (dir : Vertical) (s : State) : State :=
  let s1 := endMotion s
  let level := RawInputs.level (filtered s)
  setTower t { s1.drive.towers.get t with released := true }
    (mapDrive (fun d => { d with
      motion := .jog, phase := some .settling, direction := dir, settle := .start s.params.brakeSettle,
      jog := some { tower := t, direction := dir, keepAlive := .start Config.keepAliveMs, levelMade := level } }) s1)

/-- Only a jog in progress is ended (R168). -/
def endJog (s : State) : State := if s.drive.motion == .jog then endMotion s else s

/-! ## Bolts -/

/-- The bolt state its switches show at rest (R161). -/
def boltFromSwitches (x : RawInputs) (b : Tower) (r : BoltRecord) : BoltRecord :=
  match RawInputs.driven x b, RawInputs.withdrawn x b with
  | true, false => { r with state := .driven, reason := none }
  | false, true => { r with state := .withdrawn, reason := none }
  | false, false => { r with state := .fault, reason := some .position }
  | true, true => { r with state := .fault, reason := some .switchConflict }

/-- One bolt at an input sample: a bolt at rest follows its switches (R161, R162), a travel ends at its rest position
or at both switches (R163), a bolt timed out stays. -/
def boltSample (x : RawInputs) (b : Tower) (r : BoltRecord) : BoltRecord :=
  let both := RawInputs.driven x b && RawInputs.withdrawn x b
  match r.state, r.reason with
  | .withdrawing, _ =>
    if both then { r with state := .fault, reason := some .switchConflict, travel := .stopped }
    else if RawInputs.withdrawn x b then { r with state := .withdrawn, travel := .stopped } else r
  | .driving, _ =>
    if both then { r with state := .fault, reason := some .switchConflict, travel := .stopped }
    else if RawInputs.driven x b then { r with state := .driven, travel := .stopped } else r
  | .fault, some .timeout => r
  | _, _ => boltFromSwitches x b r

/-- Both bolts at an input sample. -/
def boltsSample (x : RawInputs) (s : State) : State :=
  mapDrive (fun d => { d with bolts := { w := boltSample x .w d.bolts.w, e := boltSample x .e d.bolts.e } }) s

/-- A bolt entered FAULT with reason SWITCH_CONFLICT (R163). -/
def conflictEntered (old new : BoltRecord) : Bool :=
  new.reason == some .switchConflict && old.reason != some .switchConflict

/-- One bolt takes a withdraw command (R162). -/
def withdrawBolt (p : Parameters) (r : BoltRecord) : BoltRecord :=
  match r.state with
  | .withdrawn | .withdrawing => { r with waiting := false }
  | _ => { state := .withdrawing, reason := none, travel := .start (1000 * p.lockTimeout), waiting := false }

/-- One bolt takes a drive command with both seat switches made (R162). -/
def driveBolt (p : Parameters) (r : BoltRecord) : BoltRecord :=
  match r.state with
  | .driven | .driving => { r with waiting := false }
  | _ => { state := .driving, reason := none, travel := .start (1000 * p.lockTimeout), waiting := false }

/-- One bolt takes a drive command with a seat switch released: it waits, its state is left, no timer runs (R162). DEDUCED
(log 34): so stands a bolt that was WITHDRAWING too. -/
def waitBolt (r : BoltRecord) : BoltRecord := { r with waiting := true, travel := .stopped }

/-- A waiting bolt with both seat switches made starts DRIVING with a fresh timer, whatever its state (R162). -/
def startWaiting (p : Parameters) (r : BoltRecord) : BoltRecord :=
  if !r.waiting then r
  else { state := .driving, reason := none, travel := .start (1000 * p.lockTimeout), waiting := false }

/-- The withdraw output of a bolt (R162). -/
def withdrawOutput (r : BoltRecord) : Bool := r.state == .withdrawing

/-- The drive output of a bolt (R162). -/
def driveOutput (r : BoltRecord) : Bool := r.state == .driving

/-- The command to withdraw the bolts (R162). -/
def withdrawBolts (s : State) : State :=
  mapDrive (fun d => { d with bolts := d.bolts.map (withdrawBolt s.params) }) s

/-- The command to drive the bolts (R162). -/
def driveBolts (s : State) : State :=
  mapDrive (fun d => { d with bolts := d.bolts.map (if seated s then driveBolt s.params else waitBolt) }) s

/-- Bolts that wait for the seats start DRIVING (R162). -/
def driveWaiting (s : State) : State :=
  mapDrive (fun d => { d with bolts := d.bolts.map (startWaiting s.params) }) s

end Sys2Proof.Machine
end

