-- ==== Sys2Proof/Machine/Sequence.lean ====
section
/-!
DEFINITION. The opening planner's starts and joins (chapter 3) and the sequence controller (chapter 4): changes of
sequence state with their commands, fault reports, the emergency stop, the re-entry of a held phase, and the
consequences that follow a change until none is left.
-/

namespace Sys2Proof.Machine

/-- The sequence controller changed. -/
def mapSeq (f : Sequence → Sequence) (s : State) : State := { s with seq := f s.seq }

/-! ## The planner -/

/-- The due list holds an entry that passes a test and is not tide-held. -/
def anyDue (p : Entry → Bool) (s : State) : Bool :=
  s.table.dueList.any (fun i =>
    let e := entryAt s i
    e.tideHold != some true && p e)

/-- Start condition (a) of R56. -/
def startOnHoldOff (s : State) : Bool :=
  (!s.planner.navigationClosed && s.planner.holdOffElapsed) || s.seq.state == .roadClosed

/-- Start condition (b) of R56. -/
def startOnClass (s : State) : Bool := anyDue (fun e => e.cls == 0) s

/-- Start condition (c) of R56. -/
def startOnQueue (s : State) : Bool := !s.planner.navigationClosed && s.planner.queueCritical

/-- The states an opening starts from. -/
def atStartState (s : State) : Bool := s.seq.state == .roadOpen || s.seq.state == .roadClosed

/-- The start conditions of R56. -/
def startConditions (s : State) : Bool :=
  s.mode == .service && atStartState s && s.seq.opening.isNone && !s.planner.roadPriority && anyDue (fun _ => true) s &&
    (startOnHoldOff s || startOnClass s || startOnQueue s)

/-- The cause of an opening (R59). -/
def startCause (operator onClass onQueue timetable : Bool) : OpeningCause :=
  if operator then .operator
  else if onClass then .priorityClass
  else if onQueue then .queueCritical
  else if timetable then .timetable
  else .demand

/-! ## Changes of sequence state -/

/-- A change of sequence state with what leaving the old state brings: PHASE_CHANGE (R76), the hold-off stopped on
leaving ROAD_OPEN (R52), the measurement dropped on leaving DECK_CLEARING other than for a hold (R136), the wind-wait
timer stopped at an entry to any state but the two holds (at HALTED its time is kept, R97, R98). -/
def setSeq (st : SeqState) (s : State) : State :=
  let old := s.seq.state
  let holds := st == .faultHold || st == .halted
  let s1 := raiseControl .phaseChange (mapSeq (fun q => { q with state := st }) s)
  let s2 := if old == .roadOpen then
      mapPlanner (fun p => { p with holdOff := .stopped, holdOffElapsed := false }) s1 else s1
  let s3 := if old == .deckClearing && !holds then dropMeasurement s2 else s2
  mapSeq (fun q => { q with
    windWait := match st with
      | .halted => q.windWait.pause
      | .faultHold => q.windWait
      | _ => .stopped }) s3

/-- The hold-off starts; with T_road = 0 it expires at its start (R52). -/
def startHoldOff (s : State) : State :=
  mapPlanner (fun p =>
    if s.params.roadHoldOff == 0 then { p with holdOff := .stopped, holdOffElapsed := true }
    else { p with holdOff := .start s.params.roadHoldOff, holdOffElapsed := false }) s

/-- The DONE slots with an outcome. -/
def countDone (o : PassageOutcome) (l : List Slot) : Nat :=
  (l.filter (fun x => x.state == .done && x.outcome == some o)).length

/-- A slot at the end of its opening. By R75 every slot is DONE by then; one that is not, in a state no run reaches, goes
as R67 and R178 have it: out of the zone PASSED, else back to the due list. DEDUCED (log 46). -/
def clearSlot (s : State) (x : Slot) : State :=
  match x.state with
  | .done => s
  | .inZone => withAsked (.conclude .passed) x.serial (finishSlot x.serial .passed) s
  | _ => returnSlot false x.serial s

/-- The record of an opening becomes its summary, where there is one (R75, R170). -/
def closeRecord (st : SeqState) (s : State) : State :=
  match s.seq.opening with
  | none => s
  | some o =>
    let sum : Summary := {
      number := o.number, cause := o.cause, operatorLift := o.operatorLift, startMinute := o.startMinute,
      levelUsed := o.levelUsed, target := o.target, closingCause := o.closingCause, taken := o.taken,
      withdrawn := o.withdrawn, returned := o.returned, lost := o.lost, endMinute := s.clock.minute, endState := st,
      passed := countDone .passed o.slots, noShow := countDone .noShow o.slots,
      turnedOut := countDone .turnedOut o.slots }
    let s1 := raiseHarbour .openingEnded (mapSeq (fun q => { q with opening := none, summary := some sum }) s)
    let s2 := mapPlanner (fun p => { p with maxRaised := .stopped }) s1
    mapChannel (fun c => { c with
      serving := none, servedLast := none, reliftArmed := false, deferredCheck := false, zoneList := [] }) s2

/-- The opening ends, where there is one (R75). -/
def endOpening (st : SeqState) (s : State) : State := closeRecord st ((slots s).foldl clearSlot s)

/-- DECK_CLEARING is entered (R81, R136). -/
def enterDeckClearing (reentry : Bool) (s : State) : State := startMeasurement reentry (setSeq .deckClearing s)

/-- An opening starts, where the selection takes a member or the operator asked for it (R56, R58, R73, R79). -/
def startOpening (operator : Bool) (s : State) : State :=
  let n := s.seq.counter + 1
  let onClass := startOnClass s
  let onQueue := startOnQueue s
  let (s1, taken) := selectMembers n s
  if taken.isEmpty && !operator then s1
  else
    let cause := startCause operator onClass onQueue (taken.any (fun i => kindOf s1.table i == .timetable))
    let record : Opening := {
      number := n, cause := cause, operatorLift := taken.isEmpty, startMinute := s1.clock.minute, levelUsed := none,
      target := none, closingCause := none, slots := [], taken := 0, withdrawn := 0, returned := 0, lost := 0,
      nextSerial := 0, proceedCount := 0, raisedBefore := false, abandoned := false }
    let s2 := mapSeq (fun q => { q with counter := n, opening := some record }) s1
    let s3 := raiseHarbour .openingStarted (taken.foldl (fun s i => fillSlot i s) s2)
    let s4 := mapChannel (fun c => { c with servedLast := none }) s3
    if s.seq.state == .roadClosed then enterDeckClearing false s4 else giveWarnings (setSeq .warning s4)

/-- The planner evaluates its start conditions (R57): it reads the due list (R26) and starts an opening where they
hold. It serves every event of R57 so far, one that is still owed too (log 11). -/
def evaluateStart (s : State) : State :=
  let s1 := mapPlanner (fun p => { p with evaluationOwed := false }) (verifyEntries s.table.dueList s)
  if startConditions s1 then startOpening false s1 else s1

/-- Entries that became DUE: considered for joins while an opening is in progress, else a start evaluation (R57,
R64). Several of them are one event: DESIGN CHOICE beyond the forward step of R57 (log 35). -/
def dueEvent (candidates : List Nat) (s : State) : State :=
  if candidates.isEmpty then s
  else if s.seq.opening.isSome then considerJoins (fun i => candidates.contains i) s
  else evaluateStart s

/-- ROAD_OPEN is entered (R52, R75, R89). -/
def enterRoadOpen (s : State) : State := evaluateStart (startHoldOff (endOpening .roadOpen (setSeq .roadOpen s)))

/-- ROAD_CLOSED is entered (R75, R82, R88). -/
def enterRoadClosed (s : State) : State := evaluateStart (endOpening .roadClosed (setSeq .roadClosed s))

/-- EXIT_CLOSING is entered (R82). -/
def enterExitClosing (s : State) : State :=
  commandDown .sExit (commandDown .nExit (setSeq .exitClosing s))

/-- WIND_WAIT is entered (R83). -/
def enterWindWait (s : State) : State :=
  mapSeq (fun q => { q with windWait := .start (60000 * s.params.windWaitTime) }) (setSeq .windWait s)

/-- UNLOCKING is entered (R84). -/
def enterUnlocking (s : State) : State := withdrawBolts (setSeq .unlocking s)

/-- LOCKING is entered: the counts are zeroed, the bolts driven (R88). -/
def enterLocking (s : State) : State := driveBolts (seatZeroing (setSeq .locking s))

/-- An arm in service that is not UP is commanded up (R89), and so is one that stands UP but waits to lower again: the
command cancels its wait and clears its count (R120, R126, R131). DEDUCED (log 42). -/
def raiseArm (a : Arm) (s : State) : State :=
  if armAt a .up s && (s.guard.arms.get a).retryWait == .stopped then s else commandUp a s

/-- BARRIERS_RAISING is entered: step 1 of R89. -/
def enterBarriersRaising (s : State) : State :=
  raiseArm .sExit (raiseArm .nExit (mapSeq (fun q => { q with entryRaise := false }) (setSeq .barriersRaising s)))

/-- RAISED is entered (R70, R85, R190). -/
def enterRaised (s : State) : State :=
  let first := match s.seq.opening with
    | some o => !o.raisedBefore && o.closingCause.isNone
    | none => false
  let s1 := raiseHarbour .spanRaised (setSeq .raised s)
  let s2 := mapOpening (fun o => { o with raisedBefore := true }) s1
  let s3 := if first then mapPlanner (fun p => { p with maxRaised := .start s.params.maxRaisedTime }) s2 else s2
  clearanceCheck s.channel.deferredCheck (mapChannel (fun c => { c with deferredCheck := false }) (readStanding s3))

/-! ## Fault reports and holds -/

/-- A fault report taken by the sequence controller (R78, R94, R95). -/
def reportFault (c : FaultCause) (s : State) : State :=
  match s.seq.state with
  | .inactive => s
  | .positionLost => raiseControl .faultHold (endJog s)
  | .recovering => raiseControl .faultHold (setSeq .positionLost (brakesSet s))
  | .faultHold | .halted => raiseControl .faultHold (addCause c s)
  | st =>
    let s1 := stopServing (brakesSet s)
    raiseControl .faultHold (addCause c
      (mapSeq (fun q => { q with heldPhase := some st, windWait := .stopped }) (setSeq .faultHold s1)))

/-- A fault found by the lift drive unit: any motion or jog ends and each fault is reported (R160). -/
def foundFaults (l : List FaultCause) (s : State) : State :=
  if l.isEmpty then s else l.foldl (fun s c => reportFault c s) (endMotion s)

/-- The entry to HALTED (R97, R132, R139). -/
def enterHalted (s : State) : State :=
  let held := match s.seq.state with
    | .faultHold => s.seq.heldPhase
    | .recovering => some .positionLost
    | st => some st
  let s1 := stopServing (allArms.foldl haltArm (brakesSet s))
  raiseControl .halted (mapSeq (fun q => { q with heldPhase := held }) (setSeq .halted (pauseGuard s1)))

/-- The emergency stop or STOP acts from any SERVICE state other than HALTED (R78, R97). -/
def demandHalt (s : State) : State :=
  if s.seq.state == .inactive || s.seq.state == .halted then s else enterHalted s

/-- The lift drive unit reports the target reached; acted upon in LIFTING alone (R85, R151). -/
def targetReached (s : State) : State := if s.seq.state == .lifting then enterRaised s else s

/-- The unit reports both seat switches made; acted upon in LOWERING and RECOVERING (R88, R101, R155). -/
def seatsReached (s : State) : State :=
  if s.seq.state == .lowering || s.seq.state == .recovering then enterLocking s else s

/-- The command RAISE to the stored target (R148, R151, log 16). -/
def raiseSpan (s : State) : State :=
  match s.seq.opening with
  | none => s
  | some o =>
    match o.target with
    | none => s
    | some t =>
      if !allArmsDown s then foundFaults [.armLost] s
      else if t ≤ spanPosition s then targetReached (endMotion s)
      else startMotion .raise .up (some t) s

/-- The command LOWER (R148, R151, log 15). -/
def lowerSpan (s : State) : State :=
  if !allArmsDown s then foundFaults [.armLost] s
  else if seated s then seatsReached (turnDown (endMotion s))
  else startMotion .lower .down none s

/-- The command DESCENT (R148, R165). -/
def descend (s : State) : State :=
  if !allArmsDown s then foundFaults [.armLost] s
  else if seated s then seatsReached (seatZeroing (turnDown (endMotion s)))
  else startMotion .descent .down none s

/-- LIFTING is entered from UNLOCKING (R44, R85). -/
def enterLifting (s : State) : State :=
  let s1 := storeTarget (firstTarget s) (rewriteLifts s)
  raiseSpan (setSeq .lifting s1)

/-- LOWERING is entered (R86). -/
def enterLowering (s : State) : State := lowerSpan (setSeq .lowering s)

/-- The end of EXIT_CLOSING (R82). -/
def leaveExitClosing (s : State) : State :=
  if s.seq.opening.isSome then
    if RawInputs.wind (filtered s) then enterWindWait s else enterUnlocking s
  else
    match s.seq.closureOrigin with
    | some .positionLost => setSeq .positionLost (mapSeq (fun q => { q with closureOrigin := none }) s)
    | _ => enterRoadClosed (mapSeq (fun q => { q with closureOrigin := none }) s)

/-- The completion of LOCKING (R88). -/
def leaveLocking (s : State) : State :=
  if s.seq.opening.isSome then
    if s.seq.roadClosedByOperator then enterRoadClosed s else enterBarriersRaising s
  else enterRoadClosed (mapSeq (fun q => { q with roadClosedByOperator := true }) s)

/-- The end of the wind wait in abandonment (R83, R93). -/
def abandonWind (cause : ClosingCause) (s : State) : State :=
  let s1 := setClosingCall cause s
  if s.seq.roadClosedByOperator then enterRoadClosed s1 else enterBarriersRaising s1

/-- The entry arm and the sequence at a report that an approach may close (R80, R116, R125). -/
def mayClose (a : Approach) (s : State) : State :=
  let s1 := setApproach a { s.guard.approaches.get a with permit := true } s
  let s2 := if s.seq.state == .warning then setSeq .entryClosing s1 else s1
  commandDown a.entryArm s2

/-- A taken re-lift (R45, R87). DESIGN CHOICE (log 39): the joins once the new target is stored are considered after
RAISED has been left, without the single-slot check of R190. -/
def takeRelift (s : State) : State :=
  match s.seq.opening with
  | none => s
  | some o =>
    let s1 := rewriteLifts s
    let beyond := (openSlots s1).filter (fun x => decide (s.params.maxLift < x.lift))
    let s2 := beyond.foldl (fun s x => returnSlot true x.serial s) s1
    let s3 := if beyond.isEmpty then s2 else checkAllDone s2
    let left := openSlots s3
    if left.isEmpty then s3
    else
      let t := if o.operatorLift then o.target.getD s.params.maxLift
               else boundedTarget s.params (left.map (·.lift))
      let s4 := stopServing (storeTarget t s3)
      raiseSpan (considerJoins (fun _ => true) (setSeq .lifting s4))

/-! ## Re-entry of a held phase (R99) -/

/-- An entry arm already commanded down is commanded again (R99). -/
def recommandEntry (a : Approach) (s : State) : State :=
  if (s.guard.approaches.get a).permit then commandDown a.entryArm s else s

/-- Whether ABANDON asked for the early descent (R93). -/
def abandoned (s : State) : Bool :=
  match s.seq.opening with
  | some o => o.abandoned
  | none => false

/-- The re-entry of the held phase ends what HALTED kept at the road guard (R98). -/
def leaveHalt (s : State) : State := { s with guard := { s.guard with halted := false } }

/-- A held phase is re-entered from its start (R99). A warning count paused by HALTED counts on in no phase that gives
no warning: DEDUCED (log 28). A LIFTING or UNLOCKING for which ABANDON was accepted after another cause had set
the closing call waits stationary too: DEDUCED (log 40). -/
def reenter (p : SeqState) (s : State) : State :=
  let s0 := mapSeq (fun q => { q with heldPhase := none }) (leaveHalt s)
  match p with
  | .roadOpen => enterRoadOpen s0
  | .warning => giveWarnings (setSeq .warning s0)
  | .entryClosing => recommandEntry .south (recommandEntry .north (giveWarnings (setSeq .entryClosing s0)))
  | .deckClearing => enterDeckClearing true s0
  | .exitClosing => enterExitClosing s0
  | .roadClosed => enterRoadClosed s0
  | .windWait => if RawInputs.wind (filtered s0) then enterWindWait s0 else enterUnlocking s0
  | .unlocking => enterUnlocking s0
  | .lifting => if abandoned s0 then setSeq .lifting s0 else raiseSpan (setSeq .lifting s0)
  | .raised => enterRaised s0
  | .lowering => enterLowering s0
  | .locking => enterLocking s0
  | .barriersRaising => enterBarriersRaising s0
  | st => setSeq st s0

/-! ## Consequences -/

/-- The judgement of the span seated and locked changes: raising arms drop and an arm loss is reported where the span
ceases to be so (R126, R129). -/
def followSecure (s : State) : State :=
  let now := spanSecure s
  let s1 := { s with guard := { s.guard with seatedLocked := now } }
  if now then s1
  else
    let s2 := allArms.foldl dropRaising s1
    if allArmsDown s2 then s2 else foundFaults [.armLost] s2

/-- The arm verdict changes: one that turns to not all down ends a motion and reports (R148). -/
def followArms (s : State) : State :=
  let now := allArmsDown s
  let s1 := mapDrive (fun d => { d with armVerdict := now }) s
  if !now && s.drive.motion != .none then foundFaults [.armLost] s1 else s1

/-- Whether a motion is SETTLING or RUNNING. -/
def moving (s : State) : Bool := s.drive.phase == some .settling || s.drive.phase == some .running

/-- The downward verdict changes (R149). -/
def followChannel (s : State) : State :=
  let now := channelClear s
  let s1 := mapDrive (fun d => { d with downVerdict := now }) s
  if now then s1
  else if s.drive.motion.downward && moving s then holdMotion .channel s1
  else if s.drive.motion == .jog && s.drive.direction == .down then endMotion s1
  else s1

/-- A bolt has left WITHDRAWN under a motion or a jog that is not held (R150). -/
def boltsLost (s : State) : Bool := s.drive.motion != .none && moving s && !boltsAre .withdrawn s

/-- What the loss of a bolt does (R150). -/
def followBolts (s : State) : State := if s.drive.motion == .jog then endMotion s else holdMotion .bolts s

/-- A held motion whose hold is over, or whose hold has another reason now (R149, R150). -/
def holdOver (s : State) : Bool :=
  s.drive.phase == some .held &&
    match s.drive.holdReason with
    | some .bolts => boltsAre .withdrawn s
    | _ => channelClear s

/-- An approach whose phase disagrees with R105, after the first input sample. -/
def redDisagrees (a : Approach) (s : State) : Bool :=
  let r := s.guard.approaches.get a
  s.inputs.isSome &&
    (if demandedRed a s then r.phase != .red else r.phase == .red && !r.command)

/-- Such an approach enters RED or DARK at once (R105). -/
def followRed (a : Approach) (s : State) : State := if demandedRed a s then enterRed a s else enterDark a s

/-- The channel-clear timer disagrees with its condition (R177). -/
def clearDisagrees (s : State) : Bool :=
  let counts := s.channel.clearRun || s.channel.clearTimer != .stopped
  s.inputs.isSome && channelClear s != counts

/-- The channel-clear timer starts or stops (R177). -/
def followClearTimer (s : State) : State :=
  mapChannel (fun c => { c with
    clearRun := false,
    clearTimer := if channelClear s then .start (1000 * s.params.channelClearTime) else .stopped }) s

/-- Serving starts or stops with the conditions of R180 (R183). -/
def followServing (s : State) : State :=
  if servingConditions s then mapChannel (fun c => { c with servingRuns := true }) s else stopServing s

/-- The serving direction has no WAITING and no PROCEED_GIVEN slot (R181). -/
def servingEmpty (s : State) : Bool :=
  match s.channel.serving with
  | some d => s.channel.servingRuns && !hasSlot s d .waiting && !hasSlot s d .proceedGiven
  | none => false

/-- The serving direction has a WAITING slot and none PROCEED_GIVEN (R182). -/
def servingOwes (s : State) : Bool :=
  match s.channel.serving with
  | some d => s.channel.servingRuns && hasSlot s d .waiting && !hasSlot s d .proceedGiven
  | none => false

/-- PROCEED is given in the serving direction (R182). -/
def followServed (s : State) : State :=
  match s.channel.serving with
  | some d => giveProceed d s
  | none => s

/-- A direction may be taken up (R181). -/
def mayTakeUp (s : State) : Bool :=
  s.channel.servingRuns && s.channel.serving.isNone && channelConditions s &&
    (slots s).any (fun x => x.state == .waiting)

/-- The re-lift request falls due (R191). -/
def reliftDue (s : State) : Bool :=
  s.channel.reliftArmed && !shortEmpty s && s.seq.state == .raised && channelConditions s

/-- The re-lift request is made: taken, or declined where the closing call is set (R87, R191). -/
def requestRelift (s : State) : State :=
  let s1 := mapChannel (fun c => { c with reliftArmed := false }) s
  if closingCall s1 then s1 else takeRelift s1

/-- The phase the sequence is in is complete (R80, R82 to R84, R86, R88, R89, R93, R101). -/
def phaseComplete (s : State) : Bool :=
  match s.seq.state with
  | .entryClosing =>
    s.guard.approaches.north.permit && s.guard.approaches.south.permit && armAt .nEntry .down s && armAt .sEntry .down s
  | .exitClosing => armAt .nExit .down s && armAt .sExit .down s
  | .windWait => !RawInputs.wind (filtered s)
  | .unlocking => if abandoned s then channelConditions s else boltsAre .withdrawn s
  | .lifting => abandoned s && s.drive.motion == .none && channelConditions s
  | .raised => closingCall s && channelConditions s
  | .locking => boltsAre .driven s
  | .barriersRaising =>
    if s.seq.entryRaise then armAt .nEntry .up s && armAt .sEntry .up s
    else armAt .nExit .up s && armAt .sExit .up s
  | .recovering => s.drive.motion == .none && boltsAre .withdrawn s
  | _ => false

/-- What follows a complete phase. -/
def advancePhase (s : State) : State :=
  match s.seq.state with
  | .entryClosing => enterDeckClearing false s
  | .exitClosing => leaveExitClosing s
  | .windWait => enterUnlocking s
  | .unlocking => if abandoned s then enterLocking s else enterLifting s
  | .lifting => enterLowering s
  | .raised => enterLowering (stopServing s)
  | .locking => leaveLocking s
  | .barriersRaising =>
    if s.seq.entryRaise then enterRoadOpen (takeWarnings s)
    else raiseArm .sEntry (raiseArm .nEntry (mapSeq (fun q => { q with entryRaise := true }) s))
  | .recovering => descend s
  | _ => s

/-- Some bolt waits for the seats, and both are made (R162). -/
def boltsWait (s : State) : Bool := seated s && (s.drive.bolts.w.waiting || s.drive.bolts.e.waiting)

/-- The start evaluation that a change of the queue-critical flag owes (R55): none where an opening has begun (R57). -/
def followOwed (s : State) : State :=
  if s.seq.opening.isSome then mapPlanner (fun p => { p with evaluationOwed := false }) s else evaluateStart s

/-- The consequences in the order in which they are looked for (log 10). -/
def followRules : List (State → Option State) :=
  [ whenever (fun s => spanSecure s != s.guard.seatedLocked) followSecure,
    whenever (fun s => allArmsDown s != s.drive.armVerdict) followArms,
    whenever (fun s => s.inputs.isSome && channelClear s != s.drive.downVerdict) followChannel,
    whenever boltsLost followBolts,
    whenever holdOver beginPhase,
    whenever boltsWait driveWaiting,
    whenever (redDisagrees .north) (followRed .north),
    whenever (redDisagrees .south) (followRed .south),
    whenever clearDisagrees followClearTimer,
    whenever (fun s => servingConditions s != s.channel.servingRuns) followServing,
    whenever servingEmpty dropServing,
    whenever servingOwes followServed,
    whenever mayTakeUp takeUp,
    whenever reliftDue requestRelift,
    whenever phaseComplete advancePhase,
    whenever (fun s => s.planner.evaluationOwed) followOwed ]

/-- One consequence, where there is one. -/
def follow : State → Option State := firstRule followRules

/-- A tower is commanded to move: its brake is released or its reference is not 0. -/
def commanded (r : TowerRecord) : Bool := r.released || r.reference != 0

/-- The interlocks of R148, R149 and R150 under which a tower may be commanded to move. -/
def interlocksHold (s : State) : Bool :=
  allArmsDown s && boltsAre .withdrawn s && (s.drive.direction == .up || channelClear s)

/-- The interlocks stand at the end of every step: a tower commanded to move against one of them is braked, as R148 to
R150 give for an arm, a bolt and the channel. Where the consequences have been worked off there is none (log 10). -/
def keepInterlocks (s : State) : State :=
  if !(commanded s.drive.towers.w || commanded s.drive.towers.e) || interlocksHold s then s
  else if !allArmsDown s || s.drive.motion == .jog then endMotion s
  else if !boltsAre .withdrawn s then holdMotion .bolts s
  else holdMotion .channel s

/-- The consequences of a change, worked off within the step, and both masts worked out anew (log 10, R173). -/
def settle (s : State) : State := refreshMasts (keepInterlocks (iterate follow Config.settleFuel s))

end Sys2Proof.Machine
end

