-- ==== Sys2Proof/Machine/Field.lean ====
section
/-!
DEFINITION. Power-on and the field events: POWER_ON, INPUT_SAMPLE, POSITION_SAMPLE, ENCODER_EDGE, and the timers of
the lift drive unit.
-/

namespace Sys2Proof.Machine

/-- The outcome type of this machine. -/
abbrev Out := Host.Outcome State Fault Refusal

/-! ## POWER_ON -/

/-- The baud rate of the two baud lines (R206). -/
def baudOf (first second : Bool) : Baud :=
  match first, second with
  | false, false => .b9600
  | true, false => .b19200
  | false, true => .b38400
  | true, true => .b115200

/-- A port reads its straps at power-on (R206). -/
def strapPort (x : Straps) (r : PortRecord) : PortRecord :=
  { r with station := x.station, baud := baudOf x.firstBaudLine x.secondBaudLine }

/-- A tower reads its encoder levels at power-on (R141). -/
def levelTower (x : Bool × Bool) (r : TowerRecord) : TowerRecord := { r with phaseA := x.1, phaseB := x.2 }

/-- Power-on: every block takes its reset values; straps and encoder levels are read. The waiting commands and the
count of free choices are the model's own and stay. -/
def powerOn (x : PowerOnLevels) (s : State) : State :=
  { State.reset with
    pending := s.pending,
    freeCount := s.freeCount,
    ports := { control := strapPort x.straps.control PortRecord.resetControl,
               harbour := strapPort x.straps.harbour PortRecord.resetHarbour },
    drive := { Drive.reset with
      towers := { w := levelTower x.encoders.w .reset, e := levelTower x.encoders.e .reset } } }

/-- POWER_ON (R195). -/
def execPowerOn (x : PowerOnLevels) (s : State) : Out := .next (powerOn x s)

/-! ## INPUT_SAMPLE -/

/-- The bolts at an input sample, with the report of each switch conflict entered (R161, R163). -/
def sampleBolts (s : State) : State :=
  let x := filtered s
  let old := s.drive.bolts
  let s1 := boltsSample x s
  let s2 := if conflictEntered old.w s1.drive.bolts.w then foundFaults [.lockSwitchConflict] s1 else s1
  if conflictEntered old.e s1.drive.bolts.e then foundFaults [.lockSwitchConflict] s2 else s2

/-- An arm has left DOWN for FAULT (R129). -/
def downLost (old new : PerArm ArmRecord) : Bool :=
  allArms.any (fun a => (old.get a).state == .down && (new.get a).state == .fault)

/-- The arms at an input sample, with the arm-loss report of R128 and R129. -/
def sampleArms (first : Bool) (s : State) : State :=
  let x := filtered s
  if first then allArms.foldl (firstArmSample x) s
  else
    let s1 := allArms.foldl (armSample x) s
    if downLost s.guard.arms s1.guard.arms && !spanSecure s1 then foundFaults [.armLost] s1 else s1

/-- One approach at the first input sample (R105, R106): demanded red or under its command it shows RED, with a count
that runs already going on, else it enters DARK (log 8). -/
def firstPhase (a : Approach) (s : State) : State :=
  if demandedRed a s || (s.guard.approaches.get a).command then showRed a s else enterDark a s

/-- At the first input sample each approach takes the phase R105 and R106 give it. -/
def firstPhases (s : State) : State := firstPhase .south (firstPhase .north s)

/-- One input sample, in the order of log 9. -/
def inputSample (raw : RawInputs) (s : State) : State :=
  let first := s.inputs.isNone
  let before := filtered s
  let s1 := takeReading raw s
  let now := filtered s1
  let s2 := sampleBolts s1
  let s3 := if spanSecure s2 != s2.guard.seatedLocked then followSecure s2 else s2
  let s4 := sampleArms first s3
  let s5 := if first then firstPhases s4 else s4
  let s6 := deckSample before now s5
  let s7 := edgeSample before now .d (edgeSample before now .u s6)
  if RawInputs.emergencyStop raw then demandHalt s7 else s7

/-- INPUT_SAMPLE (R194). -/
def execInputSample (raw : RawInputs) (s : State) : Out := .next (settle (inputSample raw s))

/-! ## POSITION_SAMPLE -/

/-- The upper limit switches newly found made (R159). -/
def overtravelled (x : RawInputs) (s : State) : Bool :=
  allTowers.any (fun t => RawInputs.upperLimit x t && !(s.drive.towers.get t).limitBefore)

/-- The upper limit switches as this sample finds them. -/
def rememberLimits (x : RawInputs) (s : State) : State :=
  mapDrive (fun d => { d with
    towers := { w := { d.towers.w with limitBefore := RawInputs.upperLimit x .w },
                e := { d.towers.e with limitBefore := RawInputs.upperLimit x .e } } }) s

/-- The stall anchors of a RUNNING RAISE or LOWER step (R158). -/
def stepAnchors (s : State) : State := mapDrive (fun d => { d with towers := d.towers.map stepAnchor }) s

/-- A jog notes the level switch made (R168). -/
def noteLevel (x : RawInputs) (s : State) : State :=
  mapDrive (fun d => { d with jog := d.jog.map (fun j => { j with levelMade := j.levelMade || RawInputs.level x }) }) s

/-- The faults of a RUNNING jog (R168). POSITION_RANGE is supervised in FAULT_HOLD with valid positions alone, DEDUCED
where R157 and R168 differ (log 33). -/
def jogFaults (x : RawInputs) (s : State) : List FaultCause :=
  (match s.drive.jog with
    | some j => if j.levelMade && !RawInputs.level x then [.level] else []
    | none => []) ++
  (if s.drive.valid && s.seq.state == .faultHold && outOfRange s then [.positionRange] else [])

/-- The faults found at a sample, by the motion that runs (R157). -/
def sampleFaults (x : RawInputs) (s : State) : List FaultCause :=
  if s.drive.phase == some .running then
    match s.drive.motion with
    | .raise | .lower => motionFaults x s
    | .descent => if RawInputs.level x then [] else [.level]
    | .jog => jogFaults x s
    | .none => []
  else []

/-- The raising stop and, where the motion goes on, the profile and the trim (R153, R154, R156). -/
def sampleRaise (s : State) : State :=
  match s.drive.target with
  | some t => if t ≤ spanPosition s then targetReached (endMotion s) else setReferences (stepProfile s)
  | none => s

/-- The seat stops of a LOWER, the seat-missing check, profile and trim (R153, R155, R156). -/
def sampleLower (x : RawInputs) (s : State) : State :=
  if seatMissing x s then foundFaults [.seatMissing] s
  else
    let s1 := seatStop x .e (seatStop x .w s)
    if bothStopped s1 then seatsReached (endMotion s1) else setReferences (stepProfile s1)

/-- The seat stops of a DESCENT and its end, in every phase (R165, steps 4 and 5). -/
def sampleDescent (x : RawInputs) (s : State) : State :=
  let s1 := seatStop x .e (seatStop x .w s)
  if bothStopped s1 then seatsReached (seatZeroing (endMotion s1)) else s1

/-- What a jog in progress does at a sample: it ends where it would no longer be accepted (R168). -/
def sampleJog (s : State) : State :=
  match s.drive.jog with
  | some j => if jogState s && jogAllowed j.tower j.direction s then s else endMotion s
  | none => s

/-- The motion's part of a sample that found no fault. -/
def sampleMotion (x : RawInputs) (s : State) : State :=
  let runs := s.drive.phase == some .running
  match s.drive.motion with
  | .raise => if runs then sampleRaise s else s
  | .lower => if runs then sampleLower x s else s
  | .descent => sampleDescent x s
  | .jog => sampleJog s
  | .none => s

/-- A STOP asked since the last sample is taken: the motion ends, and a raising stop that falls at this sample is
reported (R151). -/
def sampleStop (s : State) : State :=
  match s.drive.motion, s.drive.phase, s.drive.target with
  | .raise, some .running, some t =>
    if t ≤ spanPosition s then targetReached (endMotion s) else endMotion s
  | _, _, _ => endMotion s

/-- One position sample (R153). -/
def positionSample (s : State) : State :=
  let x := filtered s
  let s1 := computePositions s
  let limitHit := overtravelled x s1
  let s2 := rememberLimits x s1
  let runs := s2.drive.phase == some .running && (s2.drive.motion == .raise || s2.drive.motion == .lower)
  let s3 := if runs then stepAnchors s2 else s2
  let faults := (if limitHit then [FaultCause.overtravel] else []) ++ sampleFaults x s3
  let s4 :=
    if !faults.isEmpty then foundFaults faults s3
    else if s3.drive.stopAsked then sampleStop s3
    else sampleMotion x (noteLevel x s3)
  readStanding s4

/-- POSITION_SAMPLE (R153). -/
def execPositionSample (s : State) : Out := .next (settle (positionSample s))

/-! ## ENCODER_EDGE -/

/-- A change of a tower's encoder phase (R143, R144). -/
def encoderEdge (t : Tower) (a b : Bool) (s : State) : State :=
  let r := s.drive.towers.get t
  let (c, illegal) := countEdge r.count (r.phaseA, r.phaseB) (a, b)
  let s1 := setTower t { r with count := c, phaseA := a, phaseB := b } s
  if illegal && s.drive.valid && s.seq.state != .recovering then foundFaults [.encoder] s1 else s1

/-- ENCODER_EDGE (R143). -/
def execEncoderEdge (t : Tower) (a b : Bool) (s : State) : Out := .next (settle (encoderEdge t a b s))

/-! ## Timers of the lift drive unit -/

/-- BRAKE_SETTLE_EXPIRY (R152, R165, R167). -/
def execBrakeSettleExpiry (s : State) : Out :=
  .next (expire s.drive.settle (fun s => settle (runMotion s)) s)

/-- The lock-travel timer of a bolt expires: FAULT with reason TIMEOUT, LOCK_TIMEOUT reported (R163). -/
def boltTimeout (b : Tower) (s : State) : State :=
  foundFaults [.lockTimeout] (setBolt b { s.drive.bolts.get b with
    state := .fault, reason := some .timeout, travel := .stopped } s)

/-- LOCK_TRAVEL_TIMER_EXPIRY (R163). -/
def execLockTravelTimerExpiry (b : Tower) (s : State) : Out :=
  .next (expire (s.drive.bolts.get b).travel (fun s => settle (boltTimeout b s)) s)

/-- The keep-alive timer of the jog in progress. -/
def keepAlive (s : State) : Timer :=
  match s.drive.jog with
  | some j => j.keepAlive
  | none => .stopped

/-- JOG_KEEP_ALIVE_EXPIRY (R167). -/
def execJogKeepAliveExpiry (s : State) : Out := .next (expire (keepAlive s) (fun s => settle (endJog s)) s)

end Sys2Proof.Machine
end

