-- ==== Sys2Proof/Machine/Clock.lean ====
section
/-!
DEFINITION. The bridge clock (chapter 9): pulses, steps, minute events, SET_TIME and CLOCK_STATUS.
-/

namespace Sys2Proof.Machine

/-- The clock changed. -/
def mapClock (f : Clock → Clock) (s : State) : State := { s with clock := f s.clock }

/-- A timer of the planner counts one minute (R51). -/
def countMinute (s : State) : State :=
  mapPlanner (fun p => { p with
    holdOff := p.holdOff.advance 1, roadPriorityTimer := p.roadPriorityTimer.advance 1,
    maxRaised := p.maxRaised.advance 1 }) s

/-- The entries that became DUE between two states: not DUE before, or DUE with a younger stamp. A stamp moved on so
that its age stays 65535 (R9) is no new stamp. DESIGN CHOICE (log 35): of the entries DUE at the end of a step (R25)
those that became so in it are handed on. -/
def newlyDue (old new : State) : List Nat :=
  new.table.dueList.filter (fun i =>
    (entryAt old i).state != .due ||
      ((entryAt old i).dueStamp != (entryAt new i).dueStamp && entryAge new i != 65535))

/-- What the table makes of a change of time is handed to the planner as one event (R25, R57, R64); so too, DESIGN
CHOICE (log 35), what one minute event or the sweep makes DUE. -/
def withDueEvent (f : State → State) (s : State) : State :=
  let s1 := f s
  dueEvent (newlyDue s s1) s1

/-- A minute event: hold ages and, while valid, the visit of the new minute; the planner counts it (R51, R202). -/
def minuteEvent (s : State) : State :=
  withDueEvent (fun s =>
    let s1 := ageConcluded 1 s
    if s.clock.valid then visitMinute s.clock.minute s1 else s1) (countMinute s)

/-- The minute of day advances by 1 and the seconds become 0. -/
def advanceMinute (s : State) : State :=
  minuteEvent (mapClock (fun c => { c with minute := (c.minute + 1) % Config.dayMinutes, seconds := 0 }) s)

/-- A second step (R202). -/
def secondStep (s : State) : State :=
  if 59 ≤ s.clock.seconds then advanceMinute s
  else mapClock (fun c => { c with seconds := c.seconds + 1 }) s

/-- An early pulse (R199, R201). -/
def earlyPulse (s : State) : State :=
  mapClock (fun c => { c with
    early := true, recaptureRun := if c.lock == .free then 0 else c.recaptureRun }) s

/-- A pulse is taken: its leading edge becomes the reference, and its width is measured (R199). -/
def takePulse (s : State) : State :=
  mapClock (fun c => { c with reference := some 0, measuring := .start Config.minuteMarkMs }) s

/-- The clock enters LOCKED at the third in-window pulse in a row (R201). -/
def relock (s : State) : State :=
  let stepped := match s.clock.sinceStep with
    | some t => decide (t < Config.relockMs)
    | none => false
  let s1 := mapClock (fun c => { c with
    lock := .locked, recaptureRun := 0, stepTimer := .stopped, supervision := .start Config.pulseLateMs }) s
  if stepped then s1 else secondStep s1

/-- A taken pulse by the lock state (R200, R201). -/
def actOnPulse (inWindow : Bool) (s : State) : State :=
  match s.clock.lock with
  | .locked => secondStep (mapClock (fun c => { c with supervision := .start Config.pulseLateMs }) s)
  | .free =>
    if !inWindow then mapClock (fun c => { c with recaptureRun := 0 }) s
    else if 3 ≤ s.clock.recaptureRun + 1 then relock s
    else mapClock (fun c => { c with recaptureRun := c.recaptureRun + 1 }) s

/-- A leading edge judged against the pulse reference (R199). -/
def pulseEdge (s : State) : State :=
  match s.clock.reference with
  | none => actOnPulse false (takePulse s)
  | some t =>
    if t < Config.pulseEarlyMs then earlyPulse s
    else actOnPulse (decide (t ≤ Config.pulseLateMs)) (takePulse s)

/-- SECOND_MARK (R199): the pulse being measured falls less than 300 ms after its leading edge. A fall that comes later
is that of a minute mark, and marks nothing. -/
def execSecondMark (s : State) : Out :=
  .next (if s.clock.measuring.isRunning && !s.clock.measuring.expired then
    mapClock (fun c => { c with measuring := .stopped, lastMark := some .second }) s else s)

/-- The minute-mark correction (R203), 300 ms after the mark's leading edge. -/
def minuteMark (s : State) : State :=
  let s1 := mapClock (fun c => { c with
    measuring := .stopped, lastMark := some .minute,
    stepTimer := if c.lock == .free then .running Config.minuteMarkMs Config.oscillatorMs else c.stepTimer }) s
  if s.clock.seconds == 0 then s1
  else
    let s2 := raiseControl .clockStepped s1
    if s.clock.seconds < 30 then mapClock (fun c => { c with seconds := 0 }) s2 else advanceMinute s2

/-- MINUTE_MARK_CORRECTION (R203). -/
def execMinuteMarkCorrection (s : State) : Out :=
  .next (expire s.clock.measuring (fun s => settle (minuteMark s)) s)

/-- The supervision timer expires: the clock enters FREE (R200). -/
def loseLock (s : State) : State :=
  secondStep (raiseControl .clockFree (mapClock (fun c => { c with
    lock := .free, supervision := .stopped, stepTimer := .start Config.oscillatorMs, recaptureRun := 0 }) s))

/-- SUPERVISION_TIMER_EXPIRY (R200). -/
def execSupervisionTimerExpiry (s : State) : Out :=
  .next (expire s.clock.supervision (fun s => settle (loseLock s)) s)

/-- An oscillator step (R200). -/
def oscillatorStep (s : State) : State :=
  secondStep (mapClock (fun c => { c with stepTimer := .start Config.oscillatorMs, sinceStep := some 0 }) s)

/-- OSCILLATOR_STEP (R200). -/
def execOscillatorStep (s : State) : Out :=
  .next (expire s.clock.stepTimer (fun s => settle (oscillatorStep s)) s)

/-! ## Pulses -/

/-- A pulse `ms` from now comes no later than 1.2 s after the pulse reference (R199). -/
def pulseInTime (ms : Nat) (s : State) : Bool :=
  match s.clock.reference with
  | some t => decide (t + ms ≤ Config.pulseLateMs)
  | none => false

/-- The timers of the clock with their expiries, as far as they come before a pulse `ms` from now that falls at the same
moment: the supervision timer gives way to a pulse that is in time (R199, R200, log 38). -/
def clockTimers (ms : Nat) (s : State) : List (Timer × (State → State)) :=
  [(s.clock.measuring, minuteMark), (s.clock.stepTimer, oscillatorStep)] ++
    if pulseInTime ms s then [] else [(s.clock.supervision, loseLock)]

/-- An expiry of the clock that is due, where there is one; of several, one that the spec leaves open (log 4). -/
def clockExpiry (ms : Nat) (s : State) : State :=
  match (clockTimers ms s).filter (fun x => x.1.expired) with
  | [] => s
  | [x] => x.2 s
  | x :: rest =>
    ((x :: rest).getD (Config.dueChoice s.freeCount % (rest.length + 1)) x).2 { s with freeCount := s.freeCount + 1 }

/-- The clock runs on to a pulse `ms` from now: its expiries on the way happen, each at its moment and with its
consequences (R199, R200). At most `n` of them. -/
def runClock : Nat → Nat → State → State
  | 0, ms, s => elapse ms s
  | n + 1, ms, s =>
    match ((clockTimers ms s).filterMap (fun x => x.1.remaining)).min? with
    | none => elapse ms s
    | some w => if ms < w then elapse ms s else runClock n (ms - w) (settle (clockExpiry (ms - w) (elapse w s)))

/-- The expiries that `ms` milliseconds can bring at the clock: a minute mark, a loss of lock, a step each second, and
those already due. -/
def clockFuel (ms : Nat) : Nat := ms / Config.oscillatorMs + 5

/-- TIME_PULSE_LEADING_EDGE (R199), so many milliseconds after the step before it. -/
def execTimePulseLeadingEdge (elapsedMs : Nat) (s : State) : Out :=
  .next (settle (pulseEdge (runClock (clockFuel elapsedMs) elapsedMs s)))

/-! ## Requests -/

/-- The clock takes a new time; in FREE the oscillator step timer starts afresh (R204). -/
def setClock (minute seconds : Nat) (s : State) : State :=
  mapClock (fun c => { c with
    minute := minute, seconds := seconds, valid := true,
    stepTimer := if c.lock == .free then .start Config.oscillatorMs else c.stepTimer }) s

/-- The step of a FORWARD SET_TIME (R204). -/
def forwardStep (c : Clock) (minute seconds : Nat) : Nat :=
  let k := (minute + Config.dayMinutes - c.minute) % Config.dayMinutes
  if k == 0 then (if c.seconds ≤ seconds then 0 else Config.dayMinutes) else k

/-- A forward step at the table: hold ages, then the minutes passed (R22, R25). DESIGN CHOICE (log 35): the ages rise
by k before the minutes are visited, so an entry concluded within the step keeps the hold age 0. -/
def forwardTable (k old : Nat) (s : State) : State := visitMinutes k old (ageConcluded k s)

/-- SET_TIME's owner (R204): minute, seconds, direction (0 FORWARD, 1 BACKWARD). DESIGN CHOICE (log 21): a FORWARD
request whose step is 0 is answered with k present and 0. -/
def ownSetTime (p : List Byte) (s : State) : State × Answer :=
  let minute := wordAt p 0
  let seconds := byteAt p 2
  let back := byteAt p 3
  if 1440 ≤ minute || 60 ≤ seconds || 2 ≤ back then (s, refuse .outOfRange)
  else
    let c := s.clock
    let s1 := setClock minute seconds s
    if !c.valid then
      (settle (withDueEvent (sweepTable minute) s1), accept (putBool false ++ putOpt 2 put2 none))
    else if back == 1 then (s1, accept (putBool true ++ putOpt 2 put2 none))
    else
      let k := forwardStep c minute seconds
      let s2 := if k == 0 then s1 else settle (withDueEvent (forwardTable k c.minute) s1)
      (s2, accept (putBool true ++ putOpt 2 put2 (some k)))

/-- SET_TIME (R204). -/
def execSetTime (port : Port) (payload : List Byte) (s : State) : Out :=
  .next (request port ⟨44, false, true, .both, 4⟩ payload (ownSetTime payload) s)

/-- The age of the pulse reference on the line, two bytes; a longer age is a free value (R205, log 22). -/
def putPulseAge (free : Nat) (ms : Nat) : List Byte :=
  if ms < 65536 then put2 ms else put2 (Config.longPulseAge free).toNat

/-- CLOCK_STATUS's owner (R205): the request asks whether EARLY is to be cleared. DESIGN CHOICE (log 47): the code of the
last mark leaves out the word "absent" that begins its list in R198. -/
def ownClockStatus (p : List Byte) (s : State) : State × Answer :=
  match yesNo (byteAt p 0) with
  | none => (s, refuse .outOfRange)
  | some clear =>
    let c := s.clock
    let long := match c.reference with
      | some t => decide (65536 ≤ t)
      | none => false
    let s1 := if clear then mapClock (fun c => { c with early := false }) s else s
    let s2 := if long then { s1 with freeCount := s.freeCount + 1 } else s1
    (s2, accept (put2 c.minute ++ put1 c.seconds ++ put1 (c.minute / 15) ++ putBool c.valid ++ put1 c.lock.ctorIdx ++
      put1 c.recaptureRun ++ putOpt 2 (putPulseAge s.freeCount) c.reference ++ putBool c.early ++
      putOpt 1 (fun (m : Mark) => put1 m.ctorIdx) c.lastMark))

/-- CLOCK_STATUS (R205). -/
def execClockStatus (port : Port) (payload : List Byte) (s : State) : Out :=
  .next (request port ⟨45, false, true, .both, 1⟩ payload (ownClockStatus payload) s)

end Sys2Proof.Machine
end

