-- ==== Sys2Proof/Machine/Line.lean ====
section
/-!
DEFINITION. Events of the ports' lines that are no catalogued request, and the attention requests (chapter 10).
-/

namespace Sys2Proof.Machine

/-- BREAK (R211): the receiver is reset; a response being sent goes on. -/
def execLineBreak (p : Port) (s : State) : Out := .next (discardFrame p s)

/-- An address mark outside BUSY (R208): the port's station opens a frame, any other value is ignored. -/
def addressMark (p : Port) (value : Byte) (s : State) : State :=
  let r := s.ports.get p
  if !portFree s p then s
  else if value == r.station.zeroExtend 8 then setPort p { r with receiver := .receiving, buffer := [] } s
  else setPort p { r with receiver := .ignoring, buffer := [] } s

/-- ADDRESS_MARK (R208). -/
def execAddressMark (p : Port) (value : Byte) (s : State) : Out := .next (addressMark p value s)

/-- A frame being received meets a cause of discard (R210). A character with its stop bit at mark (R207), a check that is
good, or a length that is none of the two bad ones, is no cause. -/
def frameDiscarded (p : Port) (cause : DiscardCause) (s : State) : State :=
  let r := s.ports.get p
  if r.receiver != .receiving || r.response.isSome then s
  else
    match cause with
    | .framingError x => if (receivedCharacter x).isNone then discardFrame p s else s
    | .badLength n => if n.toNat == 0 || 250 < n.toNat then discardFrame p s else s
    | .badCheck body high low =>
      if frameCheck r.station body == high.zeroExtend 16 <<< 8 ||| low.zeroExtend 16 then s else discardFrame p s
    | .earlyMark value => addressMark p value (discardFrame p s)

/-- FRAME_DISCARDED (R210). -/
def execFrameDiscarded (p : Port) (cause : DiscardCause) (s : State) : Out := .next (frameDiscarded p cause s)

/-- A taken frame whose code names no request (R212). -/
def unknownRequest (p : Port) (code : Byte) (payload : List Byte) (s : State) : State :=
  if cataloguedCode code || !portFree s p then s
  else if payloadLimit < payload.length then discardFrame p s
  else respond p code.toNat (refuse .unknownRequest) (takeFrame p (code :: payload) s)

/-- UNKNOWN_REQUEST (R212). -/
def execUnknownRequest (p : Port) (code : Byte) (payload : List Byte) (s : State) : Out :=
  .next (unknownRequest p code payload s)

/-- The last character of the response has been sent: a BUSY receiver enters IGNORING (R210, R213). -/
def responseSent (p : Port) (s : State) : State :=
  let r := s.ports.get p
  if r.response.isNone then s
  else setPort p { r with
    response := none, receiver := if r.receiver == .busy then .ignoring else r.receiver } s

/-- RESPONSE_SENT (R213). -/
def execResponseSent (p : Port) (s : State) : Out := .next (responseSent p s)

/-- FETCH_ATTENTION's owner (R223). -/
def ownFetchAttention (p : Port) (s : State) : State × Answer :=
  let r := s.ports.get p
  let place := fetchPlace r
  let left := if place == 0 then r.attention else r.attention &&& ~~~(1#24 <<< (place - 1))
  (setPort p { r with attention := left } s,
    accept (put1 place ++ put1 (countBits (left &&& r.enable)) ++ putSources p left))

/-- FETCH_ATTENTION (R223). -/
def execFetchAttention (port : Port) (payload : List Byte) (s : State) : Out :=
  .next (request port ⟨50, true, true, .both, 0⟩ payload (ownFetchAttention port) s)

/-- The bytes of a port's enable set (R224). -/
def enableLength : Port → Nat
  | .control => 3
  | .harbour => 1

/-- The set of sources a payload names (R214). -/
def sourcesAt (p : Port) (payload : List Byte) : Nat :=
  match p with
  | .control => byteAt payload 0 * 65536 + wordAt payload 1
  | .harbour => byteAt payload 0

/-- SET_ATTENTION_ENABLE's owner (R222). -/
def ownSetAttentionEnable (p : Port) (payload : List Byte) (s : State) : State × Answer :=
  let r := s.ports.get p
  let x := sourcesAt p payload
  if 2 ^ sourceCount p ≤ x then (s, refuse .outOfRange)
  else (setPort p { r with enable := BitVec.ofNat 24 x } s, accept (putSources p r.attention))

/-- SET_ATTENTION_ENABLE (R222). -/
def execSetAttentionEnable (port : Port) (payload : List Byte) (s : State) : Out :=
  .next (request port ⟨51, true, true, .both, enableLength port⟩ payload (ownSetAttentionEnable port payload) s)

end Sys2Proof.Machine
end

