-- ==== Sys2Proof/Machine/Passage.lean ====
section
/-!
DEFINITION. The passage requests (chapter 1): creating, amending, withdrawing, releasing and reading records.
-/

namespace Sys2Proof.Machine

/-! ## Creating records -/

/-- The fields every create request begins with, where they are in range (R3): identity, direction, air draft, class. -/
def vesselFields (p : List Byte) : Option (List Byte × Direction × Int × Nat) :=
  let id := identityAt p 0
  let a := wordAt p 9
  let c := byteAt p 11
  match named allDirections (byteAt p 8) with
  | some d =>
    if identityOk id && decide (100 ≤ a) && decide (a ≤ 6000) && decide (c ≤ 7) then some (id, d, (a : Int), c)
    else none
  | none => none

/-- A window Z is in range for an E: (Z − E) mod 1440 in 1..720 (R3). -/
def windowOk (e z : Nat) : Bool :=
  let w := (z + Config.dayMinutes - e) % Config.dayMinutes
  decide (z < 1440) && decide (1 ≤ w) && decide (w ≤ 720)

/-- The optional window latest Z at an offset, in range for an E: `none` where it is out of range. -/
def latestAt (p : List Byte) (k e : Nat) : Option (Option Nat) :=
  match optional (byteAt p k) (wordAt p (k + 1)) with
  | none => none
  | some none => some none
  | some (some z) => if windowOk e z then some (some z) else none

/-- The duplicate, too-tall and fits-under checks of a create request, in order (R13): the refusal, if any. -/
def admission (id : List Byte) (d : Direction) (a level : Int) (s : State) : Option Answer :=
  match duplicateOf id d s with
  | some i => some { status := .duplicate, payload := tagOf s i }
  | none =>
    if tooTall s.params a then some (refuse .tooTall)
    else if fitsUnder s.params a level then some (refuse .noOpeningNeeded)
    else none

/-- A record stored in an entry: DUE at once, or PENDING. -/
def storeRecord (due : Bool) (i : Nat) (e : Entry) (s : State) : State :=
  let s1 := writeEntry i e s
  if due then becomeDue i s1 else s1

/-- What a new record brings once it is stored: where it is DUE it is an event at the planner (R57, R64), and the
consequences are worked off. -/
def settleStored (due : Bool) (i : Nat) (s : State) : State := settle (if due then dueEvent [i] s else s)

/-- CREATE_BOOKING's owner (R13, R14): identity, direction, air draft, class, E, presence and Z. -/
def ownCreateBooking (p : List Byte) (s : State) : State × Answer :=
  let e := wordAt p 12
  match vesselFields p, latestAt p 14 e with
  | some (id, d, a, c), some z =>
    if 1440 ≤ e then (s, refuse .outOfRange)
    else
      let s1 := readForDuplicate id d s
      match admission id d a s.params.highWater s1 with
      | some answer => (settle s1, answer)
      | none =>
        match allocate (regionOf s1.table .booked) s1 with
        | (s2, none) => (settle s2, refuse .full)
        | (s2, some i) =>
          let r := { newEntry id d a c with earliest := some e, latest := z }
          let due := s2.clock.valid && windowContains r s2.clock.minute
          let s3 := storeRecord due i r s2
          (settleStored due i s3, accept (tagOf s3 i))
  | _, _ => (s, refuse .outOfRange)

/-- CREATE_BOOKING (R13). -/
def execCreateBooking (port : Port) (payload : List Byte) (s : State) : Out :=
  .next (request port ⟨1, true, true, .both, 17⟩ payload (ownCreateBooking payload) s)

/-- The repeats of R3. -/
def repeats : List Nat := [1, 2, 3, 4, 6, 8, 12, 16, 24, 32, 48, 96]

/-- CREATE_TIMETABLE's owner (R15): identity, direction, air draft, class, b, r. -/
def ownCreateTimetable (p : List Byte) (s : State) : State × Answer :=
  let b := byteAt p 12
  let r := byteAt p 13
  match vesselFields p with
  | some (id, d, a, c) =>
    if !repeats.contains r || r ≤ b then (s, refuse .outOfRange)
    else
      let s1 := readForDuplicate id d s
      match admission id d a s.params.highWater s1 with
      | some answer => (settle s1, answer)
      | none =>
        match allocate (regionOf s1.table .timetable) s1 with
        | (s2, none) => (settle s2, refuse .full)
        | (s2, some i) =>
          let x := { newEntry id d a c with recurrence := some (b, r), skip := some false }
          let due := s2.clock.valid && recurs x (s2.clock.minute / 15)
          let s3 := storeRecord due i x s2
          (settleStored due i s3, accept (tagOf s3 i))
  | none => (s, refuse .outOfRange)

/-- CREATE_TIMETABLE (R15). -/
def execCreateTimetable (port : Port) (payload : List Byte) (s : State) : Out :=
  .next (request port ⟨2, false, true, .both, 14⟩ payload (ownCreateTimetable payload) s)

/-- The arrival filter accepts a class and direction (R42). -/
def filterAccepts (p : Parameters) (d : Direction) (cls : Nat) : Bool :=
  !p.arrivalFilter.getLsbD cls && p.arrivalFilter.getLsbD (8 + d.ctorIdx)

/-- POST_ARRIVAL's owner (R16, R17): identity, direction, air draft, class. -/
def ownPostArrival (p : List Byte) (s : State) : State × Answer :=
  match vesselFields p with
  | none => (s, refuse .outOfRange)
  | some (id, d, a, c) =>
    if !filterAccepts s.params d c then (s, refuse .filtered)
    else
      let s1 := readForDuplicate id d s
      match admission id d a s.water.effective s1 with
      | some answer => (settle s1, answer)
      | none =>
        match allocateArrival s1 with
        | (s2, none) => (settle s2, refuse .full)
        | (s2, some i) =>
          let s3 := mapTable (fun t => { t with arrivalOrder := t.arrivalOrder ++ [i] })
            (storeRecord true i (newEntry id d a c) s2)
          (settleStored true i s3, accept (tagOf s3 i))

/-- POST_ARRIVAL (R16). -/
def execPostArrival (port : Port) (payload : List Byte) (s : State) : Out :=
  .next (request port ⟨3, true, true, .both, 12⟩ payload (ownPostArrival payload) s)

/-! ## Requests that name a tag -/

/-- A request naming a tag: the check of R4, then the harbour port's bar on timetable entries (R15), then the owner
with the entry's index. -/
def withTag (port : Port) (lookUpOnly : Bool) (p : List Byte) (owner : Nat → State → State × Answer) (s : State) :
    State × Answer :=
  let i := byteAt p 0
  match checkTag i (byteAt p 1) s with
  | (s1, some x) => (settle s1, refuse x)
  | (s1, none) =>
    if port == .harbour && !lookUpOnly && kindOf s1.table i == .timetable then (settle s1, refuse .notPermitted)
    else
      let (s2, answer) := owner i s1
      (settle s2, answer)

/-- The fields an AMEND names, where they are in range: air draft, class, and a window (E with optional Z). DESIGN
CHOICE (log 36): a Z named without an E is out of range. -/
def amendFields (p : List Byte) : Option (Option Int × Option Nat × Option (Nat × Option Nat)) :=
  let e := wordAt p 8
  match optional (byteAt p 2) (wordAt p 3), optional (byteAt p 5) (byteAt p 6), optional (byteAt p 7) e,
      optional (byteAt p 10) (wordAt p 11) with
  | some a, some c, some w, some z =>
    let airOk := match a with | some x => decide (100 ≤ x) && decide (x ≤ 6000) | none => true
    let classOk := match c with | some x => decide (x ≤ 7) | none => true
    let windowFits := match w, z with
      | some e, some z => decide (e < 1440) && windowOk e z
      | some e, none => decide (e < 1440)
      | none, some _ => false
      | none, none => true
    if airOk && classOk && windowFits then some (a.map (fun (x : Nat) => (x : Int)), c, w.map (fun e => (e, z))) else none
  | _, _, _, _ => none

/-- The window membership test after an amended window (R18). -/
def retestWindow (i : Nat) (s : State) : State :=
  let e := entryAt s i
  if !s.clock.valid then s
  else if e.state == .pending && windowContains e s.clock.minute then becomeDue i s
  else if e.state == .due && !windowContains e s.clock.minute then
    writeEntry i { e with state := .pending, dueStamp := none, tideHold := none } (leaveDue i s)
  else s

/-- The amended values stored (R18). -/
def storeAmended (i : Nat) (a : Int) (c : Nat) (w : Option (Nat × Option Nat)) (s : State) : State :=
  let e := entryAt s i
  let e1 := { e with airDraft := a, cls := c, tideHold := if e.state == .due then some (tideHeld s a) else e.tideHold }
  match w with
  | none => writeEntry i e1 s
  | some (f, z) => retestWindow i (writeEntry i { e1 with earliest := some f, latest := z } s)

/-- An AMEND of a DUE entry is an event at the planner whether or not the entry took a new stamp (R57, R64). -/
def amendEvent (i : Nat) (s : State) : State := if (entryAt s i).state == .due then dueEvent [i] s else s

/-- AMEND's owner after the tag (R18). DESIGN CHOICE (log 36): an AMEND that names no air draft is put to the too-tall
and fits-under tests with the stored one. -/
def ownAmend (p : List Byte) (i : Nat) (s : State) : State × Answer :=
  let e := entryAt s i
  if e.state.inOpening || e.state == .damaged then (s, refuse .frozen)
  else if e.state == .concluded then (s, refuse .concluded)
  else
    match amendFields p with
    | none => (s, refuse .outOfRange)
    | some (a, c, w) =>
      if w.isSome && kindOf s.table i != .booked then (s, refuse .outOfRange)
      else
        let air := a.getD e.airDraft
        if tooTall s.params air then (s, refuse .tooTall)
        else if fitsUnder s.params air s.water.effective then (concludeEntry i .notNeeded s, refuse .noOpeningNeeded)
        else (amendEvent i (storeAmended i air (c.getD e.cls) w s), accept (tagOf s i))

/-- AMEND's tag check and owner; the planner's event stands in the owner. -/
def amendTagged (port : Port) (p : List Byte) (s : State) : State × Answer :=
  let i := byteAt p 0
  match checkTag i (byteAt p 1) s with
  | (s1, some x) => (settle s1, refuse x)
  | (s1, none) =>
    if port == .harbour && kindOf s1.table i == .timetable then (settle s1, refuse .notPermitted)
    else
      let (s2, answer) := ownAmend p i s1
      (settle s2, answer)

/-- AMEND (R18). -/
def execAmend (port : Port) (payload : List Byte) (s : State) : Out :=
  .next (request port ⟨4, true, true, .both, 13⟩ payload (amendTagged port payload) s)

/-- The slot of an entry is freed from the opening by WITHDRAW; then the closing-call rule, and joins where the closing
call is clear (R19, R64, R66). -/
def freeSlot (i : Nat) (s : State) : State :=
  match (slots s).find? (fun x => x.entry == some i && x.state != .done) with
  | none => s
  | some x => countWithdrawn (removeSlot x.serial s)

/-- What the opening does after a slot freed by WITHDRAW (R64, R66). -/
def afterFreed (s : State) : State :=
  let s1 := checkAllDone s
  if s1.seq.opening.isSome && !closingCall s1 then considerJoins (fun _ => true) s1 else s1

/-- WITHDRAW's owner after the tag (R19). -/
def ownWithdraw (i : Nat) (s : State) : State × Answer :=
  let e := entryAt s i
  match e.state with
  | .pending =>
    match kindOf s.table i with
    | .timetable =>
      (writeEntry i { e with skip := some true, lastOutcome := some .withdrawn } s, accept [])
    | _ => (concludeEntry i .withdrawn s, accept [])
  | .due => (concludeEntry i .withdrawn s, accept [])
  | .assigned => (afterFreed (concludeEntry i .withdrawn (freeSlot i s)), accept [])
  | .cleared | .transiting => (s, refuse .committed)
  | .concluded => (s, refuse .concluded)
  | _ => (s, refuse .frozen)

/-- WITHDRAW's tag check and owner. The returns of a closing call are no join candidates and start nothing while the
opening is in progress (R67). -/
def withdrawTagged (port : Port) (p : List Byte) (s : State) : State × Answer :=
  let i := byteAt p 0
  match checkTag i (byteAt p 1) s with
  | (s1, some x) => (settle s1, refuse x)
  | (s1, none) =>
    if port == .harbour && kindOf s1.table i == .timetable then (settle s1, refuse .notPermitted)
    else
      let (s2, answer) := ownWithdraw i s1
      (settle s2, answer)

/-- WITHDRAW (R19). -/
def execWithdraw (port : Port) (payload : List Byte) (s : State) : Out :=
  .next (request port ⟨5, true, true, .both, 2⟩ payload (withdrawTagged port payload) s)

/-- RELEASE's owner after the tag (R21). -/
def ownRelease (i : Nat) (s : State) : State × Answer :=
  let st := (entryAt s i).state
  if st == .concluded || st == .damaged then (retireEntry i s, accept []) else (s, refuse .notConcluded)

/-- RELEASE (R21). -/
def execRelease (port : Port) (payload : List Byte) (s : State) : Out :=
  .next (request port ⟨6, true, true, .both, 2⟩ payload (withTag port false payload ownRelease) s)

/-- DELETE_TIMETABLE's owner after the tag (R20). -/
def ownDeleteTimetable (i : Nat) (s : State) : State × Answer :=
  let st := (entryAt s i).state
  if kindOf s.table i != .timetable then (s, refuse .outOfRange)
  else if st == .pending || st == .due then (retireEntry i s, accept [])
  else (s, refuse .frozen)

/-- DELETE_TIMETABLE (R20). -/
def execDeleteTimetable (port : Port) (payload : List Byte) (s : State) : Out :=
  .next (request port ⟨7, false, true, .both, 2⟩ payload (withTag port false payload ownDeleteTimetable) s)

/-! ## Reading -/

/-- The passage record as LOOK_UP returns it (R225). -/
def putRecord (s : State) (i : Nat) : List Byte :=
  let e := entryAt s i
  let head := tagOf s i ++ put1 e.state.ctorIdx
  if e.state == .damaged then head
  else
    head ++ put1 (kindOf s.table i).ctorIdx ++ e.identity ++ put1 e.direction.ctorIdx ++ putInt2 e.airDraft ++
      put1 e.cls ++ putOpt 2 put2 e.earliest ++ putOpt 2 put2 e.latest ++
      putOpt 2 (fun (x : Nat × Nat) => put1 x.1 ++ put1 x.2) e.recurrence ++ putOpt 1 putBool e.skip ++
      putOpt 1 (fun (o : PassageOutcome) => put1 o.ctorIdx) e.lastOutcome ++
      putOpt 2 (fun (x : BitVec 16) => put2 x.toNat) e.dueStamp ++ putOpt 1 putBool e.tideHold ++
      putOpt 1 putBool e.lapseMark ++ putOpt 2 (fun (x : BitVec 16) => put2 x.toNat) e.openingNumber ++
      putOpt 1 (fun (o : PassageOutcome) => put1 o.ctorIdx) e.outcome ++ putOpt 2 put2 e.concludedMinute ++
      putOpt 1 put1 e.holdAge

/-- LOOK_UP's owner after the tag (R28). -/
def ownLookUp (i : Nat) (s : State) : State × Answer := (s, accept (putRecord s i))

/-- LOOK_UP (R28). -/
def execLookUp (port : Port) (payload : List Byte) (s : State) : Out :=
  .next (request port ⟨8, true, true, .both, 2⟩ payload (withTag port true payload ownLookUp) s)

/-- FIND's owner (R28): the tags of the live entries of an identity, in index order. DESIGN CHOICE (log 21): no count is
sent before them, the frame's length tells it. -/
def ownFind (p : List Byte) (s : State) : State × Answer :=
  let id := identityAt p 0
  if !identityOk id then (s, refuse .outOfRange)
  else
    let holds := fun (s : State) => allIndexes.filter (fun i =>
      let e := entryAt s i
      e.state.live && e.identity == id)
    let s0 := verifyEntries allIndexes s
    let s1 := verifyGenerations (holds s0) s0
    let found := holds s1
    (settle s1, accept (found.flatMap (tagOf s1)))

/-- FIND (R28). -/
def execFind (port : Port) (payload : List Byte) (s : State) : Out :=
  .next (request port ⟨9, true, true, .both, 8⟩ payload (ownFind payload) s)

/-- LIST's owner (R29): a set of states and a start index; up to 16 tags and the index at which to continue. DESIGN
CHOICE (log 21): no count is sent before the tags, and that index is the next one whose entry is in the set. -/
def ownList (p : List Byte) (s : State) : State × Answer :=
  let set := byteAt p 0
  let start := byteAt p 1
  if Config.entryCount ≤ start then (s, refuse .outOfRange)
  else
    let inSet := fun (e : Entry) => set.testBit e.state.ctorIdx
    let (s1, found, left) := readTags inSet (List.range' start (Config.entryCount - start)) 16 s
    let (s2, next) := readFirst inSet left s1
    (settle s2, accept (found.flatMap (tagOf s2) ++ putOpt 1 put1 next))

/-- LIST (R29). -/
def execList (port : Port) (payload : List Byte) (s : State) : Out :=
  .next (request port ⟨10, true, true, .both, 2⟩ payload (ownList payload) s)

/-- LIST_DUE's owner (R29): up to 16 tags from a position on, with the list's length after the reads. DESIGN CHOICE (log
21): no count is sent before the tags. -/
def ownListDue (p : List Byte) (s : State) : State × Answer :=
  let found := (s.table.dueList.drop (byteAt p 0)).take 16
  let s1 := verifyGenerations found (verifyEntries found s)
  (settle s1, accept (found.flatMap (tagOf s1) ++ put1 s1.table.dueList.length))

/-- LIST_DUE (R29). -/
def execListDue (port : Port) (payload : List Byte) (s : State) : Out :=
  .next (request port ⟨11, true, true, .both, 1⟩ payload (ownListDue payload) s)

/-- The VACANT entries of a region. -/
def vacantIn (s : State) (k : Kind) : Nat :=
  ((regionOf s.table k).filter (fun i => (entryAt s i).state == .vacant)).length

/-- QUEUE_STATUS's owner (R29): the states and tide holds it counts are read (R26). -/
def ownQueueStatus (q : State) : State × Answer :=
  let s := verifyEntries allIndexes q
  let t := s.table
  let held := (t.dueList.filter (fun i => (entryAt s i).tideHold == some true)).length
  (settle s, accept (put1 t.dueList.length ++ put1 held ++ put1 (dueArrivals t) ++ put1 t.arrivalOrder.length ++
    put1 (vacantIn s .timetable) ++ put1 (vacantIn s .booked) ++ put1 (vacantIn s .arrival) ++ put2 t.counter.toNat ++
    putOpt 2 (fun (x : Nat × BitVec 4) => putTag x.1 x.2) t.lastLost ++ putOpt 1 put1 t.firstDamaged ++
    putBool t.moreDamaged ++ putBool s.planner.queueCritical))

/-- QUEUE_STATUS (R29). -/
def execQueueStatus (port : Port) (payload : List Byte) (s : State) : Out :=
  .next (request port ⟨12, true, true, .both, 0⟩ payload ownQueueStatus s)

/-! ## The whole table -/

/-- CLEAR_DAMAGE's owner (R27). -/
def ownClearDamage (s : State) : State × Answer :=
  (mapTable (fun t => { t with firstDamaged := none, moreDamaged := false }) s, accept [])

/-- CLEAR_DAMAGE (R27). -/
def execClearDamage (port : Port) (payload : List Byte) (s : State) : Out :=
  .next (request port ⟨13, false, true, .both, 0⟩ payload ownClearDamage s)

/-- CLEAR_TABLE's owner (R30); the queue-critical flag falls with the due list (R49, R55). -/
def ownClearTable (s : State) : State × Answer := (settle (refreshQueueCritical (mapTable clearedTable s)), accept [])

/-- CLEAR_TABLE (R30). -/
def execClearTable (port : Port) (payload : List Byte) (s : State) : Out :=
  .next (request port ⟨14, false, true, .configuringOnly, 0⟩ payload ownClearTable s)

/-- SET_REGIONS's owner (R2): TB and QB as parameter values of four bytes. -/
def ownSetRegions (p : List Byte) (s : State) : State × Answer :=
  let tb := longAt p 0
  let qb := longAt p 4
  if tb < 0 || 64 < tb || qb < tb || 64 < qb then (s, refuse .outOfRange)
  else
    let new := { s.table with tb := tb.toNat, qb := qb.toNat }
    let changing := allIndexes.filter (fun i => kindOf s.table i != kindOf new i)
    let s1 := verifyEntries changing s
    if changing.any (fun i => (entryAt s1 i).state != .vacant) then (settle s1, refuse .regionInUse)
    else (settle (mapTable (fun t => { t with tb := tb.toNat, qb := qb.toNat }) s1), accept [])

/-- SET_REGIONS (R2). -/
def execSetRegions (port : Port) (payload : List Byte) (s : State) : Out :=
  .next (request port ⟨15, false, true, .configuringOnly, 8⟩ payload (ownSetRegions payload) s)

end Sys2Proof.Machine
end

