-- ==== Sys2Proof/Machine/WaterRequests.lean ====
section
/-!
DEFINITION. Water readings and the events they raise (chapter 2).
-/

namespace Sys2Proof.Machine

/-- The entries of the due list whose tide hold went from yes to no (R62). -/
def releasedByTide (old new : State) : Bool :=
  new.table.dueList.any (fun i =>
    (entryAt old i).tideHold == some true && (entryAt new i).tideHold == some false)

/-- A water event at the planner (R62): tide holds rewritten, then joins or a start evaluation. Joins are considered
where some hold went from yes to no; every DUE entry not tide-held is then a candidate (R64, log 12). -/
def waterAtPlanner (s : State) : State :=
  let s1 := rewriteTideHolds s
  if s1.seq.opening.isSome then
    if releasedByTide s s1 then considerJoins (fun _ => true) s1 else s1
  else evaluateStart s1

/-- A water event (R37): the planner, then the channel unit. Whether an opening is in progress, and in its raised
phase, is what the event finds (log 27). -/
def waterEvent (s : State) : State :=
  let s1 := waterAtPlanner s
  if s.seq.opening.isSome then waterAtChannel s1 else s1

/-- A clamped reading through the jump comparison (R34). -/
def takeReadingOf (v : Int) (s : State) : State :=
  match judgeReading s.params s.water v with
  | .held => holdReading v s
  | _ => settle (waterEvent (acceptReading v s))

/-- WATER_LEVEL's owner (R32 to R35). -/
def ownWaterLevel (p : List Byte) (s : State) : State × Answer :=
  let v := signedAt p 0
  let c := clampReading v
  let d := judgeReading s.params s.water c
  let s1 := if c == v then s else raiseControl .gaugeRange s
  let s2 := takeReadingOf c s1
  (s2, accept (put1 d.ctorIdx ++ putBool (c != v) ++ put1 s2.water.gauge.ctorIdx ++ putInt2 s2.water.effective))

/-- WATER_LEVEL (R32). -/
def execWaterLevel (port : Port) (payload : List Byte) (s : State) : Out :=
  .next (request port ⟨16, true, false, .both, 2⟩ payload (ownWaterLevel payload) s)

/-- The gauge falls silent (R35, R36, R37). -/
def goStale (s : State) : State :=
  let s1 := recomputeLevel { s with water := { s.water with gauge := .stale, staleness := .stopped } }
  waterEvent (raiseHarbour .gaugeStale (raiseControl .gaugeStale s1))

/-- STALENESS_TIMER_EXPIRY (R35). -/
def execStalenessTimerExpiry (s : State) : Out :=
  .next (expire s.water.staleness (fun s => settle (goStale s)) s)

/-- The figures CLEARANCE_STATUS adds for a named air draft (R48, log 21). -/
def putFigures (s : State) (a : Int) : List Byte :=
  let p := s.params
  let l := s.water.effective
  let lift0 := liftOfNeed (need p a l 0)
  putInt2 (need p a l 0) ++ put2 (lift0 / 100).toNat ++ put2 (requiredLift s a / 100).toNat ++
    putBool (tooTall p a) ++ putBool (fitsUnder p a l) ++ putBool (fitsUnder p a p.highWater) ++
    putBool (tideHeld s a) ++
    putOpt 2 putInt2 (if s.drive.valid then some (availableClearance s) else none) ++
    putOpt 1 putBool (if s.drive.valid then some (sufficient s a) else none)

/-- CLEARANCE_STATUS's owner (R48). DESIGN CHOICE (log 21): where the request names no air draft, the added figures are
left out of the payload, not sent as absent fields. -/
def ownClearanceStatus (q : List Byte) (s : State) : State × Answer :=
  let w := s.water
  let p := s.params
  let base := putOpt 2 putInt2 w.accepted ++ putOpt 2 putInt2 w.candidate ++ put1 w.gauge.ctorIdx ++
    putInt2 w.effective ++ putOpt 2 (fun (n : Nat) => put2 (n / 1000)) w.sinceMs ++ putInt4 p.closedClearance ++
    putInt4 p.margin ++ putInt4 p.tideAllowance ++ putInt4 p.gaugeMargin ++ putInt4 p.highWater ++
    putInt4 p.lowWater ++ putInt4 p.maxLift ++ putInt4 p.jumpLimit
  match optional (byteAt q 0) (wordAt q 1) with
  | none => (s, refuse .outOfRange)
  | some none => (s, accept base)
  | some (some a) =>
    if a < 100 || 6000 < a then (s, refuse .outOfRange) else (s, accept (base ++ putFigures s a))

/-- CLEARANCE_STATUS (R48). -/
def execClearanceStatus (port : Port) (payload : List Byte) (s : State) : Out :=
  .next (request port ⟨17, false, true, .both, 3⟩ payload (ownClearanceStatus payload) s)

end Sys2Proof.Machine
end

