-- ==== Sys2Proof/Machine/OpeningRequests.lean ====
section
/-!
DEFINITION. The planner's requests and timers (chapter 3), ABANDON (R93) and OPENING_STATUS (R225).
-/

namespace Sys2Proof.Machine

/-! ## Timers of the planner -/

/-- ROAD_HOLD_OFF_EXPIRY (R52). -/
def execRoadHoldOffExpiry (s : State) : Out :=
  .next (expireMinutes s.planner.holdOff (fun s =>
    settle (evaluateStart (mapPlanner (fun p => { p with holdOff := .stopped, holdOffElapsed := true }) s))) s)

/-- An end of road priority (R53, R57). -/
def endRoadPriority (s : State) : State :=
  let s1 := mapPlanner (fun p => { p with roadPriority := false, roadPriorityTimer := .stopped }) s
  if s1.seq.opening.isSome then s1 else evaluateStart s1

/-- ROAD_PRIORITY_TIMER_EXPIRY (R53). -/
def execRoadPriorityTimerExpiry (s : State) : Out :=
  .next (expireMinutes s.planner.roadPriorityTimer (fun s => settle (endRoadPriority s)) s)

/-- MAX_RAISED_TIMER_EXPIRY (R70). -/
def execMaxRaisedTimerExpiry (s : State) : Out :=
  .next (expireMinutes s.planner.maxRaised (fun s =>
    settle (setClosingCall .maxRaised (mapPlanner (fun p => { p with maxRaised := .stopped }) s))) s)

/-! ## Requests -/

/-- OPEN_NOW's owner (R58). -/
def ownOpenNow (s : State) : State × Answer :=
  if !atStartState s || s.planner.roadPriority then (s, refuse .notReady)
  else
    let s1 := startOpening true s
    (settle s1, accept (put2 s1.seq.counter.toNat))

/-- OPEN_NOW (R58). -/
def execOpenNow (port : Port) (payload : List Byte) (s : State) : Out :=
  .next (request port ⟨19, false, true, .serviceOnly, 0⟩ payload ownOpenNow s)

/-- CLOSE_SPAN's owner (R69). -/
def ownCloseSpan (s : State) : State × Answer :=
  if s.seq.opening.isNone then (s, refuse .notReady)
  else if !(openSlots s).isEmpty then (s, refuse .notReady)
  else if closingCall s then (s, accept [])
  else (settle (setClosingCall .closeSpan s), accept [])

/-- CLOSE_SPAN (R69). -/
def execCloseSpan (port : Port) (payload : List Byte) (s : State) : Out :=
  .next (request port ⟨20, false, true, .serviceOnly, 0⟩ payload ownCloseSpan s)

/-- A closure that ABANDON and ROAD_PRIORITY cannot give up: an operator closure from POSITION_LOST (R92). -/
def closureFixed (s : State) : Bool := s.seq.closureOrigin == some .positionLost

/-- A closure in WARNING, ENTRY_CLOSING or DECK_CLEARING is given up (R92): an opening gets its closing call, an
operator closure loses its flag and origin; from WARNING the warnings go off and the road is open, from the others the
arms are raised, or the road stays closed for an opening started from ROAD_CLOSED. -/
def giveUpClosure (cause : ClosingCause) (s : State) : State :=
  let s1 := if s.seq.opening.isSome then setClosingCall cause s
    else mapSeq (fun q => { q with roadClosedByOperator := false, closureOrigin := none }) s
  if s.seq.state == .warning then enterRoadOpen (takeWarnings s1)
  else if s1.seq.roadClosedByOperator then enterRoadClosed s1
  else enterBarriersRaising s1

/-- The road-priority flag is set and its timer started (R53). -/
def setRoadPriority (s : State) : State :=
  mapPlanner (fun p => { p with roadPriority := true, roadPriorityTimer := .start s.params.roadPriorityTime }) s

/-- ROAD_PRIORITY's owner (R53, R92). -/
def ownRoadPriority (s : State) : State × Answer :=
  match s.seq.state with
  | .roadOpen | .roadClosed | .barriersRaising =>
    let s1 := setRoadPriority s
    (settle (if s.seq.opening.isSome then setClosingCall .roadPriority s1 else s1), accept [])
  | .warning | .entryClosing | .deckClearing =>
    if closureFixed s then (s, refuse .notReady)
    else (settle (giveUpClosure .roadPriority (setRoadPriority s)), accept [])
  | .raised => (settle (setClosingCall .roadPriority (setRoadPriority s)), accept [])
  | .exitClosing =>
    if closureFixed s then (s, refuse .notReady) else (s, refuse .tooLate)
  | .windWait | .unlocking | .lifting | .lowering | .locking => (s, refuse .tooLate)
  | _ => (s, refuse .notReady)

/-- ROAD_PRIORITY (R53, R92). -/
def execRoadPriority (port : Port) (payload : List Byte) (s : State) : Out :=
  .next (request port ⟨22, false, true, .serviceOnly, 0⟩ payload ownRoadPriority s)

/-- ROAD_PRIORITY_END's owner (R53). -/
def ownRoadPriorityEnd (s : State) : State × Answer :=
  if s.planner.roadPriority then (settle (endRoadPriority s), accept [])
  else (mapPlanner (fun p => { p with roadPriorityTimer := .stopped }) s, accept [])

/-- ROAD_PRIORITY_END (R53). -/
def execRoadPriorityEnd (port : Port) (payload : List Byte) (s : State) : Out :=
  .next (request port ⟨23, false, true, .serviceOnly, 0⟩ payload ownRoadPriorityEnd s)

/-- CLOSE_NAVIGATION's owner (R54). -/
def ownCloseNavigation (s : State) : State × Answer :=
  (mapPlanner (fun p => { p with navigationClosed := true }) s, accept [])

/-- CLOSE_NAVIGATION (R54). -/
def execCloseNavigation (port : Port) (payload : List Byte) (s : State) : Out :=
  .next (request port ⟨24, false, true, .both, 0⟩ payload ownCloseNavigation s)

/-- OPEN_NAVIGATION's owner (R54, R57). -/
def ownOpenNavigation (s : State) : State × Answer :=
  let s1 := mapPlanner (fun p => { p with navigationClosed := false }) s
  (settle (if s.seq.opening.isSome then s1 else evaluateStart s1), accept [])

/-- OPEN_NAVIGATION (R54). -/
def execOpenNavigation (port : Port) (payload : List Byte) (s : State) : Out :=
  .next (request port ⟨25, false, true, .both, 0⟩ payload ownOpenNavigation s)

/-- The early descent ABANDON asks for in UNLOCKING and LIFTING (R93). -/
def askDescent (s : State) : State := mapOpening (fun o => { o with abandoned := true }) (setClosingCall .abandon s)

/-- ABANDON's owner (R93). -/
def ownAbandon (s : State) : State × Answer :=
  match s.seq.state with
  | .warning | .entryClosing | .deckClearing =>
    if closureFixed s then (s, refuse .notReady) else (settle (giveUpClosure .abandon s), accept [])
  | .windWait => (settle (abandonWind .abandon s), accept [])
  | .unlocking => (settle (askDescent s), accept [])
  | .lifting => (settle (mapDrive (fun d => { d with stopAsked := true }) (askDescent s)), accept [])
  | .raised => (settle (setClosingCall .abandon s), accept [])
  | .exitClosing =>
    if closureFixed s then (s, refuse .notReady) else (s, refuse .tooLate)
  | .lowering | .locking | .barriersRaising => (s, refuse .tooLate)
  | _ => (s, refuse .notReady)

/-- ABANDON (R93). -/
def execAbandon (port : Port) (payload : List Byte) (s : State) : Out :=
  .next (request port ⟨21, false, true, .serviceOnly, 0⟩ payload ownAbandon s)

/-! ## OPENING_STATUS -/

/-- The minutes a running timer of the planner still has to count. -/
def putMinutes (t : Timer) : List Byte := putOpt 1 put1 t.remaining

/-- One slot on the line (R225). -/
def putSlot (x : Slot) : List Byte :=
  put1 (x.entry.getD 255) ++ putTag x.tagIndex x.tagGeneration ++ put1 x.direction.ctorIdx ++ put1 x.cls ++
    putInt2 x.airDraft ++ put2 (x.lift / 100).toNat ++ put1 x.state.ctorIdx ++
    putOpt 1 (fun (o : PassageOutcome) => put1 o.ctorIdx) x.outcome

/-- The record fields of OPENING_STATUS as one shape: an opening record or a summary (R225). -/
def putOpening (content : Nat) (x : Summary) (closing finished : Bool) : List Byte :=
  put1 content ++ put2 x.number.toNat ++ put1 x.cause.ctorIdx ++ putBool x.operatorLift ++ put2 x.startMinute ++
    putOpt 2 putInt2 x.levelUsed ++ putOpt 2 putInt2 x.target ++ putBool closing ++
    putOpt 1 (fun (c : ClosingCause) => put1 c.ctorIdx) x.closingCause ++ put1 x.taken.toNat ++
    put1 x.withdrawn.toNat ++ put1 x.returned.toNat ++ put1 x.lost.toNat ++
    putOpt 2 put2 (if finished then some x.endMinute else none) ++
    putOpt 1 (fun (q : SeqState) => put1 q.ctorIdx) (if finished then some x.endState else none) ++ put1 x.passed ++
    put1 x.noShow ++ put1 x.turnedOut

/-- The opening record seen as a summary: its counts so far. -/
def recordSummary (o : Opening) : Summary :=
  { number := o.number, cause := o.cause, operatorLift := o.operatorLift, startMinute := o.startMinute,
    levelUsed := o.levelUsed, target := o.target, closingCause := o.closingCause, taken := o.taken,
    withdrawn := o.withdrawn, returned := o.returned, lost := o.lost, endMinute := 0, endState := .inactive,
    passed := countDone .passed o.slots, noShow := countDone .noShow o.slots,
    turnedOut := countDone .turnedOut o.slots }

/-- Offsets 4 to 31 of OPENING_STATUS: the record, else the summary, else zeros (R225). -/
def putContent (s : State) : List Byte :=
  match s.seq.opening, s.seq.summary with
  | some o, _ => putOpening 1 (recordSummary o) o.closingCause.isSome false
  | none, some x => putOpening 2 x false true
  | none, none => List.replicate 28 0

/-- OPENING_STATUS's owner (R71, R102, R225). -/
def ownOpeningStatus (s : State) : State × Answer :=
  let p := s.planner
  (s, accept (put1 s.mode.ctorIdx ++ put1 s.seq.state.ctorIdx ++
    putOpt 1 (fun (q : SeqState) => put1 q.ctorIdx) s.seq.heldPhase ++ putContent s ++ putBool p.holdOffElapsed ++
    putMinutes p.holdOff ++ putBool p.roadPriority ++ putMinutes p.roadPriorityTimer ++ putBool p.navigationClosed ++
    putBool p.queueCritical ++ putMinutes p.maxRaised ++ put1 (slots s).length ++ (slots s).flatMap putSlot))

/-- OPENING_STATUS (R225). -/
def execOpeningStatus (port : Port) (payload : List Byte) (s : State) : Out :=
  .next (request port ⟨18, true, true, .both, 0⟩ payload ownOpeningStatus s)

end Sys2Proof.Machine
end

