-- ==== Sys2Proof/Machine/SequenceRequests.lean ====
section
/-!
DEFINITION. The operating requests of the sequence controller (chapter 4) and the wind-wait timer.
-/

namespace Sys2Proof.Machine

/-- WIND_WAIT_TIMER_EXPIRY (R83): the opening is abandoned in wind. -/
def execWindWaitTimerExpiry (s : State) : Out :=
  .next (expire s.seq.windWait (fun s =>
    settle (abandonWind .wind (raiseControl .windAbandon (mapSeq (fun q => { q with windWait := .stopped }) s)))) s)

/-- An operator closure starts (R90, R106). -/
def closeRoad (origin : ClosureOrigin) (s : State) : State :=
  giveWarnings (setSeq .warning
    (mapSeq (fun q => { q with roadClosedByOperator := true, closureOrigin := some origin }) s))

/-- CLOSE_ROAD's owner (R90). -/
def ownCloseRoad (s : State) : State × Answer :=
  match s.seq.state with
  | .roadOpen => (settle (closeRoad .roadOpen s), accept [])
  | .positionLost => (settle (closeRoad .positionLost s), accept [])
  | _ => (s, refuse .notReady)

/-- CLOSE_ROAD (R90). -/
def execCloseRoad (port : Port) (payload : List Byte) (s : State) : Out :=
  .next (request port ⟨26, false, true, .serviceOnly, 0⟩ payload ownCloseRoad s)

/-- REOPEN_ROAD's owner (R91). -/
def ownReopenRoad (s : State) : State × Answer :=
  if s.seq.state == .roadClosed then
    (settle (enterBarriersRaising (mapSeq (fun q => { q with roadClosedByOperator := false }) s)), accept [])
  else (s, refuse .notReady)

/-- REOPEN_ROAD (R91). -/
def execReopenRoad (port : Port) (payload : List Byte) (s : State) : Out :=
  .next (request port ⟨27, false, true, .serviceOnly, 0⟩ payload ownReopenRoad s)

/-- STOP's owner (R97): in HALTED it changes nothing. -/
def ownStop (s : State) : State × Answer := (settle (demandHalt s), accept [])

/-- STOP (R97). -/
def execStop (port : Port) (payload : List Byte) (s : State) : Out :=
  .next (request port ⟨28, false, true, .serviceOnly, 0⟩ payload ownStop s)

/-- The condition of a cause of kind condition holds (R94); a cause of kind event has none. -/
def conditionHolds (s : State) : FaultCause → Bool
  | .skew => s.drive.valid && decide (s.params.skewLimit ≤ |skew s|)
  | .overtravel => RawInputs.upperLimit (filtered s) .w || RawInputs.upperLimit (filtered s) .e
  | .level => !RawInputs.level (filtered s)
  | .positionRange => outOfRange s
  | .lockSwitchConflict =>
    allTowers.any (fun b => RawInputs.driven (filtered s) b && RawInputs.withdrawn (filtered s) b)
  | .armLost => !spanSecure s && !allArmsDown s
  | _ => false

/-- The causes of kind event (R94). -/
def FaultCause.isEvent : FaultCause → Bool
  | .stall | .encoder | .seatMissing | .lockTimeout => true
  | _ => false

/-- Whether a cause of the set is present (R96). -/
def causePresent (s : State) (c : FaultCause) : Bool :=
  s.seq.causes &&& c.bit != 0 && (c.isEvent || conditionHolds s c)

/-- The fault causes in order. -/
def allCauses : List FaultCause :=
  [.skew, .overtravel, .level, .positionRange, .lockSwitchConflict, .armLost, .stall, .encoder, .seatMissing,
    .lockTimeout]

/-- The causes that are listed as present: those of the set whose condition holds, and every event cause of the set
(R96, log 13). -/
def presentCauses (s : State) : BitVec 10 :=
  allCauses.foldl (fun x c => if causePresent s c then x ||| c.bit else x) 0

/-- RESUME in FAULT_HOLD is accepted when no condition cause of the set is present and, with the positions valid,
|skew| ≤ Bt; an event cause does not bar it, since the acceptance itself ends it (R94, R96, log 13). -/
def mayResume (s : State) : Bool :=
  allCauses.all (fun c => c.isEvent || !causePresent s c) &&
    (!s.drive.valid || decide (|skew s| ≤ s.params.trimBand))

/-- The held phase is left for its re-entry, or stays where there is none. -/
def resumePhase (s : State) : State :=
  match s.seq.heldPhase with
  | some p => reenter p (endJog s)
  | none => s

/-- RESUME's owner (R96, R98, R99). -/
def ownResume (s : State) : State × Answer :=
  match s.seq.state with
  | .faultHold =>
    if mayResume s then (settle (resumePhase (mapSeq (fun q => { q with causes := 0 }) s)), accept [])
    else (s, { status := .notReady, payload := put2 (presentCauses s).toNat ++ putInt4 (skew s) })
  | .halted =>
    if RawInputs.emergencyStop (filtered s) then (s, refuse .notReady)
    else if s.seq.causes != 0 then (settle (raiseControl .faultHold (setSeq .faultHold s)), accept [])
    else (settle (resumePhase s), accept [])
  | _ => (s, refuse .notReady)

/-- RESUME (R96, R98). -/
def execResume (port : Port) (payload : List Byte) (s : State) : Out :=
  .next (request port ⟨29, false, true, .serviceOnly, 0⟩ payload ownResume s)

/-- Seat recovery starts: any jog ends, bolts not WITHDRAWN are withdrawn (R101, R168). -/
def startRecovery (s : State) : State := withdrawBolts (setSeq .recovering (endJog s))

/-- RECOVER_SEAT's owner (R100). -/
def ownRecoverSeat (s : State) : State × Answer :=
  if s.seq.state == .positionLost && allArmsDown s && channelClear s then (settle (startRecovery s), accept [])
  else (s, refuse .notReady)

/-- RECOVER_SEAT (R100). -/
def execRecoverSeat (port : Port) (payload : List Byte) (s : State) : Out :=
  .next (request port ⟨30, false, true, .serviceOnly, 0⟩ payload ownRecoverSeat s)

/-- SEQUENCE_STATUS's owner (R102, R216). DESIGN CHOICE (log 21): the causes are sent as two sets of two bytes, the
causes held and then those of them present. -/
def ownSequenceStatus (s : State) : State × Answer :=
  let x := filtered s
  let remaining := if s.seq.windWait.isRunning then s.seq.windWait.remaining else none
  (s, accept (put1 s.mode.ctorIdx ++ put1 s.seq.state.ctorIdx ++
    putOpt 1 (fun (q : SeqState) => put1 q.ctorIdx) s.seq.heldPhase ++ put2 s.seq.causes.toNat ++
    put2 (presentCauses s).toNat ++ putBool s.seq.roadClosedByOperator ++ putBool (RawInputs.wind x) ++
    putBool (RawInputs.emergencyStop x) ++ putOpt 2 (fun (n : Nat) => put2 (n / 1000)) remaining ++
    putBool (channelConditions s) ++ putBool s.drive.valid))

/-- SEQUENCE_STATUS (R102). -/
def execSequenceStatus (port : Port) (payload : List Byte) (s : State) : Out :=
  .next (request port ⟨31, false, true, .both, 0⟩ payload ownSequenceStatus s)

end Sys2Proof.Machine
end

