-- ==== Sys2Proof/Machine/RoadRequests.lean ====
section
/-!
DEFINITION. The road guard's requests and timers (chapters 5 and 6).
-/

namespace Sys2Proof.Machine

/-! ## Timers of the warnings -/

/-- AMBER_TIMER_EXPIRY (R107). -/
def execAmberTimerExpiry (a : Approach) (s : State) : Out :=
  .next (expire (s.guard.approaches.get a).amberTimer (fun s => settle (enterRed a s)) s)

/-- The other flasher half. -/
def Half.other : Half → Half
  | .a => .b
  | .b => .a

/-- A flasher half ends: the other starts and the lamps follow (R108). -/
def nextHalf (a : Approach) (s : State) : State :=
  let r := s.guard.approaches.get a
  applyPhase a (setApproach a { r with half := r.half.other, flasher := .start Config.flasherHalfMs } s)

/-- FLASHER_HALF (R108). -/
def execFlasherHalf (a : Approach) (s : State) : Out :=
  .next (expire (s.guard.approaches.get a).flasher (nextHalf a) s)

/-- An accrued flag is set; LAMP_FAILURE on a change from clear to set (R112). -/
def accrue (h : Head) (read : HeadRecord → Bool) (write : HeadRecord → HeadRecord) (s : State) : State :=
  let r := s.guard.heads.get h
  if read r then s else raiseControl .lampFailure (setHead h (write r) s)

/-- The accrued flag of a lamp turned FAILED (R112). -/
def accrueFailure (h : Head) (l : Lamp) (s : State) : State :=
  let r := s.guard.heads.get h
  let other : Bool := match l with
    | .ra => r.lamps.rb.state == .failed
    | _ => r.lamps.ra.state == .failed
  match l with
  | .amber => accrue h (·.amberFail) (fun r => { r with amberFail := true }) s
  | _ =>
    if other then accrue h (·.redDark) (fun r => { r with redDark := true }) s
    else accrue h (·.redOneFail) (fun r => { r with redOneFail := true }) s

/-- A proving falls due (R109). -/
def proveLamp (h : Head) (l : Lamp) (s : State) : State :=
  let x := (s.guard.heads.get h).lamps.get l
  let good := RawInputs.current (filtered s) h l
  let st : LampState := if x.state == .failed || !good then .failed else .proven
  let s1 := setLamp h l { x with state := st, proving := .stopped } s
  let s2 := if st == .failed && x.state != .failed then accrueFailure h l s1 else s1
  match l with
  | .amber => s2
  | _ => evaluateApproach h.approach s2

/-- LAMP_PROVING (R109). -/
def execLampProving (h : Head) (l : Lamp) (s : State) : Out :=
  .next (expire ((s.guard.heads.get h).lamps.get l).proving (proveLamp h l) s)

/-- An off-check (R110). -/
def checkOff (h : Head) (l : Lamp) (s : State) : State :=
  let x := (s.guard.heads.get h).lamps.get l
  let s1 := setLamp h l { x with offCheck := .start Config.offCheckNextMs } s
  if RawInputs.current (filtered s) h l then
    accrue h (·.currentWhenOff) (fun r => { r with currentWhenOff := true }) s1
  else s1

/-- OFF_CHECK (R110). -/
def execOffCheck (h : Head) (l : Lamp) (s : State) : Out :=
  .next (expire ((s.guard.heads.get h).lamps.get l).offCheck (checkOff h l) s)

/-- The warning count of an approach as a timer. -/
def countTimer (a : Approach) (s : State) : Timer :=
  match (s.guard.approaches.get a).count with
  | some c => c.timer
  | none => .stopped

/-- A warning count is complete; in WARNING and ENTRY_CLOSING the approach may close (R115, R116). -/
def completeCount (a : Approach) (s : State) : State :=
  let r := s.guard.approaches.get a
  let s1 := setApproach a { r with count := r.count.map (fun c => { c with status := .complete }) } s
  if s.seq.state == .warning || s.seq.state == .entryClosing then mayClose a s1 else s1

/-- WARNING_COUNT_COMPLETE (R116). -/
def execWarningCountComplete (a : Approach) (s : State) : Out :=
  .next (expire (countTimer a s) (fun s => settle (completeCount a s)) s)

/-! ## Requests of the warnings -/

/-- Whether an approach's count is held (R117). -/
def countHeld (a : Approach) (s : State) : Bool :=
  match (s.guard.approaches.get a).count with
  | some c => c.status == .held
  | none => false

/-- CONFIRM_UNWARNED's owner (R117). -/
def ownConfirmUnwarned (p : List Byte) (s : State) : State × Answer :=
  match named allApproaches (byteAt p 0) with
  | none => (s, refuse .outOfRange)
  | some a =>
    if countHeld a s && (s.seq.state == .warning || s.seq.state == .entryClosing) then
      (settle (completeCount a s), accept [])
    else (s, refuse .notReady)

/-- CONFIRM_UNWARNED (R117). -/
def execConfirmUnwarned (port : Port) (payload : List Byte) (s : State) : Out :=
  .next (request port ⟨32, false, true, .serviceOnly, 1⟩ payload (ownConfirmUnwarned payload) s)

/-- CLEAR_LAMP at one lamp (R111). -/
def clearLamp (h : Head) (s : State) (l : Lamp) : State :=
  let x := (s.guard.heads.get h).lamps.get l
  setLamp h l { x with
    state := .unproven, proving := if x.output then .start Config.provingMs else x.proving } s

/-- The lamps a code names: amber, RA, RB, or all three (R111). -/
def lampsOf : Nat → Option (List Lamp)
  | 3 => some allLamps
  | n => (named allLamps n).map (fun l => [l])

/-- CLEAR_LAMP's owner (R111). DESIGN CHOICE (log 41): the ranges are tested before the head's service. -/
def ownClearLamp (p : List Byte) (s : State) : State × Answer :=
  match named allHeads (byteAt p 0), lampsOf (byteAt p 1) with
  | some h, some l =>
    if !(s.guard.heads.get h).inService then (s, refuse .notReady)
    else (evaluateApproach h.approach (l.foldl (clearLamp h) s), accept [])
  | _, _ => (s, refuse .outOfRange)

/-- CLEAR_LAMP (R111). -/
def execClearLamp (port : Port) (payload : List Byte) (s : State) : Out :=
  .next (request port ⟨33, false, true, .both, 2⟩ payload (ownClearLamp payload) s)

/-- A head is taken out of service (R118). -/
def removeHead (h : Head) (s : State) : State :=
  let r := s.guard.heads.get h
  let out : LampRecord := { state := .outOfService, output := false, proving := .stopped, offCheck := .stopped }
  evaluateApproach h.approach (setHead h { r with inService := false, lamps := ⟨out, out, out⟩ } s)

/-- A head is returned to service: its lamps take the approach's phase (R118). DEDUCED (log 8): the first
off-check of a lamp that stays dark falls due 250 ms after the return. -/
def returnHead (h : Head) (s : State) : State :=
  let r := s.guard.heads.get h
  let off : LampRecord :=
    { state := .unproven, output := false, proving := .stopped, offCheck := .start Config.offCheckFirstMs }
  evaluateApproach h.approach (applyHead (setHead h { r with inService := true, lamps := ⟨off, off, off⟩ } s) h)

/-- HEAD_SERVICE's owner (R118): head, 0 IN_SERVICE or 1 OUT_OF_SERVICE. -/
def ownHeadService (p : List Byte) (s : State) : State × Answer :=
  match named allHeads (byteAt p 0), yesNo (byteAt p 1) with
  | some h, some out =>
    if (s.guard.heads.get h).inService != out then (s, accept [])
    else (if out then removeHead h s else returnHead h s, accept [])
  | _, _ => (s, refuse .outOfRange)

/-- HEAD_SERVICE (R118). -/
def execHeadService (port : Port) (payload : List Byte) (s : State) : Out :=
  .next (request port ⟨34, false, true, .both, 2⟩ payload (ownHeadService payload) s)

/-- The named accrued flags of a head are cleared, bit k for the flag in place k of R112 (R113). -/
def clearFlags (flags : Nat) (r : HeadRecord) : HeadRecord :=
  { r with
    amberFail := r.amberFail && !flags.testBit 0, redOneFail := r.redOneFail && !flags.testBit 1,
    redDark := r.redDark && !flags.testBit 2, currentWhenOff := r.currentWhenOff && !flags.testBit 3 }

/-- The named accrued flags of one head are cleared. -/
def clearHeadFlags (flags : Nat) (s : State) (h : Head) : State := setHead h (clearFlags flags (s.guard.heads.get h)) s

/-- The OCCUPIED_LONG flag of one detector is cleared where the set names it; a set flag cleared while its detector is
occupied in a RUNNING measurement waits for a new occupancy (R140). -/
def clearDetectorFlag (flags : Nat) (s : State) (d : Detector) : State :=
  let r := s.guard.detectors.get d
  let here := s.guard.deck.measurement == some .running && RawInputs.occupied (filtered s) d
  setDetector d { r with
    occupiedLong := r.occupiedLong && !flags.testBit 0,
    spent := r.spent || (r.occupiedLong && flags.testBit 0 && here) } s

/-- One of a list by its position, or at the position after the last all of it. -/
def oneOrAll {α : Type} (l : List α) (code : Nat) : Option (List α) :=
  if code = l.length then some l else (named l code).map (fun x => [x])

/-- CLEAR_ROAD_STATUS's owner (R113, R140): heads, head flags, detectors, detector flags. -/
def ownClearRoadStatus (p : List Byte) (s : State) : State × Answer :=
  match oneOrAll allHeads (byteAt p 0), oneOrAll allDetectors (byteAt p 2) with
  | some hs, some ds =>
    if 16 ≤ byteAt p 1 || 2 ≤ byteAt p 3 then (s, refuse .outOfRange)
    else (ds.foldl (clearDetectorFlag (byteAt p 3)) (hs.foldl (clearHeadFlags (byteAt p 1)) s), accept [])
  | _, _ => (s, refuse .outOfRange)

/-- CLEAR_ROAD_STATUS (R113, R140). -/
def execClearRoadStatus (port : Port) (payload : List Byte) (s : State) : Out :=
  .next (request port ⟨35, false, true, .both, 4⟩ payload (ownClearRoadStatus payload) s)

/-! ## Arms -/

/-- ARM_TRAVEL_TIMEOUT (R127). -/
def execArmTravelTimeout (a : Arm) (s : State) : Out :=
  .next (expire (s.guard.arms.get a).travel (fun s => settle (armFault a .timeout s)) s)

/-- A retry wait expires: the arm lowers again under its approach's permit, or stays UP (R131). -/
def retryLowering (a : Arm) (s : State) : State :=
  let r := s.guard.arms.get a
  if mayLower a s then setArm a (travelArm .lowering s.params r) s else setArm a { r with retryWait := .stopped } s

/-- RETRY_WAIT_EXPIRY (R131). -/
def execRetryWaitExpiry (a : Arm) (s : State) : Out :=
  .next (expire (s.guard.arms.get a).retryWait (fun s => settle (retryLowering a s)) s)

/-- The refusals of ARM_RETRY (R133). -/
def retryRefused (a : Arm) (s : State) : Bool :=
  let r := s.guard.arms.get a
  let ap := s.guard.approaches.get a.approach
  r.state != .fault || bothEnds (filtered s) a || s.seq.state == .halted ||
    (match r.commandedEnd with
      | .up => !spanSecure s
      | .down =>
        !ap.command || (a.isEntry && !ap.permit) ||
          (!a.isEntry && !armAt a.approach.entryArm .down s))

/-- An accepted ARM_RETRY (R133). -/
def retryArm (a : Arm) (s : State) : State :=
  let r := { s.guard.arms.get a with obstructions := 0 }
  let x := filtered s
  match r.commandedEnd with
  | .up => setArm a (if restUp x a then restArm .up r else travelArm .raising s.params r) s
  | .down => setArm a (if restDown x a then restArm .down r else travelArm .lowering s.params r) s

/-- ARM_RETRY's owner (R133). -/
def ownArmRetry (p : List Byte) (s : State) : State × Answer :=
  match named allArms (byteAt p 0) with
  | none => (s, refuse .outOfRange)
  | some a => if retryRefused a s then (s, refuse .notReady) else (settle (retryArm a s), accept [])

/-- ARM_RETRY (R133). -/
def execArmRetry (port : Port) (payload : List Byte) (s : State) : Out :=
  .next (request port ⟨36, false, true, .serviceOnly, 1⟩ payload (ownArmRetry payload) s)

/-- The states in which an arm may be taken out while UP, and returned (R134). -/
def armServiceState (s : State) : Bool := s.seq.state == .roadOpen || s.seq.state == .inactive

/-- An arm is taken out of service (R134). -/
def removeArm (a : Arm) (s : State) : State := setArm a (restArm .outOfService (s.guard.arms.get a)) s

/-- An arm is returned to service (R134). -/
def returnArm (a : Arm) (s : State) : State :=
  let r := { s.guard.arms.get a with obstructions := 0 }
  if restUp (filtered s) a then setArm a { restArm .up r with commandedEnd := .up } s
  else armFault a .position (setArm a { r with commandedEnd := .down } s)

/-- ARM_SERVICE's owner (R134): arm, 0 IN_SERVICE or 1 OUT_OF_SERVICE. -/
def ownArmService (p : List Byte) (s : State) : State × Answer :=
  match named allArms (byteAt p 0), yesNo (byteAt p 1) with
  | some a, some out =>
    let st := (s.guard.arms.get a).state
    if (st == .outOfService) == out then (s, accept [])
    else if out then
      if st == .fault || (st == .up && armServiceState s) then (settle (removeArm a s), accept [])
      else (s, refuse .notReady)
    else if armServiceState s then (settle (returnArm a s), accept [])
    else (s, refuse .notReady)
  | _, _ => (s, refuse .outOfRange)

/-- ARM_SERVICE (R134). -/
def execArmService (port : Port) (payload : List Byte) (s : State) : Out :=
  .next (request port ⟨37, false, true, .both, 2⟩ payload (ownArmService payload) s)

/-! ## Deck -/

/-- The clear timer reaches T_deck (R136, R139). -/
def deckIsClear (s : State) : State :=
  let s1 := stopOccupancies (setDeck { s.guard.deck with
    measurement := some .complete, clear := .stopped, wait := .stopped } s)
  if s.seq.state == .deckClearing then enterExitClosing s1 else s1

/-- DECK_CLEAR (R136). -/
def execDeckClear (s : State) : Out := .next (expire s.guard.deck.clear (fun s => settle (deckIsClear s)) s)

/-- The deck-wait timer reaches its limit (R137). -/
def deckWaitOver (s : State) : State :=
  let d := s.guard.deck
  let s1 := setDeck { d with wait := .stopped, notClear := true } s
  if d.notClear then s1 else raiseControl .deckNotClear s1

/-- DECK_WAIT_EXPIRY (R137). -/
def execDeckWaitExpiry (s : State) : Out := .next (expire s.guard.deck.wait deckWaitOver s)

/-- The occupancy timer of a detector reaches its limit: OCCUPIED_LONG is set, once per occupancy, and the timer counts on
while its detector is occupied and the measurement RUNNING (R137, R140). -/
def occupiedTooLong (d : Detector) (s : State) : State :=
  let r := s.guard.detectors.get d
  setDetector d { r with
    occupiedLong := r.occupiedLong || !r.spent, occupancy := r.occupancy.overrun, spent := true } s

/-- OCCUPANCY_TIMER_EXPIRY (R137). -/
def execOccupancyTimerExpiry (d : Detector) (s : State) : Out :=
  .next (expire (s.guard.detectors.get d).occupancy (occupiedTooLong d) s)

/-- A detector is taken out of service (R138). DESIGN CHOICE (log 48): while HALTED has stopped the deck's timers, the
clear timer does not start. -/
def removeDetector (d : Detector) (s : State) : State :=
  let s1 := setDetector d { s.guard.detectors.get d with inService := false, occupancy := .stopped } s
  if measuring s1 then followClear s1 else s1

/-- A detector is returned to service (R138). DESIGN CHOICE (log 48): while HALTED has stopped the deck's timers, the
clear timer keeps its time and no occupancy timer starts. -/
def returnDetector (d : Detector) (s : State) : State :=
  let s1 := setDetector d { s.guard.detectors.get d with inService := true } s
  if measuring s1 then followClear (startOccupancy s1 d) else s1

/-- DETECTOR_SERVICE's owner (R138): detector, 0 IN_SERVICE or 1 OUT_OF_SERVICE. -/
def ownDetectorService (p : List Byte) (s : State) : State × Answer :=
  match named allDetectors (byteAt p 0), yesNo (byteAt p 1) with
  | some d, some out =>
    if (s.guard.detectors.get d).inService != out then (s, accept [])
    else (if out then removeDetector d s else returnDetector d s, accept [])
  | _, _ => (s, refuse .outOfRange)

/-- DETECTOR_SERVICE (R138). -/
def execDetectorService (port : Port) (payload : List Byte) (s : State) : Out :=
  .next (request port ⟨38, false, true, .both, 2⟩ payload (ownDetectorService payload) s)

/-! ## ROAD_STATUS -/

/-- A time on the line in tenths of a second, two bytes. -/
def putTenths (ms : Nat) : List Byte := put2 (ms / 100)

/-- The code of a warning count's condition: running, complete, held (R119); a count stopped at HALTED reads as
running, with its time kept. -/
def countCode : CountStatus → Nat
  | .running => 0
  | .complete => 1
  | .held => 2
  | .paused => 0

/-- A warning count on the line: the named condition, then its figures as optional fields; a held count has no time
(R119, R214, log 21). -/
def putCount (c : WarningCount) : List Byte :=
  put1 (countCode c.status) ++ putOpt 2 putTenths (if c.status == .held then none else some c.counted) ++
    putOpt 1 putBool (some c.doubled)

/-- An approach's warning items (R119). -/
def putApproach (s : State) (a : Approach) : List Byte :=
  let r := s.guard.approaches.get a
  put1 r.phase.ctorIdx ++ putBool r.command ++ putBool (demandedRed a s) ++ put1 r.warning.ctorIdx ++
    putOpt 6 putCount r.count

/-- A head's items (R119). -/
def putHead (r : HeadRecord) : List Byte :=
  put1 (if r.inService then 0 else 1) ++
    put1 (r.amberFail.toNat + 2 * r.redOneFail.toNat + 4 * r.redDark.toNat + 8 * r.currentWhenOff.toNat)

/-- An arm's items (R140). DESIGN CHOICE (log 47): the codes of the reversal, the stopped direction and the fault reason
leave out the word "absent" that begins their lists in R120. -/
def putArm (s : State) (a : Arm) : List Byte :=
  let r := s.guard.arms.get a
  let x := filtered s
  put1 r.state.ctorIdx ++ put1 (if r.state == .outOfService then 1 else 0) ++ put1 r.commandedEnd.ctorIdx ++
    put1 r.obstructions ++ putOpt 1 (fun (v : Reversal) => put1 v.ctorIdx) r.reversal ++
    putOpt 2 putTenths r.retryWait.remaining ++ putOpt 1 (fun (v : Travel) => put1 v.ctorIdx) r.stoppedDirection ++
    putOpt 1 (fun (v : ArmFaultReason) => put1 v.ctorIdx) r.faultReason ++ putBool (RawInputs.armUp x a) ++
    putBool (RawInputs.armDown x a) ++ putBool (RawInputs.obstruction x a)

/-- The time that an occupancy has been counted, in tenths of a second in two bytes; a longer time is a free value (R140,
log 22). -/
def putOccupancy (free : Nat) (d : Detector) (ms : Nat) : List Byte :=
  if ms < 6553600 then putTenths ms else put2 (Config.longOccupancy free d.ctorIdx).toNat

/-- Some occupancy timer has counted more than its two bytes on the line hold (log 22). -/
def longOccupied (s : State) : Bool :=
  allDetectors.any (fun d => (s.guard.detectors.get d).occupancy.running?.any (fun ms => decide (6553600 ≤ ms)))

/-- A detector's items (R140). -/
def putDetector (s : State) (d : Detector) : List Byte :=
  let r := s.guard.detectors.get d
  put1 (if r.inService then 0 else 1) ++ putBool (RawInputs.occupied (filtered s) d) ++ putBool r.occupiedLong ++
    putOpt 2 (putOccupancy s.freeCount d) r.occupancy.running?

/-- The deck's items (R140). DESIGN CHOICE (log 21): the time counted of a stopped clear or deck-wait timer is sent as 0,
with no presence byte. DESIGN CHOICE (log 47): the code of the measurement leaves out the word "absent" that begins its
list in R135. -/
def putDeck (d : Deck) : List Byte :=
  putOpt 1 (fun (m : Measurement) => put1 m.ctorIdx) d.measurement ++ putTenths d.clear.counted ++
    putTenths d.wait.counted ++ putBool d.notClear

/-- ROAD_STATUS's owner (R119, R140): it changes nothing but, where it sends a free value, the count of free choices. -/
def ownRoadStatus (s : State) : State × Answer :=
  let g := s.guard
  (if longOccupied s then { s with freeCount := s.freeCount + 1 } else s,
   accept (allApproaches.flatMap (putApproach s) ++ allHeads.flatMap (fun h => putHead (g.heads.get h)) ++
    allHeads.flatMap (fun h => allLamps.flatMap (fun l => put1 ((g.heads.get h).lamps.get l).state.ctorIdx)) ++
    allArms.flatMap (putArm s) ++ allApproaches.flatMap (fun a => putBool (g.approaches.get a).permit) ++
    allDetectors.flatMap (putDetector s) ++ putDeck g.deck))

/-- ROAD_STATUS (R119, R140). -/
def execRoadStatus (port : Port) (payload : List Byte) (s : State) : Out :=
  .next (request port ⟨39, false, true, .both, 0⟩ payload ownRoadStatus s)

end Sys2Proof.Machine
end

