-- ==== Sys2Proof/Machine/DriveRequests.lean ====
section
/-!
DEFINITION. JOG and DRIVE_STATUS (chapter 7).
-/

namespace Sys2Proof.Machine

/-- A jog of a tower and direction is in progress. -/
def sameJog (t : Tower) (dir : Vertical) (s : State) : Bool :=
  match s.drive.jog with
  | some j => j.tower == t && j.direction == dir
  | none => false

/-- A renewed jog: its keep-alive starts again (R167). -/
def renewJog (s : State) : State :=
  mapDrive (fun d => { d with jog := d.jog.map (fun j => { j with keepAlive := .start Config.keepAliveMs }) }) s

/-- The directions in order. -/
def allVerticals : List Vertical := [.up, .down]

/-- JOG's owner (R166 to R168): tower, direction. -/
def ownJog (p : List Byte) (s : State) : State × Answer :=
  match named allTowers (byteAt p 0), named allVerticals (byteAt p 1) with
  | some t, some dir =>
    if jogState s && jogAllowed t dir s && (s.drive.jog.isNone || sameJog t dir s) then
      (settle (if s.drive.jog.isSome then renewJog s else startJog t dir s),
        accept (putInt2 (s.drive.towers.get t).position ++ putInt4 (skew s) ++ putBool s.drive.valid))
    else (settle (if sameJog t dir s then endMotion s else s), refuse .notReady)
  | _, _ => (s, refuse .outOfRange)

/-- JOG (R166). -/
def execJog (port : Port) (payload : List Byte) (s : State) : Out :=
  .next (request port ⟨40, false, true, .serviceOnly, 2⟩ payload (ownJog payload) s)

/-- A tower's items (R169). -/
def putTower (s : State) (t : Tower) : List Byte :=
  let r := s.drive.towers.get t
  putInt4 r.count ++ putInt2 r.position ++ putBool r.outOfRange ++ putInt4 (s.params.scaleWhole.get t) ++
    putInt4 (s.params.scaleSixteenths.get t) ++ putBool r.released ++ putInt2 r.reference ++
    putBool (RawInputs.seat (filtered s) t) ++ putBool (RawInputs.upperLimit (filtered s) t)

/-- The motion's items of a tower (R169). -/
def putTowerMotion (r : TowerRecord) : List Byte :=
  putBool r.stopped ++ putOpt 1 (fun (a : Int × Nat) => put1 a.2) r.anchor

/-- A time in milliseconds on the line, two bytes. -/
def putMs (ms : Nat) : List Byte := put2 ms

/-- The jog's items (R169). -/
def putJog (j : Jog) : List Byte :=
  put1 j.tower.ctorIdx ++ put1 j.direction.ctorIdx ++ putMs (j.keepAlive.remaining.getD 0)

/-- A bolt's items (R169). -/
def putBolt (s : State) (b : Tower) : List Byte :=
  let r := s.drive.bolts.get b
  put1 r.state.ctorIdx ++ putOpt 1 (fun (v : BoltFaultReason) => put1 v.ctorIdx) r.reason ++
    putBool (RawInputs.withdrawn (filtered s) b) ++ putBool (RawInputs.driven (filtered s) b) ++
    putOpt 2 putMs r.travel.remaining ++ putBool r.waiting

/-- DRIVE_STATUS's owner (R169). -/
def ownDriveStatus (s : State) : State × Answer :=
  let d := s.drive
  (s, accept (allTowers.flatMap (putTower s) ++ putInt2 (spanPosition s) ++ putInt4 (skew s) ++
    putInt2 (lowerPosition s) ++ putBool d.valid ++ putBool (RawInputs.level (filtered s)) ++ put1 d.motion.ctorIdx ++
    putOpt 1 (fun (v : MotionPhase) => put1 v.ctorIdx) d.phase ++
    putOpt 1 (fun (v : HoldReason) => put1 v.ctorIdx) d.holdReason ++ putOpt 2 putInt2 d.target ++
    putInt2 d.profile ++ allTowers.flatMap (fun t => putTowerMotion (d.towers.get t)) ++ putOpt 4 putJog d.jog ++
    allTowers.flatMap (putBolt s) ++
    putOpt 4 (fun (x : Int × Int) => putInt2 x.1 ++ putInt2 x.2) d.lastZeroing ++ putBool d.downVerdict ++
    putBool d.armVerdict))

/-- DRIVE_STATUS (R169). -/
def execDriveStatus (port : Port) (payload : List Byte) (s : State) : Out :=
  .next (request port ⟨41, false, true, .both, 0⟩ payload ownDriveStatus s)

end Sys2Proof.Machine
end

