-- ==== Sys2Proof/Machine/ChannelRequests.lean ====
section
/-!
DEFINITION. The channel unit's requests and timers (chapter 8).
-/

namespace Sys2Proof.Machine

/-- CHANNEL_CLEAR_TIMER_RUN (R177). -/
def execChannelClearTimerRun (s : State) : Out :=
  .next (expire s.channel.clearTimer (fun s =>
    settle (mapChannel (fun c => { c with clearTimer := .stopped, clearRun := true }) s)) s)

/-- The slot at a position of the record. -/
def slotAt (n : Nat) (s : State) : Option Slot := (slots s)[n]?

/-- The no-show timer of the slot at a position. -/
def noShowTimer (n : Nat) (s : State) : Timer :=
  match slotAt n s with
  | some x => x.noShow
  | none => .stopped

/-- A no-show timer expires (R188). -/
def noShow (n : Nat) (s : State) : State :=
  match slotAt n s with
  | none => s
  | some x =>
    if committed s x.direction then
      mapSlot x.serial (fun x => { x with overdue := true, noShow := .stopped }) s
    else concludeSlot .noShow x.serial s

/-- NO_SHOW_TIMER_EXPIRY (R188), for the slot at a position of the record. -/
def execNoShowTimerExpiry (n : Nat) (s : State) : Out :=
  .next (expire (noShowTimer n s) (fun s => settle (noShow n s)) s)

/-- ZONE_RESET is accepted (R178). -/
def zoneResetReady (s : State) : Bool :=
  beamsClear s && s.channel.recognizers.u.isNone && s.channel.recognizers.d.isNone

/-- One slot of the zone list is concluded PASSED by ZONE_RESET; the closing-call rule follows (R178). -/
def resetSlot (s : State) (serial : Nat) : State := concludeSlot .passed serial s

/-- ZONE_RESET's effect (R178): slots concluded in the order of the list, list and count emptied; the timer starts
unless it was already running with the count at 0. -/
def zoneReset (s : State) : State :=
  mapChannel (fun c => { c with zoneList := [], zoneCount := 0 }) (s.channel.zoneList.foldl resetSlot s)

/-- ZONE_RESET's owner (R178). -/
def ownZoneReset (s : State) : State × Answer :=
  if zoneResetReady s then
    (settle (zoneReset s), accept (put1 s.channel.zoneCount ++ put1 s.channel.zoneList.length))
  else (s, refuse .notReady)

/-- ZONE_RESET (R178). -/
def execZoneReset (port : Port) (payload : List Byte) (s : State) : Out :=
  .next (request port ⟨42, false, true, .both, 0⟩ payload ownZoneReset s)

/-- The positions in the record of slots that pass a test. -/
def slotPositions (p : Slot → Bool) (s : State) : List Nat :=
  (List.range (slots s).length).filter (fun n =>
    match slotAt n s with
    | some x => p x
    | none => false)

/-- The position in the record of a slot by its serial, counted from 0: DESIGN CHOICE (log 21). -/
def positionOf (serial : Nat) (s : State) : Nat := (slots s).findIdx (fun x => x.serial == serial)

/-- A list on the line: its length, then its items (log 21). -/
def putList (l : List Nat) : List Byte := put1 l.length ++ l.flatMap put1

/-- A recognizer: CLEAR 0, OCCUPIED 1 with the first broken beam (R193, R214). -/
def putRecognizer (r : Option FirstBroken) : List Byte :=
  put1 (if r.isSome then 1 else 0) ++ putOpt 1 (fun (v : FirstBroken) => put1 v.ctorIdx) r

/-- An edge's items (R193); a broken beam is sent as 1, a clear one as 0: DESIGN CHOICE (log 19). -/
def putEdge (s : State) (e : Edge) : List Byte :=
  putRecognizer (s.channel.recognizers.get e) ++ putBool (RawInputs.outer (filtered s) e) ++
    putBool (RawInputs.inner (filtered s) e)

/-- The channel-clear timer: stopped 0, running 1 with seconds counted, run 2 (R193, R214). -/
def putClearTimer (c : Channel) : List Byte :=
  if c.clearRun then put1 2 ++ putOpt 1 put1 none
  else if c.clearTimer.isRunning then put1 1 ++ putOpt 1 put1 (some (c.clearTimer.counted / 1000))
  else put1 0 ++ putOpt 1 put1 none

/-- The first condition of R180 that fails, by its place in the rule, absent while serving runs (R193, log 21). -/
def failingCondition (s : State) : Option Nat :=
  if s.channel.servingRuns then none
  else if !raisedAndOpen s then some 0
  else if !s.channel.standing then some 1
  else if !s.channel.levelRead then some 2
  else some 3

/-- A PROCEED_GIVEN slot's items: its no-show timer's seconds remaining, its overdue mark (R193), and before them its
position in the record, counted from 0: DESIGN CHOICE (log 21). -/
def putGiven (s : State) (n : Nat) : List Byte :=
  match slotAt n s with
  | some x => put1 n ++ putOpt 2 (fun (m : Nat) => put2 (m / 1000)) x.noShow.remaining ++ putBool x.overdue
  | none => []

/-- An optional direction. -/
def putDirection (d : Option Direction) : List Byte := putOpt 1 (fun (v : Direction) => put1 v.ctorIdx) d

/-- CHANNEL_STATUS's owner (R193). -/
def ownChannelStatus (s : State) : State × Answer :=
  let c := s.channel
  let given := slotPositions (fun x => x.state == .proceedGiven) s
  (s, accept (put1 c.masts.upstream.ctorIdx ++ put1 c.masts.downstream.ctorIdx ++ putEdge s .u ++ putEdge s .d ++
    put1 c.zoneCount ++ putList (c.zoneList.map (fun n => positionOf n s)) ++ putClearTimer c ++
    putBool s.drive.downVerdict ++ putBool (channelConditions s) ++ putDirection c.serving ++
    putDirection c.servedLast ++ putBool c.servingRuns ++ putOpt 1 put1 (failingCondition s) ++ put1 given.length ++
    given.flatMap (putGiven s) ++ putList (slotPositions (·.short) s) ++ putBool c.reliftArmed ++
    putBool c.deferredCheck ++ putBool (committed s .inbound) ++ putBool (committed s .outbound)))

/-- CHANNEL_STATUS (R193). -/
def execChannelStatus (port : Port) (payload : List Byte) (s : State) : Out :=
  .next (request port ⟨43, false, true, .both, 0⟩ payload ownChannelStatus s)

end Sys2Proof.Machine
end

