-- ==== Sys2Proof/Machine/ModeRequests.lean ====
section
/-!
DEFINITION. The operating modes and the parameters (10.5 and 10.6): CONFIGURE, COMMISSION, SET_PARAMETER,
READ_PARAMETER.
-/

namespace Sys2Proof.Machine

/-! ## CONFIGURE -/

/-- No arm is LOWERING or RAISING (R78). -/
def noArmTravels (s : State) : Bool :=
  allArms.all (fun a =>
    let st := (s.guard.arms.get a).state
    st != .lowering && st != .raising)

/-- CONFIGURE is accepted (R78, R217). -/
def mayConfigure (s : State) : Bool :=
  (s.seq.state == .roadOpen || s.seq.state == .roadClosed || s.seq.state == .positionLost) && noArmTravels s

/-- The items of an arm that CONFIGURE clears (R120). -/
def configureArm (r : ArmRecord) : ArmRecord :=
  { r with reversal := none, retryWait := .stopped, travel := .stopped, stoppedDirection := none }

/-- The "On CONFIGURE" columns of R49, R72, R103, R120, R135, R141 and R170, where a change of state or a stop of the
drive has not made them so. -/
def configureColumns (s : State) : State :=
  let x := filtered s
  let s1 := mapPlanner (fun p => { p with
    holdOff := .stopped, holdOffElapsed := false, roadPriority := false, roadPriorityTimer := .stopped,
    maxRaised := .stopped }) s
  let s2 := mapSeq (fun q => { q with
    heldPhase := none, causes := 0, closureOrigin := none, windWait := .stopped, entryRaise := false }) s1
  let s3 := { s2 with guard := { s2.guard with arms := s2.guard.arms.map configureArm } }
  let s4 := dropMeasurement s3
  let s5 := setDeck { s4.guard.deck with notClear := false } s4
  let s6 := mapDrive (fun d => { d with
    bolts := { w := boltFromSwitches x .w d.bolts.w, e := boltFromSwitches x .e d.bolts.e } }) s5
  mapChannel (fun c => { c with
    zoneList := [], serving := none, servedLast := none, reliftArmed := false, deferredCheck := false })
    (computePositions s6)

/-- An accepted CONFIGURE (R217): the mode, the entry to INACTIVE, each block's column. -/
def configure (s : State) : State :=
  takeWarnings (configureColumns (setSeq .inactive (brakesSet { s with mode := .configuring })))

/-- CONFIGURE's owner (R217). -/
def ownConfigure (s : State) : State × Answer :=
  if mayConfigure s then (settle (configure s), accept []) else (s, refuse .notReady)

/-- CONFIGURE (R217). -/
def execConfigure (port : Port) (payload : List Byte) (s : State) : Out :=
  .next (request port ⟨46, false, true, .serviceOnly, 0⟩ payload ownConfigure s)

/-! ## COMMISSION -/

/-- The first consistency check that fails names its parameter (R218). -/
def inconsistent (p : Parameters) : Option Nat :=
  if p.skewLimit ≤ p.trimBand then some 35
  else if p.travelSpeed < p.creepSpeed then some 30
  else if p.maxLift ≤ 2 * p.creepDistance then some 31
  else if p.warningTime < p.amberTime then some 19
  else none

/-- The sequence state computed from the field (R77). DESIGN CHOICE (log 37): where no arm is in service both rows of
the table hold, and the first is taken. -/
def computedState (s : State) : SeqState :=
  if spanSecure s && allArms.all (fun a => armAt a .up s) then .roadOpen
  else if spanSecure s && allArms.all (fun a => armAt a .down s) then .roadClosed
  else .positionLost

/-- The planner is told of the entry computed (R52, R57, R77). -/
def tellPlanner (st : SeqState) (s : State) : State :=
  match st with
  | .roadOpen => evaluateStart (startHoldOff s)
  | .roadClosed => evaluateStart s
  | _ => s

/-- An accepted COMMISSION (R77, R218). -/
def commission (s : State) : State :=
  let st := computedState s
  let s1 := if st == .positionLost then s else seatZeroing s
  let s2 := mapSeq (fun q => { q with roadClosedByOperator := st == .roadClosed }) s1
  let s3 := setSeq st { s2 with mode := .service }
  if RawInputs.emergencyStop (filtered s3) then enterHalted s3 else tellPlanner st s3

/-- COMMISSION's owner (R218): the response carries the sequence state computed. -/
def ownCommission (s : State) : State × Answer :=
  match inconsistent s.params with
  | some k => (s, { status := .inconsistent, payload := put1 k })
  | none => (settle (commission s), accept (put1 (computedState s).ctorIdx))

/-- COMMISSION (R218). -/
def execCommission (port : Port) (payload : List Byte) (s : State) : Out :=
  .next (request port ⟨47, false, true, .configuringOnly, 0⟩ payload ownCommission s)

/-! ## Parameters -/

/-- The parameters of R219 in the order of their identifiers. -/
inductive ParameterName
  | tb | qb | conclusionHold | closedClearance | margin | tideAllowance | maxLift | highWater | lowWater | gaugeMargin
  | jumpLimit | staleTime | arrivalFilter | roadHoldOff | roadPriorityTime | queueCriticalLevel | maxRaisedTime
  | windWaitTime | amberTime | warningTime | armTimeout | retryTime | deckClearTime | deckWaitLimit | scaleWholeW
  | scaleSixteenthsW | scaleWholeE | scaleSixteenthsE | brakeSettle | creepSpeed | travelSpeed | creepDistance
  | rampStep | trimBand | trimGain | skewLimit | lockTimeout | channelClearTime | noShowTime | navigationClosed
deriving DecidableEq, Repr

/-- The parameters in order. -/
def allParameters : List ParameterName :=
  [.tb, .qb, .conclusionHold, .closedClearance, .margin, .tideAllowance, .maxLift, .highWater, .lowWater,
    .gaugeMargin, .jumpLimit, .staleTime, .arrivalFilter, .roadHoldOff, .roadPriorityTime, .queueCriticalLevel,
    .maxRaisedTime, .windWaitTime, .amberTime, .warningTime] ++
  [.armTimeout, .retryTime, .deckClearTime, .deckWaitLimit, .scaleWholeW, .scaleSixteenthsW, .scaleWholeE,
    .scaleSixteenthsE, .brakeSettle, .creepSpeed, .travelSpeed, .creepDistance, .rampStep, .trimBand, .trimGain,
    .skewLimit, .lockTimeout, .channelClearTime, .noShowTime, .navigationClosed]

/-- The ends of a parameter's range and its default (R219); the flag is reported as 0 or 1 (R220). -/
def ParameterName.limits : ParameterName → Int × Int × Int
  | .tb => (0, 64, 8)
  | .qb => (0, 64, 40)
  | .conclusionHold => (1, 120, 30)
  | .closedClearance => (200, 2000, 650)
  | .margin => (20, 300, 100)
  | .tideAllowance => (0, 100, 30)
  | .maxLift => (1000, 40000, 34000)
  | .highWater => (0, 1200, 600)
  | .lowWater => (-400, 0, -50)
  | .gaugeMargin => (0, 200, 50)
  | .jumpLimit => (10, 200, 50)
  | .staleTime => (30, 600, 120)
  | .arrivalFilter => (0, 1023, 768)
  | .roadHoldOff => (0, 30, 10)
  | .roadPriorityTime => (1, 15, 5)
  | .queueCriticalLevel => (1, 64, 12)
  | .maxRaisedTime => (5, 60, 25)
  | .windWaitTime => (1, 30, 10)
  | .amberTime => (3, 10, 4)
  | .warningTime => (6, 60, 12)
  | .armTimeout => (4, 30, 10)
  | .retryTime => (3, 30, 5)
  | .deckClearTime => (3, 60, 8)
  | .deckWaitLimit => (30, 600, 120)
  | .scaleWholeW | .scaleWholeE => (1, 63, 12)
  | .scaleSixteenthsW | .scaleSixteenthsE => (0, 15, 8)
  | .brakeSettle => (100, 2000, 400)
  | .creepSpeed => (50, 300, 100)
  | .travelSpeed => (200, 1000, 1000)
  | .creepDistance => (100, 2000, 600)
  | .rampStep => (5, 100, 20)
  | .trimBand => (5, 50, 15)
  | .trimGain => (1, 50, 20)
  | .skewLimit => (20, 200, 60)
  | .lockTimeout => (2, 20, 6)
  | .channelClearTime => (10, 120, 30)
  | .noShowTime => (1, 30, 8)
  | .navigationClosed => (0, 1, 0)

/-- The parameter is changeable in SERVICE (R219). -/
def ParameterName.live : ParameterName → Bool
  | .conclusionHold | .arrivalFilter | .roadHoldOff | .queueCriticalLevel | .navigationClosed => true
  | _ => false

/-- The parameter is set by SET_PARAMETER (R219). -/
def ParameterName.settable : ParameterName → Bool
  | .tb | .qb | .navigationClosed => false
  | _ => true

/-- The value in force (R220). -/
def parameterValue (s : State) : ParameterName → Int
  | .tb => s.table.tb
  | .qb => s.table.qb
  | .conclusionHold => s.params.conclusionHold
  | .closedClearance => s.params.closedClearance
  | .margin => s.params.margin
  | .tideAllowance => s.params.tideAllowance
  | .maxLift => s.params.maxLift
  | .highWater => s.params.highWater
  | .lowWater => s.params.lowWater
  | .gaugeMargin => s.params.gaugeMargin
  | .jumpLimit => s.params.jumpLimit
  | .staleTime => s.params.staleTime
  | .arrivalFilter => s.params.arrivalFilter.toNat
  | .roadHoldOff => s.params.roadHoldOff
  | .roadPriorityTime => s.params.roadPriorityTime
  | .queueCriticalLevel => s.params.queueCriticalLevel
  | .maxRaisedTime => s.params.maxRaisedTime
  | .windWaitTime => s.params.windWaitTime
  | .amberTime => s.params.amberTime
  | .warningTime => s.params.warningTime
  | .armTimeout => s.params.armTimeout
  | .retryTime => s.params.retryTime
  | .deckClearTime => s.params.deckClearTime
  | .deckWaitLimit => s.params.deckWaitLimit
  | .scaleWholeW => s.params.scaleWhole.w
  | .scaleSixteenthsW => s.params.scaleSixteenths.w
  | .scaleWholeE => s.params.scaleWhole.e
  | .scaleSixteenthsE => s.params.scaleSixteenths.e
  | .brakeSettle => s.params.brakeSettle
  | .creepSpeed => s.params.creepSpeed
  | .travelSpeed => s.params.travelSpeed
  | .creepDistance => s.params.creepDistance
  | .rampStep => s.params.rampStep
  | .trimBand => s.params.trimBand
  | .trimGain => s.params.trimGain
  | .skewLimit => s.params.skewLimit
  | .lockTimeout => s.params.lockTimeout
  | .channelClearTime => s.params.channelClearTime
  | .noShowTime => s.params.noShowTime
  | .navigationClosed => s.planner.navigationClosed.toNat

/-- The parameters with one value stored (R219). -/
def Parameters.store (v : Int) (p : Parameters) : ParameterName → Parameters
  | .conclusionHold => { p with conclusionHold := v.toNat }
  | .closedClearance => { p with closedClearance := v }
  | .margin => { p with margin := v }
  | .tideAllowance => { p with tideAllowance := v }
  | .maxLift => { p with maxLift := v }
  | .highWater => { p with highWater := v }
  | .lowWater => { p with lowWater := v }
  | .gaugeMargin => { p with gaugeMargin := v }
  | .jumpLimit => { p with jumpLimit := v }
  | .staleTime => { p with staleTime := v.toNat }
  | .arrivalFilter => { p with arrivalFilter := BitVec.ofNat 10 v.toNat }
  | .roadHoldOff => { p with roadHoldOff := v.toNat }
  | .roadPriorityTime => { p with roadPriorityTime := v.toNat }
  | .queueCriticalLevel => { p with queueCriticalLevel := v.toNat }
  | .maxRaisedTime => { p with maxRaisedTime := v.toNat }
  | .windWaitTime => { p with windWaitTime := v.toNat }
  | .amberTime => { p with amberTime := v.toNat }
  | .warningTime => { p with warningTime := v.toNat }
  | .armTimeout => { p with armTimeout := v.toNat }
  | .retryTime => { p with retryTime := v.toNat }
  | .deckClearTime => { p with deckClearTime := v.toNat }
  | .deckWaitLimit => { p with deckWaitLimit := v.toNat }
  | .scaleWholeW => { p with scaleWhole := p.scaleWhole.set .w v }
  | .scaleSixteenthsW => { p with scaleSixteenths := p.scaleSixteenths.set .w v }
  | .scaleWholeE => { p with scaleWhole := p.scaleWhole.set .e v }
  | .scaleSixteenthsE => { p with scaleSixteenths := p.scaleSixteenths.set .e v }
  | .brakeSettle => { p with brakeSettle := v.toNat }
  | .creepSpeed => { p with creepSpeed := v }
  | .travelSpeed => { p with travelSpeed := v }
  | .creepDistance => { p with creepDistance := v }
  | .rampStep => { p with rampStep := v }
  | .trimBand => { p with trimBand := v }
  | .trimGain => { p with trimGain := v }
  | .skewLimit => { p with skewLimit := v }
  | .lockTimeout => { p with lockTimeout := v.toNat }
  | .channelClearTime => { p with channelClearTime := v.toNat }
  | .noShowTime => { p with noShowTime := v.toNat }
  | .tb | .qb | .navigationClosed => p

/-- A value lies in the parameter's range; Hmax is a whole multiple of 100 (R219). -/
def ParameterName.admits (n : ParameterName) (v : Int) : Bool :=
  decide (n.limits.1 ≤ v) && decide (v ≤ n.limits.2.1) && (n != .maxLift || v % 100 == 0)

/-- A new hold-off time acts on a running hold-off timer (R50). -/
def applyHoldOff (s : State) : State :=
  match s.planner.holdOff with
  | .running c _ =>
    if s.params.roadHoldOff ≤ c then
      evaluateStart (mapPlanner (fun p => { p with holdOff := .stopped, holdOffElapsed := true }) s)
    else mapPlanner (fun p => { p with holdOff := .running c s.params.roadHoldOff }) s
  | _ => s

/-- What the owning block does with a stored value (R22, R38, R50, R142); `old` is the value before. -/
def applyParameter (n : ParameterName) (old v : Int) (s : State) : State :=
  match n with
  | .conclusionHold => if v < old then ageConcluded 0 s else s
  | .closedClearance | .margin | .tideAllowance | .maxLift | .highWater | .gaugeMargin => waterEvent (recomputeLevel s)
  | .roadHoldOff => applyHoldOff s
  | .queueCriticalLevel => refreshQueueCritical s
  | .scaleWholeW | .scaleSixteenthsW => locateTower .w s
  | .scaleWholeE | .scaleSixteenthsE => locateTower .e s
  | _ => s

/-- The parameter stored and applied (R219). -/
def storeParameter (n : ParameterName) (v : Int) (s : State) : State :=
  settle (applyParameter n (parameterValue s n) v { s with params := s.params.store v n })

/-- SET_PARAMETER's owner (R219): identifier, value of four bytes. -/
def ownSetParameter (p : List Byte) (s : State) : State × Answer :=
  match named allParameters (byteAt p 0) with
  | none => (s, refuse .outOfRange)
  | some n =>
    let v := longAt p 1
    if !n.settable then (s, refuse .outOfRange)
    else if s.mode == .service && !n.live then (s, refuse .wrongMode)
    else if !n.admits v then (s, refuse .outOfRange)
    else
      let s1 := storeParameter n v s
      (s1, accept (put1 n.ctorIdx ++ putInt4 (parameterValue s1 n)))

/-- SET_PARAMETER (R219). -/
def execSetParameter (port : Port) (payload : List Byte) (s : State) : Out :=
  .next (request port ⟨48, false, true, .both, 5⟩ payload (ownSetParameter payload) s)

/-- The lower end of a range as reported: that of QB is the TB in force (R220). -/
def reportedLow (s : State) (n : ParameterName) : Int := if n == .qb then (s.table.tb : Int) else n.limits.1

/-- READ_PARAMETER's owner (R220). -/
def ownReadParameter (p : List Byte) (s : State) : State × Answer :=
  match named allParameters (byteAt p 0) with
  | none => (s, refuse .outOfRange)
  | some n =>
    (s, accept (putInt4 (parameterValue s n) ++ putInt4 (reportedLow s n) ++ putInt4 n.limits.2.1 ++
      putInt4 n.limits.2.2 ++ putBool n.live ++ put1 s.mode.ctorIdx))

/-- READ_PARAMETER (R220). -/
def execReadParameter (port : Port) (payload : List Byte) (s : State) : Out :=
  .next (request port ⟨49, false, true, .both, 1⟩ payload (ownReadParameter payload) s)

end Sys2Proof.Machine
end

