-- ==== Sys2Proof/Machine/Dispatch.lean ====
section
/-!
DEFINITION. What each command does to everything but the queue: one arm for each command, each a call of its meaning.
-/

namespace Sys2Proof.Machine

/-- The effect of a command, by its rule in spec/opcode_table.json. -/
def exec (i : Instr) (s : State) : Host.Outcome State Fault Refusal :=
  match i with
  | .powerOn levels => Sys2Proof.Machine.execPowerOn levels s
  | .inputSample raw => Sys2Proof.Machine.execInputSample raw s
  | .positionSample => Sys2Proof.Machine.execPositionSample s
  | .encoderEdge tower a b => Sys2Proof.Machine.execEncoderEdge tower a b s
  | .timePulseLeadingEdge elapsedMs => Sys2Proof.Machine.execTimePulseLeadingEdge elapsedMs s
  | .secondMark => Sys2Proof.Machine.execSecondMark s
  | .minuteMarkCorrection => Sys2Proof.Machine.execMinuteMarkCorrection s
  | .supervisionTimerExpiry => Sys2Proof.Machine.execSupervisionTimerExpiry s
  | .oscillatorStep => Sys2Proof.Machine.execOscillatorStep s
  | .lineBreak port => Sys2Proof.Machine.execLineBreak port s
  | .frameDiscarded port cause => Sys2Proof.Machine.execFrameDiscarded port cause s
  | .unknownRequest port code payload => Sys2Proof.Machine.execUnknownRequest port code payload s
  | .responseSent port => Sys2Proof.Machine.execResponseSent port s
  | .createBooking port payload => Sys2Proof.Machine.execCreateBooking port payload s
  | .createTimetable port payload => Sys2Proof.Machine.execCreateTimetable port payload s
  | .postArrival port payload => Sys2Proof.Machine.execPostArrival port payload s
  | .amend port payload => Sys2Proof.Machine.execAmend port payload s
  | .withdraw port payload => Sys2Proof.Machine.execWithdraw port payload s
  | .release port payload => Sys2Proof.Machine.execRelease port payload s
  | .deleteTimetable port payload => Sys2Proof.Machine.execDeleteTimetable port payload s
  | .lookUp port payload => Sys2Proof.Machine.execLookUp port payload s
  | .find port payload => Sys2Proof.Machine.execFind port payload s
  | .list port payload => Sys2Proof.Machine.execList port payload s
  | .listDue port payload => Sys2Proof.Machine.execListDue port payload s
  | .queueStatus port payload => Sys2Proof.Machine.execQueueStatus port payload s
  | .clearDamage port payload => Sys2Proof.Machine.execClearDamage port payload s
  | .clearTable port payload => Sys2Proof.Machine.execClearTable port payload s
  | .setRegions port payload => Sys2Proof.Machine.execSetRegions port payload s
  | .waterLevel port payload => Sys2Proof.Machine.execWaterLevel port payload s
  | .stalenessTimerExpiry => Sys2Proof.Machine.execStalenessTimerExpiry s
  | .clearanceStatus port payload => Sys2Proof.Machine.execClearanceStatus port payload s
  | .openingStatus port payload => Sys2Proof.Machine.execOpeningStatus port payload s
  | .openNow port payload => Sys2Proof.Machine.execOpenNow port payload s
  | .closeSpan port payload => Sys2Proof.Machine.execCloseSpan port payload s
  | .abandon port payload => Sys2Proof.Machine.execAbandon port payload s
  | .roadPriority port payload => Sys2Proof.Machine.execRoadPriority port payload s
  | .roadPriorityEnd port payload => Sys2Proof.Machine.execRoadPriorityEnd port payload s
  | .closeNavigation port payload => Sys2Proof.Machine.execCloseNavigation port payload s
  | .openNavigation port payload => Sys2Proof.Machine.execOpenNavigation port payload s
  | .closeRoad port payload => Sys2Proof.Machine.execCloseRoad port payload s
  | .reopenRoad port payload => Sys2Proof.Machine.execReopenRoad port payload s
  | .stop port payload => Sys2Proof.Machine.execStop port payload s
  | .resume port payload => Sys2Proof.Machine.execResume port payload s
  | .recoverSeat port payload => Sys2Proof.Machine.execRecoverSeat port payload s
  | .sequenceStatus port payload => Sys2Proof.Machine.execSequenceStatus port payload s
  | .confirmUnwarned port payload => Sys2Proof.Machine.execConfirmUnwarned port payload s
  | .clearLamp port payload => Sys2Proof.Machine.execClearLamp port payload s
  | .headService port payload => Sys2Proof.Machine.execHeadService port payload s
  | .clearRoadStatus port payload => Sys2Proof.Machine.execClearRoadStatus port payload s
  | .armRetry port payload => Sys2Proof.Machine.execArmRetry port payload s
  | .armService port payload => Sys2Proof.Machine.execArmService port payload s
  | .detectorService port payload => Sys2Proof.Machine.execDetectorService port payload s
  | .roadStatus port payload => Sys2Proof.Machine.execRoadStatus port payload s
  | .jog port payload => Sys2Proof.Machine.execJog port payload s
  | .driveStatus port payload => Sys2Proof.Machine.execDriveStatus port payload s
  | .zoneReset port payload => Sys2Proof.Machine.execZoneReset port payload s
  | .channelStatus port payload => Sys2Proof.Machine.execChannelStatus port payload s
  | .setTime port payload => Sys2Proof.Machine.execSetTime port payload s
  | .clockStatus port payload => Sys2Proof.Machine.execClockStatus port payload s
  | .configure port payload => Sys2Proof.Machine.execConfigure port payload s
  | .commission port payload => Sys2Proof.Machine.execCommission port payload s
  | .setParameter port payload => Sys2Proof.Machine.execSetParameter port payload s
  | .readParameter port payload => Sys2Proof.Machine.execReadParameter port payload s
  | .fetchAttention port payload => Sys2Proof.Machine.execFetchAttention port payload s
  | .setAttentionEnable port payload => Sys2Proof.Machine.execSetAttentionEnable port payload s
  | .roadHoldOffExpiry => Sys2Proof.Machine.execRoadHoldOffExpiry s
  | .roadPriorityTimerExpiry => Sys2Proof.Machine.execRoadPriorityTimerExpiry s
  | .maxRaisedTimerExpiry => Sys2Proof.Machine.execMaxRaisedTimerExpiry s
  | .windWaitTimerExpiry => Sys2Proof.Machine.execWindWaitTimerExpiry s
  | .amberTimerExpiry approach => Sys2Proof.Machine.execAmberTimerExpiry approach s
  | .flasherHalf approach => Sys2Proof.Machine.execFlasherHalf approach s
  | .lampProving head lamp => Sys2Proof.Machine.execLampProving head lamp s
  | .offCheck head lamp => Sys2Proof.Machine.execOffCheck head lamp s
  | .warningCountComplete approach => Sys2Proof.Machine.execWarningCountComplete approach s
  | .armTravelTimeout arm => Sys2Proof.Machine.execArmTravelTimeout arm s
  | .retryWaitExpiry arm => Sys2Proof.Machine.execRetryWaitExpiry arm s
  | .deckClear => Sys2Proof.Machine.execDeckClear s
  | .deckWaitExpiry => Sys2Proof.Machine.execDeckWaitExpiry s
  | .occupancyTimerExpiry detector => Sys2Proof.Machine.execOccupancyTimerExpiry detector s
  | .brakeSettleExpiry => Sys2Proof.Machine.execBrakeSettleExpiry s
  | .lockTravelTimerExpiry bolt => Sys2Proof.Machine.execLockTravelTimerExpiry bolt s
  | .jogKeepAliveExpiry => Sys2Proof.Machine.execJogKeepAliveExpiry s
  | .channelClearTimerRun => Sys2Proof.Machine.execChannelClearTimerRun s
  | .noShowTimerExpiry slot => Sys2Proof.Machine.execNoShowTimerExpiry slot s
  | .addressMark port value => Sys2Proof.Machine.execAddressMark port value s

end Sys2Proof.Machine
end

