-- ==== Sys2Proof/Machine/Step.lean ====
section
/-!
DEFINITION. One step of the block: the command at the front of its queue, or, on an empty queue, an expiry that is due
or the passing of one millisecond (log 1).
-/

namespace Sys2Proof.Machine

/-- The timers of one lamp with their expiry commands. -/
def lampTimers (s : State) (h : Head) (l : Lamp) : List (Timer × Instr) :=
  let x := (s.guard.heads.get h).lamps.get l
  [(x.proving, .lampProving h l), (x.offCheck, .offCheck h l)]

/-- The timers of one approach. -/
def approachTimers (s : State) (a : Approach) : List (Timer × Instr) :=
  let r := s.guard.approaches.get a
  [(r.amberTimer, .amberTimerExpiry a), (r.flasher, .flasherHalf a), (countTimer a s, .warningCountComplete a)]

/-- The timers of one arm. -/
def armTimers (s : State) (a : Arm) : List (Timer × Instr) :=
  let r := s.guard.arms.get a
  [(r.travel, .armTravelTimeout a), (r.retryWait, .retryWaitExpiry a)]

/-- Every timer of the part with the command of its expiry. -/
def timers (s : State) : List (Timer × Instr) :=
  [(s.clock.measuring, .minuteMarkCorrection), (s.clock.supervision, .supervisionTimerExpiry),
    (s.clock.stepTimer, .oscillatorStep), (s.water.staleness, .stalenessTimerExpiry),
    (s.planner.holdOff, .roadHoldOffExpiry), (s.planner.roadPriorityTimer, .roadPriorityTimerExpiry),
    (s.planner.maxRaised, .maxRaisedTimerExpiry), (s.seq.windWait, .windWaitTimerExpiry),
    (s.guard.deck.clear, .deckClear), (s.guard.deck.wait, .deckWaitExpiry), (s.drive.settle, .brakeSettleExpiry),
    (keepAlive s, .jogKeepAliveExpiry), (s.channel.clearTimer, .channelClearTimerRun)] ++
  allApproaches.flatMap (approachTimers s) ++
  allHeads.flatMap (fun h => allLamps.flatMap (lampTimers s h)) ++
  allArms.flatMap (armTimers s) ++
  allDetectors.map (fun d => ((s.guard.detectors.get d).occupancy, .occupancyTimerExpiry d)) ++
  allTowers.map (fun b => ((s.drive.bolts.get b).travel, .lockTravelTimerExpiry b)) ++
  (List.range Config.slotLimit).map (fun n => (noShowTimer n s, .noShowTimerExpiry n))

/-- The expiries that are due now. -/
def dueCommands (s : State) : List Instr := ((timers s).filter (fun x => x.1.expired)).map (·.2)

/-- What the block does with no command waiting (log 1): an expiry that is due happens; of several, one that the spec
leaves open (log 4); with none due, one millisecond passes. -/
def idle (s : State) : Host.Outcome State Fault Refusal :=
  match dueCommands s with
  | [] => .next (elapse 1 s)
  | [c] => exec c s
  | c :: rest =>
    exec ((c :: rest).getD (Config.dueChoice s.freeCount % (rest.length + 1)) c)
      { s with freeCount := s.freeCount + 1 }

/-- One step: the front command with the queue's rest, or an idle step. -/
def step (s : State) : Host.Outcome State Fault Refusal :=
  match s.pending with
  | [] => idle s
  | c :: rest => exec c { s with pending := rest }

/-- The state with the command that a word spells put at the front of the queue; unchanged where it spells none. -/
def State.withFetchWord (s : State) (nbits w : Nat) : State :=
  match decodeTableWord nbits w with
  | some c => { s with pending := c :: s.pending }
  | none => s

end Sys2Proof.Machine
end

