-- ==== Sys2Proof/Safety.lean ====
section
/-!
DEFINITION. What is claimed of the block: the catalogue of requests as R215 and R214 give it, what it is for a port to
take and answer a request, and the invariants that every step keeps.
-/

namespace Sys2Proof.Machine

/-! ## Requests -/

/-- The port and the catalogue row of a command that is a catalogued request (R214, R215). -/
def requestRow : Instr → Option (Port × CatalogueRow)
  | .createBooking p _ => some (p, ⟨1, true, true, .both, 17⟩)
  | .createTimetable p _ => some (p, ⟨2, false, true, .both, 14⟩)
  | .postArrival p _ => some (p, ⟨3, true, true, .both, 12⟩)
  | .amend p _ => some (p, ⟨4, true, true, .both, 13⟩)
  | .withdraw p _ => some (p, ⟨5, true, true, .both, 2⟩)
  | .release p _ => some (p, ⟨6, true, true, .both, 2⟩)
  | .deleteTimetable p _ => some (p, ⟨7, false, true, .both, 2⟩)
  | .lookUp p _ => some (p, ⟨8, true, true, .both, 2⟩)
  | .find p _ => some (p, ⟨9, true, true, .both, 8⟩)
  | .list p _ => some (p, ⟨10, true, true, .both, 2⟩)
  | .listDue p _ => some (p, ⟨11, true, true, .both, 1⟩)
  | .queueStatus p _ => some (p, ⟨12, true, true, .both, 0⟩)
  | .clearDamage p _ => some (p, ⟨13, false, true, .both, 0⟩)
  | .clearTable p _ => some (p, ⟨14, false, true, .configuringOnly, 0⟩)
  | .setRegions p _ => some (p, ⟨15, false, true, .configuringOnly, 8⟩)
  | .waterLevel p _ => some (p, ⟨16, true, false, .both, 2⟩)
  | .clearanceStatus p _ => some (p, ⟨17, false, true, .both, 3⟩)
  | .openingStatus p _ => some (p, ⟨18, true, true, .both, 0⟩)
  | .openNow p _ => some (p, ⟨19, false, true, .serviceOnly, 0⟩)
  | .closeSpan p _ => some (p, ⟨20, false, true, .serviceOnly, 0⟩)
  | .abandon p _ => some (p, ⟨21, false, true, .serviceOnly, 0⟩)
  | .roadPriority p _ => some (p, ⟨22, false, true, .serviceOnly, 0⟩)
  | .roadPriorityEnd p _ => some (p, ⟨23, false, true, .serviceOnly, 0⟩)
  | .closeNavigation p _ => some (p, ⟨24, false, true, .both, 0⟩)
  | .openNavigation p _ => some (p, ⟨25, false, true, .both, 0⟩)
  | .closeRoad p _ => some (p, ⟨26, false, true, .serviceOnly, 0⟩)
  | .reopenRoad p _ => some (p, ⟨27, false, true, .serviceOnly, 0⟩)
  | .stop p _ => some (p, ⟨28, false, true, .serviceOnly, 0⟩)
  | .resume p _ => some (p, ⟨29, false, true, .serviceOnly, 0⟩)
  | .recoverSeat p _ => some (p, ⟨30, false, true, .serviceOnly, 0⟩)
  | .sequenceStatus p _ => some (p, ⟨31, false, true, .both, 0⟩)
  | .confirmUnwarned p _ => some (p, ⟨32, false, true, .serviceOnly, 1⟩)
  | .clearLamp p _ => some (p, ⟨33, false, true, .both, 2⟩)
  | .headService p _ => some (p, ⟨34, false, true, .both, 2⟩)
  | .clearRoadStatus p _ => some (p, ⟨35, false, true, .both, 4⟩)
  | .armRetry p _ => some (p, ⟨36, false, true, .serviceOnly, 1⟩)
  | .armService p _ => some (p, ⟨37, false, true, .both, 2⟩)
  | .detectorService p _ => some (p, ⟨38, false, true, .both, 2⟩)
  | .roadStatus p _ => some (p, ⟨39, false, true, .both, 0⟩)
  | .jog p _ => some (p, ⟨40, false, true, .serviceOnly, 2⟩)
  | .driveStatus p _ => some (p, ⟨41, false, true, .both, 0⟩)
  | .zoneReset p _ => some (p, ⟨42, false, true, .both, 0⟩)
  | .channelStatus p _ => some (p, ⟨43, false, true, .both, 0⟩)
  | .setTime p _ => some (p, ⟨44, false, true, .both, 4⟩)
  | .clockStatus p _ => some (p, ⟨45, false, true, .both, 1⟩)
  | .configure p _ => some (p, ⟨46, false, true, .serviceOnly, 0⟩)
  | .commission p _ => some (p, ⟨47, false, true, .configuringOnly, 0⟩)
  | .setParameter p _ => some (p, ⟨48, false, true, .both, 5⟩)
  | .readParameter p _ => some (p, ⟨49, false, true, .both, 1⟩)
  | .fetchAttention p _ => some (p, ⟨50, true, true, .both, 0⟩)
  | .setAttentionEnable p _ =>
    some (p, ⟨51, true, true, .both, match p with | .control => 3 | .harbour => 1⟩)
  | _ => none

/-- The command is a catalogued request in a whole good frame, its port can take the frame (R208, R210), and the frame
passes the checks of R212. -/
def decoded (c : Instr) (s : State) : Bool :=
  match requestRow c, c.requestPayload with
  | some (p, row), some payload =>
    portFree s p && row.held p && payload.length == row.length && row.modes.admits s.mode
  | _, _ => false

/-- The state after a port has taken a request's frame, before its owner acts (R208): the receiver is BUSY. -/
def taken (p : Port) (code : Nat) (payload : List Byte) (s : State) : State :=
  takeFrame p (BitVec.ofNat 8 code :: payload) s

/-- The state after a request that its owner answered: `u` is what the owner left. -/
def answered (p : Port) (code : Nat) (x : Status) (payload : List Byte) (u : State) : State :=
  respond p code { status := x, payload := payload } u

/-- A request that changed nothing but its own port's receiver and response. -/
def OnlyAnswered (p : Port) (s t : State) : Prop :=
  t = { s with ports := t.ports } ∧ (∀ q, q ≠ p → t.ports.get q = s.ports.get q) ∧
    (t.ports.get p).attention = (s.ports.get p).attention ∧ (t.ports.get p).enable = (s.ports.get p).enable ∧
    (t.ports.get p).station = (s.ports.get p).station ∧ (t.ports.get p).baud = (s.ports.get p).baud

/-- The vessel a create request or posting names is in range, with the direction it names (R3). -/
def VesselOk (payload : List Byte) (d : Direction) : Prop :=
  identityOk (identityAt payload 0) = true ∧ named allDirections (byteAt payload 8) = some d ∧
    100 ≤ wordAt payload 9 ∧ wordAt payload 9 ≤ 6000 ∧ byteAt payload 11 ≤ 7

/-- A live record of the vessel and direction that a create request or posting names (R13). -/
def DuplicateAt (payload : List Byte) (d : Direction) (s : State) (j : Nat) : Prop :=
  (entryAt s j).state.live = true ∧ (entryAt s j).identity = identityAt payload 0 ∧ (entryAt s j).direction = d

/-- No live record is a duplicate (R13). -/
def NoDuplicate (payload : List Byte) (d : Direction) (s : State) : Prop :=
  ∀ j, j < 64 → ¬ DuplicateAt payload d s j

/-- The vessel is in range, no live record is a duplicate, and the too-tall and fits-under tests let it pass (R13,
R16). -/
def Admitted (payload : List Byte) (level : Int) (d : Direction) (s : State) : Prop :=
  VesselOk payload d ∧ NoDuplicate payload d s ∧ tooTall s.params (wordAt payload 9) = false ∧
    fitsUnder s.params (wordAt payload 9) level = false

/-- A window Z after E lies in range: (Z − E) mod 1440 in 1..720 (R3). -/
def WindowInRange (e z : Nat) : Prop := z < 1440 ∧ 1 ≤ (z + 1440 - e) % 1440 ∧ (z + 1440 - e) % 1440 ≤ 720

/-- The amended values of an AMEND are not in their form or range (R3, R18); a Z named without an E is so by the
model's choice (log 36). -/
def AmendOutOfRange (x : List Byte) : Prop :=
  2 ≤ byteAt x 2 ∨ 2 ≤ byteAt x 5 ∨ 2 ≤ byteAt x 7 ∨ 2 ≤ byteAt x 10 ∨
    (byteAt x 2 = 1 ∧ (wordAt x 3 < 100 ∨ 6000 < wordAt x 3)) ∨ (byteAt x 5 = 1 ∧ 7 < byteAt x 6) ∨
    (byteAt x 7 = 1 ∧ 1440 ≤ wordAt x 8) ∨ (byteAt x 7 = 0 ∧ byteAt x 10 = 1) ∨
    (byteAt x 7 = 1 ∧ byteAt x 10 = 1 ∧ ¬ WindowInRange (wordAt x 8) (wordAt x 11))

/-- An index is the lowest VACANT one of the indexes from `lo` to below `hi`. -/
def LowestVacant (s : State) (lo hi i : Nat) : Prop :=
  lo ≤ i ∧ i < hi ∧ hi ≤ 64 ∧ (entryAt s i).state = .vacant ∧
    ∀ j, lo ≤ j → j < i → (entryAt s j).state ≠ .vacant

/-- An entry but for its due stamp, which R9 moves on where its age would wrap. -/
def unstamped (e : Entry) : Entry := { e with dueStamp := none }

/-- Every entry but one is as it was, its due stamp aside. -/
def OthersKept (i : Nat) (s u : State) : Prop := ∀ j, j ≠ i → unstamped (entryAt u j) = unstamped (entryAt s j)

/-- The members of the due list that pass a test, by class and within a class in the order of the list (R60). -/
def byClass (p : Entry → Bool) (s : State) : List Nat :=
  (List.range 8).flatMap (fun c => s.table.dueList.filter (fun i => p (entryAt s i) && (entryAt s i).cls == c))

/-- Every stored check code of the table agrees with its fields (R5, R26). -/
def TableSound (s : State) : Prop :=
  s.table.entries.length = 64 ∧ s.table.generations.length = 64 ∧ (∀ e ∈ s.table.entries, e.codeGood = true) ∧
    ∀ g ∈ s.table.generations, g.codeGood = true

/-- A tag names an entry that is not VACANT: its index, its generation (R4). -/
def Names (s : State) (i g : Nat) : Prop :=
  i < 64 ∧ (generationAt s i).value.toNat = g ∧ (entryAt s i).state ≠ .vacant

/-! ## Steps of the clock and places of the encoder phases -/

/-- The minute of day and the seconds after a second step (R202). -/
def steppedTime (c : Clock) : Nat × Nat :=
  if 59 ≤ c.seconds then ((c.minute + 1) % 1440, 0) else (c.minute, c.seconds + 1)

/-- No timer of the clock expires on the way to a pulse `n` ms from now; at that moment the supervision timer gives way
to a pulse in time (R199, R200, log 38). -/
def ClockQuiet (n : Nat) (s : State) : Prop :=
  (∀ k l, s.clock.measuring = .running k l → n < l - k) ∧ (∀ k l, s.clock.stepTimer = .running k l → n < l - k) ∧
    ∀ k l, s.clock.supervision = .running k l → n < l - k ∨ ∃ r, s.clock.reference = some r ∧ r + n ≤ 1200

/-- The place of an encoder phase (A, B) in the cycle of R143. -/
def phasePlace (a b : Bool) : Nat := if a then (if b then 2 else 3) else (if b then 1 else 0)

/-! ## Fault reports -/

/-- What a fault report leaves, by the sequence state `s` in which it is taken (R78, R94, R95, R160). Any motion or jog
has ended with both brakes SET. INACTIVE takes no report; POSITION_LOST and RECOVERING enter no cause, RECOVERING
returning to POSITION_LOST; FAULT_HOLD and HALTED take the cause and keep their state; any other state is held in
FAULT_HOLD. Where brakes set is commanded, no bolt travels on. All but INACTIVE raise FAULT_HOLD. -/
def FaultReported (c : FaultCause) (s u : State) : Prop :=
  let held := u.seq.causes.getLsbD c.ctorIdx = true ∧ u.ports.control.attention.getLsbD 1 = true
  let passed := u.seq.causes = s.seq.causes ∧ u.ports.control.attention.getLsbD 1 = true
  let locksStopped := ∀ b, (u.drive.bolts.get b).state ≠ .withdrawing ∧ (u.drive.bolts.get b).state ≠ .driving
  u.drive.motion = .none ∧ u.drive.jog = none ∧
    (∀ k, (u.drive.towers.get k).released = false ∧ (u.drive.towers.get k).reference = 0) ∧
    match s.seq.state with
    | .inactive => u.seq.state = .inactive ∧ u.seq.causes = s.seq.causes
    | .positionLost => u.seq.state = .positionLost ∧ passed
    | .recovering => u.seq.state = .positionLost ∧ locksStopped ∧ passed
    | .faultHold => u.seq.state = .faultHold ∧ u.seq.heldPhase = s.seq.heldPhase ∧ held
    | .halted => u.seq.state = .halted ∧ u.seq.heldPhase = s.seq.heldPhase ∧ held
    | st => u.seq.state = .faultHold ∧ u.seq.heldPhase = some st ∧ locksStopped ∧ held

/-! ## The trim -/

/-- The reference that R156 gives a tower of a RUNNING RAISE (`up`) or LOWER from P, Bt, g and the skew p_W − p_E: 0 for
a tower stopped at its seat; P where the other one is, where |s| ≤ Bt or s = 0, and for the tower that does not lead;
else P − ⌊P × min((|s| − Bt) × g, 750) / 1000⌋. The higher tower leads when raising, the lower one when lowering. -/
def trimReference (up : Bool) (profile bt g skewNow : Int) (stopped : PerTower Bool) (k : Tower) : Int :=
  let higher : Tower := if 0 < skewNow then .w else .e
  let leads : Bool := if up then decide (k = higher) else decide (k ≠ higher)
  if stopped.get k then 0
  else if stopped.w || stopped.e || decide (|skewNow| ≤ bt) || skewNow == 0 || !leads then profile
  else profile - profile * min ((|skewNow| - bt) * g) 750 / 1000

/-- Which towers are stopped at their seats. -/
def stoppedTowers (s : State) : PerTower Bool := ⟨s.drive.towers.w.stopped, s.drive.towers.e.stopped⟩

/-! ## Parameters -/

/-- Range, default and "changeable in SERVICE" of each parameter, in the order of the identifiers of 10.6. -/
def parameterTable : List (Int × Int × Int × Bool) :=
  [(0, 64, 8, false), (0, 64, 40, false), (1, 120, 30, true), (200, 2000, 650, false), (20, 300, 100, false),
    (0, 100, 30, false), (1000, 40000, 34000, false), (0, 1200, 600, false), (-400, 0, -50, false),
    (0, 200, 50, false), (10, 200, 50, false), (30, 600, 120, false), (0, 1023, 768, true), (0, 30, 10, true),
    (1, 15, 5, false), (1, 64, 12, true), (5, 60, 25, false), (1, 30, 10, false), (3, 10, 4, false),
    (6, 60, 12, false)] ++
  [(4, 30, 10, false), (3, 30, 5, false), (3, 60, 8, false), (30, 600, 120, false), (1, 63, 12, false),
    (0, 15, 8, false), (1, 63, 12, false), (0, 15, 8, false), (100, 2000, 400, false), (50, 300, 100, false),
    (200, 1000, 1000, false), (100, 2000, 600, false), (5, 100, 20, false), (5, 50, 15, false), (1, 50, 20, false),
    (20, 200, 60, false), (2, 20, 6, false), (10, 120, 30, false), (1, 30, 8, false), (0, 1, 0, true)]

/-- The values in force, in the order of the identifiers of 10.6. -/
def valuesInForce (s : State) : List Int :=
  [(s.table.tb : Int), (s.table.qb : Int), (s.params.conclusionHold : Int), s.params.closedClearance, s.params.margin,
    s.params.tideAllowance, s.params.maxLift, s.params.highWater, s.params.lowWater, s.params.gaugeMargin,
    s.params.jumpLimit, (s.params.staleTime : Int), (s.params.arrivalFilter.toNat : Int),
    (s.params.roadHoldOff : Int), (s.params.roadPriorityTime : Int), (s.params.queueCriticalLevel : Int),
    (s.params.maxRaisedTime : Int), (s.params.windWaitTime : Int), (s.params.amberTime : Int),
    (s.params.warningTime : Int)] ++
  [(s.params.armTimeout : Int), (s.params.retryTime : Int), (s.params.deckClearTime : Int),
    (s.params.deckWaitLimit : Int), s.params.scaleWhole.w, s.params.scaleSixteenths.w, s.params.scaleWhole.e,
    s.params.scaleSixteenths.e, (s.params.brakeSettle : Int), s.params.creepSpeed, s.params.travelSpeed,
    s.params.creepDistance, s.params.rampStep, s.params.trimBand, s.params.trimGain, s.params.skewLimit,
    (s.params.lockTimeout : Int), (s.params.channelClearTime : Int), (s.params.noShowTime : Int),
    (s.planner.navigationClosed.toNat : Int)]

/-! ## Invariants -/

/-- The two masts never show PROCEED together (R173). -/
def MastsApart (s : State) : Prop :=
  ¬ (s.channel.masts.upstream = .proceed ∧ s.channel.masts.downstream = .proceed)

/-- Each mast shows what R173 gives for the state as it stands; until the first input sample that is FAULT (R195). -/
def MastsShown (s : State) : Prop :=
  s.channel.masts.upstream = aspectOf s .upstream ∧ s.channel.masts.downstream = aspectOf s .downstream ∧
    (s.inputs = none → s.channel.masts = ⟨.fault, .fault⟩)

/-- The zone count lies within 0..8 (R176). -/
def ZoneBounded (s : State) : Prop := s.channel.zoneCount ≤ 8

/-- The table has 64 entries and 64 generations, and its boundaries are in order (R1). -/
def TableShaped (s : State) : Prop :=
  s.table.entries.length = 64 ∧ s.table.generations.length = 64 ∧ s.table.tb ≤ s.table.qb ∧ s.table.qb ≤ 64

/-- The clock's minute of day and seconds are in range (R198). -/
def ClockInRange (s : State) : Prop := s.clock.minute < 1440 ∧ s.clock.seconds < 60

/-- L_eff is what R36 gives for the gauge status and the parameters in force; the accepted level is absent only while
the gauge is UNREAD, and lies in the gauge range (R31); the staleness timer does not run while the gauge is UNREAD
(R35). -/
def WaterCurrent (s : State) : Prop :=
  s.water.effective =
    (match s.water.gauge, s.water.accepted with
      | .unread, _ => s.params.highWater
      | .live, some v => v
      | .stale, some v => v + s.params.gaugeMargin
      | _, none => s.params.highWater) ∧
  (s.water.accepted = none ↔ s.water.gauge = .unread) ∧
  (s.water.gauge = .unread → s.water.staleness.isRunning = false) ∧
  ∀ v, s.water.accepted = some v → -400 ≤ v ∧ v ≤ 1200

/-- A port that is BUSY has a response in transit (R210, R213). -/
def BusyAnswers (s : State) : Prop :=
  ∀ p, (s.ports.get p).receiver = .busy → (s.ports.get p).response.isSome = true

/-- A tower whose brake is RELEASED or whose reference is not 0 stands under the interlocks: every in-service arm DOWN,
both bolts WITHDRAWN and, downward, the channel clear (R148, R149, R150). -/
def Interlocked (s : State) : Prop :=
  (∃ k, (s.drive.towers.get k).released = true ∨ (s.drive.towers.get k).reference ≠ 0) →
    (∀ a, (s.guard.arms.get a).state = .down ∨ (s.guard.arms.get a).state = .outOfService) ∧
    (∀ b, (s.drive.bolts.get b).state = .withdrawn) ∧
    (s.drive.direction = .down → s.channel.zoneCount = 0 ∧ beamsClear s = true)

/-- The due list holds every DUE entry once, by the ages of their stamps, the greatest first; the arrival order holds
every arrival entry that is not VACANT once; and no stamp in use is the counter's next one (R9, R10, R11). -/
def ListsOrdered (s : State) : Prop :=
  TableShaped s ∧ s.table.dueList.Nodup ∧ s.table.arrivalOrder.Nodup ∧
    (∀ i, i ∈ s.table.dueList ↔ i < 64 ∧ (entryAt s i).state = .due) ∧
    (∀ i, i ∈ s.table.arrivalOrder ↔ s.table.qb ≤ i ∧ i < 64 ∧ (entryAt s i).state ≠ .vacant) ∧
    s.table.dueList.Pairwise (fun i j => entryAge s j ≤ entryAge s i) ∧
    ∀ i, i < 64 → (entryAt s i).state = .due ∨ (entryAt s i).state.inOpening = true →
      ∃ x, (entryAt s i).dueStamp = some x ∧ x ≠ s.table.counter

/-- The phases an opening passes through (R73, R76). -/
def SeqState.inOpening : SeqState → Bool
  | .inactive | .roadOpen | .roadClosed | .positionLost | .recovering | .faultHold | .halted => false
  | _ => true

/-- The state of the entry that a slot names (R74); that of a DONE slot's entry is PENDING where it is of the timetable. -/
def SlotState.entryState : SlotState → EntryState
  | .proceedGiven => .cleared
  | .inZone => .transiting
  | .done => .concluded
  | .waiting => .assigned

/-- An opening is in progress only in SERVICE, in one of its phases or in a hold of one; it has at most 8 slots with
numbers of their own; a slot not DONE that names an entry names one of the table in the matching state, and no two name
the same; and an entry in one of those states is named by such a slot (R73, R74). -/
def SlotsMatched (s : State) : Prop :=
  TableShaped s ∧
  (∀ i, i < 64 → (entryAt s i).state.inOpening = true →
    ∃ o x, s.seq.opening = some o ∧ x ∈ o.slots ∧ x.state ≠ .done ∧ x.entry = some i) ∧
  ∀ o, s.seq.opening = some o →
    s.mode = .service ∧
    (s.seq.state.inOpening = true ∨
      (s.seq.state = .faultHold ∨ s.seq.state = .halted) ∧ ∃ q, s.seq.heldPhase = some q ∧ q.inOpening = true) ∧
    o.slots.length ≤ 8 ∧ o.slots.Pairwise (fun x y => x.serial ≠ y.serial) ∧
    (∀ x ∈ o.slots, x.serial < o.nextSerial) ∧
    (∀ x ∈ o.slots, x.state ≠ .done → ∀ i, x.entry = some i →
      i < 64 ∧ (entryAt s i).state = x.state.entryState) ∧
    o.slots.Pairwise (fun x y => x.state ≠ .done → y.state ≠ .done → x.entry.isSome = true → x.entry ≠ y.entry)

end Sys2Proof.Machine
end

