-- ==== Sys2Proof/Certificates/Slice0/Obligations.lean ====
section
/-!
DEFINITION. The statements about the block that the provers are asked to prove: the step and the ports, the
invariants and frames, then each family of commands.
-/

open Sys2Proof Sys2Proof.Machine

/-- For every command c and state s, the step of s with c in front of its queue is exec c on s with the queue's
rest. -/
def Obligations.StepRunsFront : Prop :=
    ∀ (c : Instr) (rest : List Instr) (s : State),
    step { s with pending := c :: rest } = exec c { s with pending := rest }

/-- For every command and every state the block answers a next state, and leaves the rest of the queue as it is. On
an empty queue (DESIGN CHOICE, log 1 and log 4, no rule of the spec): with no timer at its limit one millisecond
passes; with one due expiry, that expiry is executed; with several, one of them is, and the count of free
choices rises by 1. The passing of n ms: every running timer of real time counts on, none past its limit but an
occupancy timer that has reached it (R137), paused and stopped ones stay; so count the running warning counts,
the seconds since acceptance (up to 65535), the age of the pulse reference and the time since the last step;
nothing else changes, the planner's timers included, which count minute events. -/
def Obligations.EveryStepAnswers : Prop :=
    (∀ (c : Instr) (s : State), ∃ t, exec c s = .next t ∧ t.pending = s.pending) ∧
    (∀ s : State, s.pending = [] →
      (dueCommands s = [] → step s = .next (elapse 1 s)) ∧
      (∀ c, dueCommands s = [c] → step s = exec c s) ∧
      (2 ≤ (dueCommands s).length →
        ∃ c ∈ dueCommands s, step s = exec c { s with freeCount := s.freeCount + 1 })) ∧
    ∀ (n : Nat) (T : Timer → Timer) (s : State),
      (∀ k l, T (.running k l) = .running (min (k + n) l) l) → (∀ k l, T (.paused k l) = .paused k l) →
      (∀ k, T (.over k) = .over (k + n)) → T .stopped = .stopped →
      elapse n s = { s with
        water := { s.water with
          staleness := T s.water.staleness,
          sinceMs := s.water.sinceMs.map (fun k => min (k + n) (65535 * 1000)) },
        seq := { s.seq with
          windWait := T s.seq.windWait,
          opening := s.seq.opening.map (fun o => { o with
            slots := o.slots.map (fun x => { x with noShow := T x.noShow }) }) },
        guard := { s.guard with
          heads := s.guard.heads.map (fun h => { h with
            lamps := h.lamps.map (fun l => { l with proving := T l.proving, offCheck := T l.offCheck }) }),
          approaches := s.guard.approaches.map (fun a => { a with
            amberTimer := T a.amberTimer, flasher := T a.flasher,
            count := a.count.map (fun c => if c.status = .running then
              { c with counted := min (c.counted + n) (if c.doubled then 2 * c.base else c.base) } else c) }),
          arms := s.guard.arms.map (fun a => { a with retryWait := T a.retryWait, travel := T a.travel }),
          detectors := s.guard.detectors.map (fun d => { d with occupancy := T d.occupancy }),
          deck := { s.guard.deck with clear := T s.guard.deck.clear, wait := T s.guard.deck.wait } },
        drive := { s.drive with
          settle := T s.drive.settle,
          jog := s.drive.jog.map (fun j => { j with keepAlive := T j.keepAlive }),
          bolts := s.drive.bolts.map (fun b => { b with travel := T b.travel }) },
        channel := { s.channel with clearTimer := T s.channel.clearTimer },
        clock := { s.clock with
          reference := s.clock.reference.map (· + n), stepTimer := T s.clock.stepTimer,
          supervision := T s.clock.supervision, measuring := T s.clock.measuring,
          sinceStep := s.clock.sinceStep.map (· + n) } }

/-- Unknown code, permission, length and mode are checked in this order; the first that fails is answered with no
payload and nothing else happens. A request that passes them all is answered under its own code; with what, and
what it changes, the statements about the requests say. The payload lengths of requestRow are those R214 gives
but for two: CREATE_BOOKING's 17 bytes are log 23 (DEDUCED) and SET_REGIONS's 8 are log 20 (DESIGN CHOICE). -/
def Obligations.RequestDecoding : Prop :=
    (∀ (p : Port) (code : Byte) (payload : List Byte) (s : State),
      portFree s p = true → payload.length ≤ 249 → cataloguedCode code = false →
      exec (.unknownRequest p code payload) s =
        .next (answered p code.toNat .unknownRequest [] (taken p code.toNat payload s))) ∧
    ∀ (c : Instr) (p : Port) (row : CatalogueRow) (payload : List Byte) (s : State),
      requestRow c = some (p, row) → c.requestPayload = some payload → portFree s p = true →
      payload.length ≤ 249 →
      cataloguedCode (BitVec.ofNat 8 row.code) = true ∧
      (row.held p = false →
        exec c s = .next (answered p row.code .notPermitted [] (taken p row.code payload s))) ∧
      (row.held p = true → payload.length ≠ row.length →
        exec c s = .next (answered p row.code .malformed [] (taken p row.code payload s))) ∧
      (row.held p = true → payload.length = row.length → row.modes.admits s.mode = false →
        exec c s = .next (answered p row.code .wrongMode [] (taken p row.code payload s))) ∧
      (decoded c s = true → ∃ x out u, exec c s = .next (answered p row.code x out u))

/-- After POWER_ON the table, the water state, the planner, the sequence, the road guard, the drive, the channel
unit, the clock, the sampler, the parameters and the ports hold the values the state tables give; the straps and
encoder levels are those found. Every field of every block is named. The waiting commands and the count of free
choices are the model's own and stay (log 32); values the spec does not give are the model's: the arms, the two
verdicts, the drive part of R180 and the order of step 2 of R89 (log 7), the lamps' off-checks and the flasher
(log 8), the detectors' and the halt's marks (log 29), the planner's owed evaluation (log 11). -/
def Obligations.PowerOnState : Prop :=
    ∀ (x : PowerOnLevels) (s : State), ∃ t, exec (.powerOn x) s = .next t ∧
    t.pending = s.pending ∧ t.freeCount = s.freeCount ∧ t.mode = .configuring ∧ t.params = Parameters.default ∧
    t.inputs = none ∧
    (t.table.tb = 8 ∧ t.table.qb = 40 ∧ t.table.dueList = [] ∧ t.table.arrivalOrder = [] ∧ t.table.counter = 0 ∧
      t.table.lastLost = none ∧ t.table.firstDamaged = none ∧ t.table.moreDamaged = false ∧
      ∀ i, i < 64 → (entryAt t i).state = .vacant ∧ (generationAt t i).value = 0) ∧
    (t.water.accepted = none ∧ t.water.candidate = none ∧ t.water.gauge = .unread ∧ t.water.effective = 600 ∧
      t.water.sinceMs = none ∧ t.water.staleness = .stopped) ∧
    t.planner = {
      holdOff := .stopped, holdOffElapsed := false, roadPriority := false, roadPriorityTimer := .stopped,
      navigationClosed := false, queueCritical := false, evaluationOwed := false, maxRaised := .stopped } ∧
    t.seq = {
      state := .inactive, heldPhase := none, causes := 0, opening := none, summary := none,
      roadClosedByOperator := false, closureOrigin := none, counter := 0, windWait := .stopped,
      entryRaise := false } ∧
    (∀ h, t.guard.heads.get h = {
      inService := true, amberFail := false, redOneFail := false, redDark := false, currentWhenOff := false,
      lamps := (t.guard.heads.get h).lamps } ∧
      ∀ l, (t.guard.heads.get h).lamps.get l = {
        state := .unproven, output := false, proving := .stopped, offCheck := .running 0 250 }) ∧
    (∀ a, t.guard.approaches.get a = {
      phase := .red, command := false, amberTimer := .stopped, half := .a, flasher := .stopped,
      warning := .warned, count := none, permit := false }) ∧
    (∀ a, t.guard.arms.get a = {
      state := .fault, commandedEnd := .down, obstructions := 0, reversal := none, retryWait := .stopped,
      travel := .stopped, stoppedDirection := none, faultReason := none }) ∧
    (∀ d, t.guard.detectors.get d = {
      inService := true, occupiedLong := false, occupancy := .stopped, spent := false }) ∧
    t.guard.deck = { measurement := none, clear := .stopped, wait := .stopped, notClear := false } ∧
    t.guard.seatedLocked = false ∧ t.guard.halted = false ∧
    (∀ k, t.drive.towers.get k = {
      count := 0, phaseA := (x.encoders.get k).1, phaseB := (x.encoders.get k).2, position := 0,
      outOfRange := false, released := false, reference := 0, stopped := false, anchor := none,
      limitBefore := false }) ∧
    (∀ b, t.drive.bolts.get b = {
      state := .fault, reason := some .position, travel := .stopped, waiting := false }) ∧
    t.drive = {
      towers := t.drive.towers, valid := false, direction := .up, motion := .none, phase := none,
      holdReason := none, target := none, profile := 0, settle := .stopped, jog := none,
      lastZeroing := none, bolts := t.drive.bolts, armVerdict := false, downVerdict := false,
      stopAsked := false } ∧
    t.channel = {
      masts := ⟨.fault, .fault⟩, recognizers := ⟨none, none⟩, zoneCount := 0, zoneList := [],
      clearTimer := .stopped, clearRun := false, serving := none, servedLast := none, reliftArmed := false,
      deferredCheck := false, servingRuns := false, standing := false, levelRead := false } ∧
    t.clock = {
      minute := 0, seconds := 0, valid := false, lock := .free, reference := none, recaptureRun := 0,
      stepTimer := .running 0 1000, supervision := .stopped, early := false, lastMark := none,
      measuring := .stopped, sinceStep := none } ∧
    ∀ p, (t.ports.get p).station = (x.straps.get p).station ∧
      (t.ports.get p).baud = (match (x.straps.get p).firstBaudLine, (x.straps.get p).secondBaudLine with
        | false, false => .b9600
        | true, false => .b19200
        | false, true => .b38400
        | true, true => .b115200) ∧
      (t.ports.get p).receiver = .ignoring ∧ (t.ports.get p).buffer = [] ∧ (t.ports.get p).attention = 0 ∧
      (t.ports.get p).response = none ∧ attentionLine t p = false ∧
      ∀ k, (t.ports.get p).enable.getLsbD k = decide (k < match p with | .control => 24 | .harbour => 7)

/-- A break empties the receive buffer and puts the receiver in IGNORING; a response being sent goes on, and until
it has been sent address marks and requests at the port are ignored. While a port is BUSY or a response is being
sent, a request, an unknown request and an address mark at that port leave the whole state as it is. An address
mark at a free port opens a frame exactly when it names the port's station; a cause of discard in RECEIVING
leaves the receiver in IGNORING with no response, an early mark being itself taken as the next address mark; the
end of a response frees the port. That the buffer is empty after a discard and after every mark is log 24
(DEDUCED). Nothing outside the port's receiver changes. A response goes out as address mark, length, code,
status and payload, with the check of R209 over all of them behind, high byte first; each is one character of
eleven levels, a start bit at space, eight data bits with the least significant first, the mark bit, set in the
address mark alone, and a stop bit at mark, and they are sent without gaps. A character received with its stop
bit at space is a framing error, and any other one is read as it was sent. -/
def Obligations.ReceiverAndResponse : Prop :=
    (∀ (p : Port) (s : State), ∃ t, exec (.lineBreak p) s = .next t ∧
      t = { s with ports := t.ports } ∧ (∀ q, q ≠ p → t.ports.get q = s.ports.get q) ∧
      t.ports.get p = { s.ports.get p with receiver := .ignoring, buffer := [] } ∧
      ((s.ports.get p).response.isSome = true →
        (∀ value, exec (.addressMark p value) t = .next t) ∧
        ∀ c row, requestRow c = some (p, row) → exec c t = .next t)) ∧
    (∀ (c : Instr) (p : Port) (row : CatalogueRow) (s : State),
      requestRow c = some (p, row) → portFree s p = false → exec c s = .next s) ∧
    (∀ (p : Port) (code : Byte) (payload : List Byte) (s : State),
      portFree s p = false → exec (.unknownRequest p code payload) s = .next s) ∧
    (∀ (p : Port) (value : Byte) (s : State), portFree s p = false → exec (.addressMark p value) s = .next s) ∧
    (∀ (p : Port) (value : Byte) (s : State), portFree s p = true → ∃ t, exec (.addressMark p value) s = .next t ∧
      t = { s with ports := t.ports } ∧ (∀ q, q ≠ p → t.ports.get q = s.ports.get q) ∧
      t.ports.get p = { s.ports.get p with
        receiver := if value.toNat = (s.ports.get p).station.toNat then .receiving else .ignoring, buffer := [] }) ∧
    (∀ (p : Port) (cause : DiscardCause) (s : State),
      (s.ports.get p).receiver = .receiving → (s.ports.get p).response = none → cause.wf = true →
      (∀ body high low, cause = .badCheck body high low →
        frameCheck (s.ports.get p).station body ≠ high.zeroExtend 16 <<< 8 ||| low.zeroExtend 16) →
      ∃ t, exec (.frameDiscarded p cause) s = .next t ∧
        t = { s with ports := t.ports } ∧ (∀ q, q ≠ p → t.ports.get q = s.ports.get q) ∧
        t.ports.get p = { s.ports.get p with
          receiver := (match cause with
            | .earlyMark value => if value.toNat = (s.ports.get p).station.toNat then .receiving else .ignoring
            | _ => .ignoring),
          buffer := [] }) ∧
    (∀ (p : Port) (s : State), (s.ports.get p).response.isSome = true → ∃ t, exec (.responseSent p) s = .next t ∧
      t = { s with ports := t.ports } ∧ (∀ q, q ≠ p → t.ports.get q = s.ports.get q) ∧
      t.ports.get p = { s.ports.get p with
        response := none,
        receiver := if (s.ports.get p).receiver = .busy then .ignoring else (s.ports.get p).receiver }) ∧
    (∀ (r : PortRecord) (x : Response) (b : List Byte),
      b = [BitVec.ofNat 8 (x.payload.length + 2), BitVec.ofNat 8 x.code, BitVec.ofNat 8 x.status.ctorIdx] ++
        x.payload →
      (r.response = some x → transmitted r = { data := r.station.zeroExtend 8, mark := true } ::
        (b ++ put2 (crc16 (r.station.zeroExtend 8 :: b)).toNat).map (fun y => { data := y, mark := false })) ∧
      (r.response = none → transmitted r = [])) ∧
    (∀ r : PortRecord, transmitLevels r = (transmitted r).flatMap (fun c =>
      false :: (List.range 8).map (fun k => c.data.getLsbD k) ++ [c.mark, true])) ∧
    (∀ c : Character, receivedCharacter c.levels = some c) ∧
    (∀ x : Levels, receivedCharacter x = none ↔ x.getLsbD 10 = false) ∧
    ∀ b : Baud, characterTime b =
      11 / (match b with | .b9600 => 9600 | .b19200 => 19200 | .b38400 => 38400 | .b115200 => 115200)

/-- FETCH_ATTENTION: with an enabled source pending, the one of the lowest place is returned by its place and
removed from the pending set, with the number of enabled sources left and the whole pending set; with none, NONE
is returned and nothing changes. SET_ATTENTION_ENABLE: a set with a bit for no source of the port is refused
OUT_OF_RANGE; otherwise the enable set is replaced, the pending set stays and is sent. After both the line is
asserted exactly while the two sets meet. (R222, R223) -/
def Obligations.AttentionRequests : Prop :=
    (∀ (p : Port) (payload : List Byte) (s : State), decoded (.fetchAttention p payload) s = true →
      ((s.ports.get p).attention &&& (s.ports.get p).enable = 0 →
        exec (.fetchAttention p payload) s =
          .next (answered p 50 .ok ([0, 0] ++ putSources p (s.ports.get p).attention) (taken p 50 payload s))) ∧
      ∀ k, k < 24 → ((s.ports.get p).attention &&& (s.ports.get p).enable).getLsbD k = true →
        (∀ j, j < k → ((s.ports.get p).attention &&& (s.ports.get p).enable).getLsbD j = false) →
        ∃ left t, exec (.fetchAttention p payload) s = .next t ∧
          (∀ j, j < 24 → left.getLsbD j = ((s.ports.get p).attention.getLsbD j && j != k)) ∧
          t = answered p 50 .ok
            ([BitVec.ofNat 8 (k + 1),
              BitVec.ofNat 8 ((List.range 24).filter (fun j => (left &&& (s.ports.get p).enable).getLsbD j)).length] ++
              putSources p left)
            (setPort p { (taken p 50 payload s).ports.get p with attention := left } (taken p 50 payload s)) ∧
          (attentionLine t p = true ↔ left &&& (s.ports.get p).enable ≠ 0)) ∧
    ∀ (p : Port) (payload : List Byte) (s : State) (x : Nat), decoded (.setAttentionEnable p payload) s = true →
      x = (match p with
        | .control => byteAt payload 0 * 65536 + byteAt payload 1 * 256 + byteAt payload 2
        | .harbour => byteAt payload 0) →
      ((match p with | .control => 2 ^ 24 | .harbour => 2 ^ 7) ≤ x →
        exec (.setAttentionEnable p payload) s = .next (answered p 51 .outOfRange [] (taken p 51 payload s))) ∧
      (x < (match p with | .control => 2 ^ 24 | .harbour => 2 ^ 7) →
        ∃ t, exec (.setAttentionEnable p payload) s = .next t ∧
          t = answered p 51 .ok (putSources p (s.ports.get p).attention)
            (setPort p { (taken p 51 payload s).ports.get p with enable := BitVec.ofNat 24 x }
              (taken p 51 payload s)) ∧
          (t.ports.get p).attention = (s.ports.get p).attention ∧
          (attentionLine t p = true ↔ (s.ports.get p).attention &&& BitVec.ofNat 24 x ≠ 0))

/-- Masts apart and as R173 gives, L_eff as R36 gives, the clock in range, the zone count within 0..8, the table in
shape, every BUSY port answering, no tower commanded against an interlock, both lists in order, and the
opening's slots as R73 has them. -/
def Obligations.InvariantsHoldAtReset : Prop :=
    MastsApart State.reset ∧ MastsShown State.reset ∧ WaterCurrent State.reset ∧ ClockInRange State.reset ∧
    ZoneBounded State.reset ∧ TableShaped State.reset ∧ BusyAnswers State.reset ∧ Interlocked State.reset ∧
    ListsOrdered State.reset ∧ SlotsMatched State.reset

/-- If the two masts do not show PROCEED together before a step, they do not after it; and if each mast shows what
R173 gives for the state before a step, it does so for the state after it, FAULT until the first input sample. -/
def Obligations.MastsKept : Prop :=
    ∀ s t : State, step s = .next t → (MastsApart s → MastsApart t) ∧ (MastsShown s → MastsShown t)

/-- If L_eff is what R36 gives for the gauge status, the accepted level is absent only while UNREAD and lies in the
gauge range, and no staleness timer runs while UNREAD, the same holds after every step. -/
def Obligations.WaterCurrentKept : Prop :=
    ∀ s t : State, WaterCurrent s → step s = .next t → WaterCurrent t

/-- If before a step a tower with its brake RELEASED or a reference other than 0 stands under the interlocks of R148
to R150 (every in-service arm DOWN, both bolts WITHDRAWN and, for a downward motion, the zone count 0 and all
four beams clear), the same holds after it; and the consequences of any state leave it so. -/
def Obligations.InterlocksKept : Prop :=
    (∀ s t : State, Interlocked s → step s = .next t → Interlocked t) ∧ ∀ u : State, Interlocked (settle u)

/-- If the due list holds every DUE entry once by the age of its stamp, the greatest first, the arrival order every
arrival entry that is not VACANT once, and no stamp of an entry DUE or in the opening is the counter's next one,
the same holds after every step. -/
def Obligations.ListsKept : Prop :=
    ∀ s t : State, ListsOrdered s → step s = .next t → ListsOrdered t

/-- If an opening stands only in SERVICE in one of its phases or a hold of one, with at most 8 slots, each slot not
DONE that names an entry naming one whose state is ASSIGNED for WAITING, CLEARED for PROCEED_GIVEN and
TRANSITING for IN_ZONE, and no two the same, and every entry ASSIGNED, CLEARED or TRANSITING is named by a slot
not DONE of the opening in progress (none is without one), the same holds after every step. -/
def Obligations.SlotsKept : Prop :=
    ∀ s t : State, SlotsMatched s → step s = .next t → SlotsMatched t

/-- The minute of day stays below 1440 and the seconds below 60; the zone count stays within 0..8; the table keeps
64 entries and 64 generations and TB ≤ QB ≤ 64; a port that is BUSY has a response in transit. Each of these
four holds after every step if it holds before it. -/
def Obligations.BoundsKept : Prop :=
    ∀ s t : State, step s = .next t →
    (ClockInRange s → ClockInRange t) ∧ (ZoneBounded s → ZoneBounded t) ∧ (TableShaped s → TableShaped t) ∧
      (BusyAnswers s → BusyAnswers t)

/-- Parameters change only by SET_PARAMETER, the mode only by CONFIGURE and COMMISSION, TB and QB only by
SET_REGIONS, an enable set only by SET_ATTENTION_ENABLE, and all of them and the straps by POWER_ON. -/
def Obligations.SettingsKept : Prop :=
    ∀ (c : Instr) (s t : State), exec c s = .next t → (∀ x, c ≠ .powerOn x) →
    ((∀ p x, c ≠ .setParameter p x) → t.params = s.params) ∧
    ((∀ p x, c ≠ .configure p x) → (∀ p x, c ≠ .commission p x) → t.mode = s.mode) ∧
    ((∀ p x, c ≠ .setRegions p x) → t.table.tb = s.table.tb ∧ t.table.qb = s.table.qb) ∧
    ∀ q, (t.ports.get q).station = (s.ports.get q).station ∧ (t.ports.get q).baud = (s.ports.get q).baud ∧
      ((∀ p x, c ≠ .setAttentionEnable p x) → (t.ports.get q).enable = (s.ports.get q).enable)

/-- The clock's time and lock change only by the clock's commands and SET_TIME; the water levels only by
WATER_LEVEL, the staleness expiry and SET_PARAMETER; the readings only by INPUT_SAMPLE; zone count and
recognizers only by INPUT_SAMPLE and ZONE_RESET; all of them by POWER_ON. -/
def Obligations.FieldStateKept : Prop :=
    ∀ (c : Instr) (s t : State), exec c s = .next t → (∀ x, c ≠ .powerOn x) →
    ((∀ n, c ≠ .timePulseLeadingEdge n) → c ≠ .secondMark → c ≠ .minuteMarkCorrection →
      c ≠ .supervisionTimerExpiry → c ≠ .oscillatorStep → (∀ p x, c ≠ .setTime p x) →
      (∀ p x, c ≠ .clockStatus p x) →
      t.clock.minute = s.clock.minute ∧ t.clock.seconds = s.clock.seconds ∧ t.clock.valid = s.clock.valid ∧
        t.clock.lock = s.clock.lock ∧ t.clock.recaptureRun = s.clock.recaptureRun ∧
        t.clock.early = s.clock.early ∧ t.clock.lastMark = s.clock.lastMark) ∧
    ((∀ p x, c ≠ .waterLevel p x) → c ≠ .stalenessTimerExpiry → (∀ p x, c ≠ .setParameter p x) →
      t.water.accepted = s.water.accepted ∧ t.water.candidate = s.water.candidate ∧
        t.water.gauge = s.water.gauge ∧ t.water.effective = s.water.effective) ∧
    ((∀ x, c ≠ .inputSample x) → t.inputs = s.inputs) ∧
    ((∀ x, c ≠ .inputSample x) → t.channel.recognizers = s.channel.recognizers) ∧
    ((∀ x, c ≠ .inputSample x) → (∀ p x, c ≠ .zoneReset p x) → t.channel.zoneCount = s.channel.zoneCount)

/-- OPENING_STATUS, SEQUENCE_STATUS, ROAD_STATUS, DRIVE_STATUS and CHANNEL_STATUS, taken and decoded, are answered
OK with no other change (but the model's count of free choices, in ROAD_STATUS where it sends an occupancy time
too long for its two bytes: log 22, DESIGN CHOICE); QUEUE_STATUS of a sound table is answered OK and changes
nothing before the consequences. OPENING_STATUS sends 43 bytes and 12 for each slot with its slot count at
offset 42; QUEUE_STATUS begins with the numbers of DUE, of tide-held and of DUE arrival entries, SEQUENCE_STATUS
with mode and sequence state, ROAD_STATUS with the northern phase, CHANNEL_STATUS with the two masts. That
SEQUENCE_STATUS sends the mode first is log 21 (DESIGN CHOICE). -/
def Obligations.StatusRequestsOnlyAnswer : Prop :=
    (∀ p x s, decoded (.queueStatus p x) s = true → TableSound s →
      ∃ out, exec (.queueStatus p x) s = .next (answered p 12 .ok out (settle (taken p 12 x s))) ∧
        out.take 3 = [BitVec.ofNat 8 s.table.dueList.length,
          BitVec.ofNat 8 (s.table.dueList.filter (fun i => (entryAt s i).tideHold == some true)).length,
          BitVec.ofNat 8 (s.table.dueList.filter (fun i => decide (¬ i < s.table.tb ∧ ¬ i < s.table.qb))).length]) ∧
    (∀ p x s, decoded (.openingStatus p x) s = true →
      ∃ out, exec (.openingStatus p x) s = .next (answered p 18 .ok out (taken p 18 x s)) ∧
        out.length = 43 + 12 * (slots s).length ∧ out[42]? = some (BitVec.ofNat 8 (slots s).length)) ∧
    (∀ p x s, decoded (.sequenceStatus p x) s = true →
      ∃ out, exec (.sequenceStatus p x) s = .next (answered p 31 .ok out (taken p 31 x s)) ∧
        out.take 2 = [BitVec.ofNat 8 s.mode.ctorIdx, BitVec.ofNat 8 s.seq.state.ctorIdx]) ∧
    (∀ p x s, decoded (.roadStatus p x) s = true →
      ∃ out n, exec (.roadStatus p x) s = .next (answered p 39 .ok out { taken p 39 x s with freeCount := n }) ∧
        ((∀ d k, (s.guard.detectors.get d).occupancy.running? = some k → k < 6553600) → n = s.freeCount) ∧
        ((∃ d k, (s.guard.detectors.get d).occupancy.running? = some k ∧ 6553600 ≤ k) → n = s.freeCount + 1) ∧
        out.head? = some (BitVec.ofNat 8 s.guard.approaches.north.phase.ctorIdx)) ∧
    (∀ p x s, decoded (.driveStatus p x) s = true →
      ∃ out, exec (.driveStatus p x) s = .next (answered p 41 .ok out (taken p 41 x s)) ∧
        out.take 4 = putInt4 s.drive.towers.w.count) ∧
    ∀ p x s, decoded (.channelStatus p x) s = true →
      ∃ out, exec (.channelStatus p x) s = .next (answered p 43 .ok out (taken p 43 x s)) ∧
        out.take 2 = [BitVec.ofNat 8 s.channel.masts.upstream.ctorIdx,
          BitVec.ofNat 8 s.channel.masts.downstream.ctorIdx]

/-- For each of the 40 identifiers the response carries the value in force, the ends of the range (the low end of QB
being the TB in force), the default, whether it is changeable in SERVICE, and the mode; any other identifier is
refused OUT_OF_RANGE; nothing else changes. Yes is sent as 1 and no as 0 (log 19, DESIGN CHOICE). -/
def Obligations.ReadParameterReports : Prop :=
    ∀ (p : Port) (payload : List Byte) (s : State), decoded (.readParameter p payload) s = true →
    (40 ≤ byteAt payload 0 →
      exec (.readParameter p payload) s = .next (answered p 49 .outOfRange [] (taken p 49 payload s))) ∧
    ∀ lo hi dflt live v, parameterTable[byteAt payload 0]? = some (lo, hi, dflt, live) →
      (valuesInForce s)[byteAt payload 0]? = some v →
      exec (.readParameter p payload) s = .next (answered p 49 .ok
        (putInt4 v ++ putInt4 (if byteAt payload 0 = 1 then (s.table.tb : Int) else lo) ++ putInt4 hi ++
          putInt4 dflt ++ putBool live ++ put1 s.mode.ctorIdx) (taken p 49 payload s))

/-- Without an air draft the water figures are sent: accepted level, candidate, status, L_eff, seconds since
acceptance and the parameters of R48. With one in 100..6000 the need at L_eff with no allowance, the two
required lifts in steps of 100 mm, the verdicts of the four tests, and while the positions are valid the
available clearance and its verdict follow; an air draft out of range, or a presence byte other than 0 and 1, is
refused OUT_OF_RANGE. Verdicts of one byte, 1 for a test that finds its condition, are logs 19 and 21, the sizes
of the numbers, the lifts in two bytes among them, log 20 (DESIGN CHOICE); that the added figures are left out,
not sent as absent, where no air draft is named is log 21 too. -/
def Obligations.ClearanceStatusFigures : Prop :=
    ∀ (p : Port) (x base : List Byte) (s : State), decoded (.clearanceStatus p x) s = true →
    base = putOpt 2 putInt2 s.water.accepted ++ putOpt 2 putInt2 s.water.candidate ++
      put1 (match s.water.gauge with | .unread => 0 | .live => 1 | .stale => 2) ++ putInt2 s.water.effective ++
      putOpt 2 put2 (s.water.sinceMs.map (· / 1000)) ++ putInt4 s.params.closedClearance ++ putInt4 s.params.margin ++
      putInt4 s.params.tideAllowance ++ putInt4 s.params.gaugeMargin ++ putInt4 s.params.highWater ++
      putInt4 s.params.lowWater ++ putInt4 s.params.maxLift ++ putInt4 s.params.jumpLimit →
    (byteAt x 0 = 0 → exec (.clearanceStatus p x) s = .next (answered p 17 .ok base (taken p 17 x s))) ∧
    (2 ≤ byteAt x 0 ∨ byteAt x 0 = 1 ∧ (wordAt x 1 < 100 ∨ 6000 < wordAt x 1) →
      exec (.clearanceStatus p x) s = .next (answered p 17 .outOfRange [] (taken p 17 x s))) ∧
    ∀ a n m : Int, byteAt x 0 = 1 → 100 ≤ wordAt x 1 → wordAt x 1 ≤ 6000 → a = wordAt x 1 →
      n = a + s.params.margin + s.water.effective - s.params.closedClearance →
      m = s.params.closedClearance + min s.drive.towers.w.position s.drive.towers.e.position / 10 -
        s.water.effective →
      exec (.clearanceStatus p x) s = .next (answered p 17 .ok
        (base ++ putInt2 n ++ put2 (liftOfNeed n / 100).toNat ++
          put2 (liftOfNeed (n + s.params.tideAllowance) / 100).toNat ++
          putBool (decide (s.params.maxLift <
            10 * (a + s.params.margin + s.params.lowWater - s.params.closedClearance))) ++
          putBool (decide (n ≤ 0)) ++
          putBool (decide (a + s.params.margin + s.params.highWater - s.params.closedClearance ≤ 0)) ++
          putBool (decide (s.params.maxLift < liftOfNeed (n + s.params.tideAllowance))) ++
          putOpt 2 putInt2 (if s.drive.valid then some m else none) ++
          putOpt 1 putBool (if s.drive.valid then some (decide (a + s.params.margin ≤ m)) else none))
        (taken p 17 x s))

/-- A vessel, E or Z out of range is refused OUT_OF_RANGE. On a sound table a duplicate is refused DUPLICATE with
the tag of the first one, then TOO_TALL, NO_OPENING_NEEDED and, with no VACANT booked entry, FULL. An admitted
booking is answered OK with the tag of the lowest-numbered VACANT booked entry. The entry holds the vessel, E
and Z; with the clock valid and the minute in the window it is DUE with a new stamp, at the tail of the due
list, with its tide hold; else it is PENDING. The other entries stay. A DUE entry is then an event at the
planner, and the consequences follow. That E has no presence byte, so that Z stands at offsets 14 to 16, is log
23 (DEDUCED). -/
def Obligations.CreateBookingStores : Prop :=
    (∀ p x s, decoded (.createBooking p x) s = true → (∀ d, ¬ VesselOk x d) →
      exec (.createBooking p x) s = .next (answered p 1 .outOfRange [] (taken p 1 x s))) ∧
    (∀ p x s d, decoded (.createBooking p x) s = true → VesselOk x d → (byteAt x 14 = 0 ∨ byteAt x 14 = 1 ∧
      WindowInRange (wordAt x 12) (wordAt x 15)) → wordAt x 12 < 1440 → TableSound s →
      (∀ j, j < 64 → DuplicateAt x d s j → (∀ k, k < j → ¬ DuplicateAt x d s k) →
        exec (.createBooking p x) s = .next (answered p 1 .duplicate (tagOf s j) (settle (taken p 1 x s)))) ∧
      (NoDuplicate x d s → tooTall s.params (wordAt x 9) = true →
        exec (.createBooking p x) s = .next (answered p 1 .tooTall [] (settle (taken p 1 x s)))) ∧
      (NoDuplicate x d s → tooTall s.params (wordAt x 9) = false →
        fitsUnder s.params (wordAt x 9) s.params.highWater = true →
        exec (.createBooking p x) s = .next (answered p 1 .noOpeningNeeded [] (settle (taken p 1 x s)))) ∧
      (Admitted x s.params.highWater d s → (∀ j, s.table.tb ≤ j → j < s.table.qb → (entryAt s j).state ≠ .vacant) →
        exec (.createBooking p x) s = .next (answered p 1 .full [] (settle (taken p 1 x s))))) ∧
    (∀ p x s d, decoded (.createBooking p x) s = true → VesselOk x d → 1440 ≤ wordAt x 12 ∨ 2 ≤ byteAt x 14 ∨
        byteAt x 14 = 1 ∧ ¬ WindowInRange (wordAt x 12) (wordAt x 15) →
      exec (.createBooking p x) s = .next (answered p 1 .outOfRange [] (taken p 1 x s))) ∧
    ∀ (p : Port) (x : List Byte) (s : State) (d : Direction) (i e : Nat) (z : Option Nat) (due : Bool),
      decoded (.createBooking p x) s = true → TableSound s → Admitted x s.params.highWater d s →
      e = wordAt x 12 → e < 1440 →
      (byteAt x 14 = 0 ∧ z = none ∨ byteAt x 14 = 1 ∧ z = some (wordAt x 15) ∧ WindowInRange e (wordAt x 15)) →
      LowestVacant s s.table.tb s.table.qb i →
      due = (s.clock.valid && decide ((s.clock.minute + 1440 - e) % 1440 <
        match z with | some z => (z + 1440 - e) % 1440 | none => 720)) →
      ∃ u, exec (.createBooking p x) s =
          .next (answered p 1 .ok (tagOf s i) (settle (if due then dueEvent [i] u else u))) ∧
        entryAt u i = { Entry.vacant with
          state := if due then .due else .pending, identity := identityAt x 0, direction := d,
          airDraft := wordAt x 9, cls := byteAt x 11, earliest := some e, latest := z,
          dueStamp := if due then some s.table.counter else none,
          tideHold := if due then some (decide (s.params.maxLift < requiredLift s (wordAt x 9))) else none } ∧
        u.table.dueList = s.table.dueList ++ (if due then [i] else []) ∧
        u.table.counter = (if due then s.table.counter + 1 else s.table.counter) ∧ OthersKept i s u

/-- A vessel or recurrence out of range is refused OUT_OF_RANGE; on a sound table DUPLICATE with the first
duplicate's tag, TOO_TALL, NO_OPENING_NEEDED and, with no VACANT timetable entry, FULL follow in this order. An
admitted timetable request with a repeat of R3 and a base below it is answered OK with the tag of the lowest-
numbered VACANT timetable entry, which has skip no and is DUE exactly when the clock is valid and the clock slot
modulo r is b. A DUE entry is then an event at the planner, and the consequences follow. -/
def Obligations.CreateTimetableStores : Prop :=
    (∀ p x s, decoded (.createTimetable p x) s = true → (∀ d, ¬ VesselOk x d) →
      exec (.createTimetable p x) s = .next (answered p 2 .outOfRange [] (taken p 2 x s))) ∧
    (∀ p x s d, decoded (.createTimetable p x) s = true → VesselOk x d →
      byteAt x 13 ∈ [1, 2, 3, 4, 6, 8, 12, 16, 24, 32, 48, 96] → byteAt x 12 < byteAt x 13 → TableSound s →
      (∀ j, j < 64 → DuplicateAt x d s j → (∀ k, k < j → ¬ DuplicateAt x d s k) →
        exec (.createTimetable p x) s = .next (answered p 2 .duplicate (tagOf s j) (settle (taken p 2 x s)))) ∧
      (NoDuplicate x d s → tooTall s.params (wordAt x 9) = true →
        exec (.createTimetable p x) s = .next (answered p 2 .tooTall [] (settle (taken p 2 x s)))) ∧
      (NoDuplicate x d s → tooTall s.params (wordAt x 9) = false →
        fitsUnder s.params (wordAt x 9) s.params.highWater = true →
        exec (.createTimetable p x) s = .next (answered p 2 .noOpeningNeeded [] (settle (taken p 2 x s)))) ∧
      (Admitted x s.params.highWater d s → (∀ j, j < s.table.tb → (entryAt s j).state ≠ .vacant) →
        exec (.createTimetable p x) s = .next (answered p 2 .full [] (settle (taken p 2 x s))))) ∧
    (∀ p x s d, decoded (.createTimetable p x) s = true → VesselOk x d →
      byteAt x 13 ∉ [1, 2, 3, 4, 6, 8, 12, 16, 24, 32, 48, 96] ∨ byteAt x 13 ≤ byteAt x 12 →
      exec (.createTimetable p x) s = .next (answered p 2 .outOfRange [] (taken p 2 x s))) ∧
    ∀ (p : Port) (x : List Byte) (s : State) (d : Direction) (i b r : Nat) (due : Bool),
    decoded (.createTimetable p x) s = true → TableSound s → Admitted x s.params.highWater d s →
    b = byteAt x 12 → r = byteAt x 13 → r ∈ [1, 2, 3, 4, 6, 8, 12, 16, 24, 32, 48, 96] → b < r →
    LowestVacant s 0 s.table.tb i →
    due = (s.clock.valid && decide (s.clock.minute / 15 % r = b)) →
    ∃ u, exec (.createTimetable p x) s =
        .next (answered p 2 .ok (tagOf s i) (settle (if due then dueEvent [i] u else u))) ∧
      entryAt u i = { Entry.vacant with
        state := if due then .due else .pending, identity := identityAt x 0, direction := d, airDraft := wordAt x 9,
        cls := byteAt x 11, recurrence := some (b, r), skip := some false,
        dueStamp := if due then some s.table.counter else none,
        tideHold := if due then some (decide (s.params.maxLift < requiredLift s (wordAt x 9))) else none } ∧
      u.table.dueList = s.table.dueList ++ (if due then [i] else []) ∧ OthersKept i s u

/-- A posting whose class is filtered or whose direction is not accepted is answered FILTERED with nothing else
changed; the refusals of R13 follow, the fits-under test at L_eff. On a sound table an admitted posting takes
the lowest-numbered VACANT arrival entry; with none, the first CONCLUDED entry of the arrival order is retired
and used; with none, the first DUE one is overwritten: its tag becomes the last lost tag, it is retired and
QUEUE_OVERRUN is raised at both ports; with none, FULL. The entry is DUE at once with a new stamp, at the tail
of the due list and of the arrival order; the response carries its tag, with the next generation where it was
retired. The queue-critical flag is then set exactly where the DUE arrivals have reached the critical level, a
rise raising QUEUE_CRITICAL (R55); the entry is an event at the planner, and the consequences follow. -/
def Obligations.PostArrivalStores : Prop :=
    (∀ p x s d, decoded (.postArrival p x) s = true → VesselOk x d →
      (s.params.arrivalFilter.getLsbD (byteAt x 11) = true ∨
        s.params.arrivalFilter.getLsbD (match d with | .inbound => 8 | .outbound => 9) = false) →
      exec (.postArrival p x) s = .next (answered p 3 .filtered [] (taken p 3 x s))) ∧
    (∀ p x s, decoded (.postArrival p x) s = true → (∀ d, ¬ VesselOk x d) →
      exec (.postArrival p x) s = .next (answered p 3 .outOfRange [] (taken p 3 x s))) ∧
    (∀ p x s d, decoded (.postArrival p x) s = true → VesselOk x d →
      s.params.arrivalFilter.getLsbD (byteAt x 11) = false →
      s.params.arrivalFilter.getLsbD (match d with | .inbound => 8 | .outbound => 9) = true → TableSound s →
      (∀ j, j < 64 → DuplicateAt x d s j → (∀ k, k < j → ¬ DuplicateAt x d s k) →
        exec (.postArrival p x) s = .next (answered p 3 .duplicate (tagOf s j) (settle (taken p 3 x s)))) ∧
      (NoDuplicate x d s → tooTall s.params (wordAt x 9) = true →
        exec (.postArrival p x) s = .next (answered p 3 .tooTall [] (settle (taken p 3 x s)))) ∧
      (NoDuplicate x d s → tooTall s.params (wordAt x 9) = false →
        fitsUnder s.params (wordAt x 9) s.water.effective = true →
        exec (.postArrival p x) s = .next (answered p 3 .noOpeningNeeded [] (settle (taken p 3 x s)))) ∧
      (Admitted x s.water.effective d s → (∀ j, s.table.qb ≤ j → j < 64 → (entryAt s j).state ≠ .vacant) →
        (∀ j ∈ s.table.arrivalOrder, (entryAt s j).state ≠ .concluded ∧ (entryAt s j).state ≠ .due) →
        exec (.postArrival p x) s = .next (answered p 3 .full [] (settle (taken p 3 x s))))) ∧
    (∀ (p : Port) (x : List Byte) (s : State) (d : Direction) (i : Nat), decoded (.postArrival p x) s = true →
      Admitted x s.water.effective d s →
      s.params.arrivalFilter.getLsbD (byteAt x 11) = false →
      s.params.arrivalFilter.getLsbD (match d with | .inbound => 8 | .outbound => 9) = true → TableSound s →
      LowestVacant s s.table.qb 64 i →
      ∃ u, exec (.postArrival p x) s = .next (answered p 3 .ok (tagOf s i) (settle (dueEvent [i] u))) ∧
        entryAt u i = { Entry.vacant with
          state := .due, identity := identityAt x 0, direction := d, airDraft := wordAt x 9, cls := byteAt x 11,
          dueStamp := some s.table.counter,
          tideHold := some (decide (s.params.maxLift < requiredLift s (wordAt x 9))) } ∧ OthersKept i s u ∧
        u.planner.queueCritical = decide (s.params.queueCriticalLevel ≤ dueArrivals u.table) ∧
        (s.planner.queueCritical = false → u.planner.queueCritical = true →
          u.ports.control.attention.getLsbD 17 = true) ∧
        u.table.dueList = s.table.dueList ++ [i] ∧ u.table.arrivalOrder = s.table.arrivalOrder ++ [i]) ∧
    (∀ (p : Port) (x : List Byte) (s : State) (d : Direction) (i : Nat), decoded (.postArrival p x) s = true →
      Admitted x s.water.effective d s →
      s.params.arrivalFilter.getLsbD (byteAt x 11) = false →
      s.params.arrivalFilter.getLsbD (match d with | .inbound => 8 | .outbound => 9) = true → TableSound s →
      (∀ j, s.table.qb ≤ j → j < 64 → (entryAt s j).state ≠ .vacant) →
      s.table.arrivalOrder.find? (fun j => (entryAt s j).state == .concluded) = some i →
      ∃ u, exec (.postArrival p x) s = .next (answered p 3 .ok (putTag i ((generationAt s i).value + 1))
          (settle (dueEvent [i] u))) ∧
        entryAt u i = { Entry.vacant with
          state := .due, identity := identityAt x 0, direction := d, airDraft := wordAt x 9, cls := byteAt x 11,
          dueStamp := some s.table.counter,
          tideHold := some (decide (s.params.maxLift < requiredLift s (wordAt x 9))) } ∧ OthersKept i s u ∧
        u.planner.queueCritical = decide (s.params.queueCriticalLevel ≤ dueArrivals u.table) ∧
        (s.planner.queueCritical = false → u.planner.queueCritical = true →
          u.ports.control.attention.getLsbD 17 = true) ∧
        u.table.dueList = s.table.dueList.filter (· != i) ++ [i] ∧
        u.table.arrivalOrder = s.table.arrivalOrder.filter (· != i) ++ [i] ∧
        (generationAt u i).value = (generationAt s i).value + 1 ∧ u.table.lastLost = s.table.lastLost) ∧
    ∀ (p : Port) (x : List Byte) (s : State) (d : Direction) (i : Nat), decoded (.postArrival p x) s = true →
      Admitted x s.water.effective d s →
      s.params.arrivalFilter.getLsbD (byteAt x 11) = false →
      s.params.arrivalFilter.getLsbD (match d with | .inbound => 8 | .outbound => 9) = true → TableSound s →
      (∀ j, s.table.qb ≤ j → j < 64 → (entryAt s j).state ≠ .vacant) →
      (∀ j ∈ s.table.arrivalOrder, (entryAt s j).state ≠ .concluded) →
      s.table.arrivalOrder.find? (fun j => (entryAt s j).state == .due) = some i →
      ∃ u, exec (.postArrival p x) s = .next (answered p 3 .ok (putTag i ((generationAt s i).value + 1))
          (settle (dueEvent [i] u))) ∧
        entryAt u i = { Entry.vacant with
          state := .due, identity := identityAt x 0, direction := d, airDraft := wordAt x 9, cls := byteAt x 11,
          dueStamp := some s.table.counter,
          tideHold := some (decide (s.params.maxLift < requiredLift s (wordAt x 9))) } ∧ OthersKept i s u ∧
        u.planner.queueCritical = decide (s.params.queueCriticalLevel ≤ dueArrivals u.table) ∧
        (s.planner.queueCritical = false → u.planner.queueCritical = true →
          u.ports.control.attention.getLsbD 17 = true) ∧
        u.table.dueList = s.table.dueList.filter (· != i) ++ [i] ∧
        u.table.arrivalOrder = s.table.arrivalOrder.filter (· != i) ++ [i] ∧
        (generationAt u i).value = (generationAt s i).value + 1 ∧
        u.table.lastLost = some (i, (generationAt s i).value) ∧ u.ports.control.attention.getLsbD 18 = true ∧
        u.ports.harbour.attention.getLsbD 1 = true

/-- For AMEND, WITHDRAW, RELEASE, DELETE_TIMETABLE and LOOK_UP on a sound table: an index above 63 is refused
OUT_OF_RANGE; so is a generation above 15 (log 21); a generation other than the one held, and a tag naming a
VACANT entry, are refused STALE; nothing but the response changes before the consequences. At the harbour port
this stands for a timetable entry too: a bad tag is refused by the tag check before NOT_PERMITTED (log 25,
DEDUCED), and with a good tag AMEND, WITHDRAW and RELEASE are refused NOT_PERMITTED. -/
def Obligations.TagRefusals : Prop :=
    ∀ (p : Port) (x : List Byte) (s : State) (c : Instr) (row : CatalogueRow),
    c ∈ [Instr.amend p x, .withdraw p x, .release p x, .deleteTimetable p x, .lookUp p x] →
    requestRow c = some (p, row) → decoded c s = true → TableSound s →
    (64 ≤ byteAt x 0 ∨ 16 ≤ byteAt x 1 →
      exec c s = .next (answered p row.code .outOfRange [] (settle (taken p row.code x s)))) ∧
    (byteAt x 0 < 64 → byteAt x 1 < 16 → (generationAt s (byteAt x 0)).value.toNat ≠ byteAt x 1 →
      exec c s = .next (answered p row.code .stale [] (settle (taken p row.code x s)))) ∧
    (byteAt x 0 < 64 → (generationAt s (byteAt x 0)).value.toNat = byteAt x 1 →
      (entryAt s (byteAt x 0)).state = .vacant →
      exec c s = .next (answered p row.code .stale [] (settle (taken p row.code x s)))) ∧
    (Names s (byteAt x 0) (byteAt x 1) → p = .harbour → byteAt x 0 < s.table.tb → (∀ q y, c ≠ .lookUp q y) →
      exec c s = .next (answered p row.code .notPermitted [] (settle (taken p row.code x s))))

/-- On a sound table, an AMEND of a PENDING or DUE entry whose amended air draft is neither too tall nor fits under
is answered OK with the unchanged tag. Air draft and class take the named values; without a window the state and
the stamp stay; with one, E and Z are replaced whole and, with the clock valid, the entry is DUE inside the
window and PENDING outside. A DUE entry has its tide hold set from the amended air draft. An entry in an
opening, or DAMAGED, is refused FROZEN and a CONCLUDED one CONCLUDED. Of a PENDING or DUE one, values out of
range and a window for an entry not booked are refused OUT_OF_RANGE (a Z without E: log 36, DESIGN CHOICE), an
amended air draft TOO_TALL, and one that fits under NO_OPENING_NEEDED, the entry concluding NOT_NEEDED. That an
AMEND which names no air draft is put to both tests with the stored one is log 36 too (DESIGN CHOICE). -/
def Obligations.AmendStores : Prop :=
    ∀ (p : Port) (x : List Byte) (s : State) (i : Nat),
    decoded (.amend p x) s = true → TableSound s → i = byteAt x 0 → Names s i (byteAt x 1) →
    ¬ (p = .harbour ∧ i < s.table.tb) →
    ((entryAt s i).state = .assigned ∨ (entryAt s i).state = .cleared ∨ (entryAt s i).state = .transiting ∨
        (entryAt s i).state = .damaged →
      exec (.amend p x) s = .next (answered p 4 .frozen [] (settle (taken p 4 x s)))) ∧
    ((entryAt s i).state = .concluded →
      exec (.amend p x) s = .next (answered p 4 .concluded [] (settle (taken p 4 x s)))) ∧
    (AmendOutOfRange x ↔ amendFields x = none) ∧
    ((entryAt s i).state = .pending ∨ (entryAt s i).state = .due →
      AmendOutOfRange x ∨ byteAt x 7 = 1 ∧ ¬ (s.table.tb ≤ i ∧ i < s.table.qb) →
      exec (.amend p x) s = .next (answered p 4 .outOfRange [] (settle (taken p 4 x s)))) ∧
    (∀ air : Int, (entryAt s i).state = .pending ∨ (entryAt s i).state = .due → ¬ AmendOutOfRange x →
      (byteAt x 7 = 1 → s.table.tb ≤ i ∧ i < s.table.qb) →
      air = (if byteAt x 2 = 1 then (wordAt x 3 : Int) else (entryAt s i).airDraft) →
      (tooTall s.params air = true →
        exec (.amend p x) s = .next (answered p 4 .tooTall [] (settle (taken p 4 x s)))) ∧
      (tooTall s.params air = false → fitsUnder s.params air s.water.effective = true →
        ∃ u, exec (.amend p x) s = .next (answered p 4 .noOpeningNeeded [] (settle u)) ∧
          i ∉ u.table.dueList ∧ (∀ j, j ≠ i → entryAt u j = entryAt s j) ∧
          (s.table.tb ≤ i → (entryAt u i).state = .concluded ∧ (entryAt u i).outcome = some .notNeeded ∧
            u.ports.harbour.attention.getLsbD 3 = true) ∧
          (i < s.table.tb → (entryAt u i).state = .pending ∧ (entryAt u i).lastOutcome = some .notNeeded))) ∧
    ∀ (a : Option Int) (cl : Option Nat) (w : Option (Nat × Option Nat)) (air : Int),
      (entryAt s i).state = .pending ∨ (entryAt s i).state = .due →
      amendFields x = some (a, cl, w) → (w ≠ none → s.table.tb ≤ i ∧ i < s.table.qb) →
      air = a.getD (entryAt s i).airDraft → tooTall s.params air = false →
      fitsUnder s.params air s.water.effective = false →
      ∃ u v, exec (.amend p x) s = .next (answered p 4 .ok (tagOf s i) (settle v)) ∧
        v = (if (entryAt u i).state = .due then dueEvent [i] u else u) ∧ OthersKept i s u ∧
        (entryAt u i).airDraft = air ∧ (entryAt u i).cls = cl.getD (entryAt s i).cls ∧
        (entryAt u i).identity = (entryAt s i).identity ∧ (entryAt u i).direction = (entryAt s i).direction ∧
        ((entryAt u i).state = .due →
          (entryAt u i).tideHold = some (decide (s.params.maxLift < requiredLift s air))) ∧
        (w = none → (entryAt u i).state = (entryAt s i).state ∧ (entryAt u i).dueStamp = (entryAt s i).dueStamp ∧
          (entryAt u i).earliest = (entryAt s i).earliest ∧ (entryAt u i).latest = (entryAt s i).latest ∧
          u.table.dueList = s.table.dueList) ∧
        ∀ e z, w = some (e, z) → (entryAt u i).earliest = some e ∧ (entryAt u i).latest = z ∧
          (entryAt u i).state =
            (if s.clock.valid = false then (entryAt s i).state
             else if (s.clock.minute + 1440 - e) % 1440 <
                 (match z with | some z => (z + 1440 - e) % 1440 | none => 720) then .due
             else .pending)

/-- On a sound table: a PENDING or DUE booked or arrival entry concludes WITHDRAWN, off the due list, with
PASSAGE_CONCLUDED raised at the harbour port; a PENDING timetable entry takes skip yes and a DUE one returns to
PENDING, both with last outcome WITHDRAWN; an ASSIGNED entry ends the same way after its slot is removed and the
withdrawn count has risen; CLEARED and TRANSITING are refused COMMITTED, CONCLUDED CONCLUDED, DAMAGED FROZEN. -/
def Obligations.WithdrawConcludes : Prop :=
    ∀ (p : Port) (x : List Byte) (s : State) (i : Nat),
    decoded (.withdraw p x) s = true → TableSound s → i = byteAt x 0 → Names s i (byteAt x 1) →
    ¬ (p = .harbour ∧ i < s.table.tb) →
    ((entryAt s i).state = .pending ∨ (entryAt s i).state = .due → s.table.tb ≤ i →
      ∃ u, exec (.withdraw p x) s = .next (answered p 5 .ok [] (settle u)) ∧
        (entryAt u i).state = .concluded ∧ (entryAt u i).outcome = some .withdrawn ∧
        (entryAt u i).concludedMinute = some s.clock.minute ∧ (entryAt u i).holdAge = some 0 ∧
        (entryAt u i).dueStamp = (entryAt s i).dueStamp ∧ (entryAt u i).tideHold = none ∧
        i ∉ u.table.dueList ∧ u.ports.harbour.attention.getLsbD 3 = true ∧
        ∀ j, j ≠ i → entryAt u j = entryAt s j) ∧
    ((entryAt s i).state = .pending → i < s.table.tb →
      ∃ u, exec (.withdraw p x) s = .next (answered p 5 .ok [] (settle u)) ∧
        entryAt u i = { entryAt s i with skip := some true, lastOutcome := some .withdrawn } ∧
        ∀ j, j ≠ i → entryAt u j = entryAt s j) ∧
    ((entryAt s i).state = .due → i < s.table.tb →
      ∃ u, exec (.withdraw p x) s = .next (answered p 5 .ok [] (settle u)) ∧
        (entryAt u i).state = .pending ∧ (entryAt u i).lastOutcome = some .withdrawn ∧
        (entryAt u i).dueStamp = none ∧ i ∉ u.table.dueList ∧ ∀ j, j ≠ i → entryAt u j = entryAt s j) ∧
    ((entryAt s i).state = .assigned →
      ∃ u, exec (.withdraw p x) s = .next (answered p 5 .ok [] (settle (afterFreed u))) ∧
        (s.table.tb ≤ i → (entryAt u i).state = .concluded ∧ (entryAt u i).outcome = some .withdrawn) ∧
        (i < s.table.tb → (entryAt u i).state = .pending ∧ (entryAt u i).lastOutcome = some .withdrawn) ∧
        ∀ o y, s.seq.opening = some o → o.slots.find? (fun y => y.entry == some i && y.state != .done) = some y →
          ∃ o', u.seq.opening = some o' ∧ o'.withdrawn = o.withdrawn + 1 ∧
            o'.slots = o.slots.filter (fun k => k.serial != y.serial)) ∧
    ((entryAt s i).state = .cleared ∨ (entryAt s i).state = .transiting →
      exec (.withdraw p x) s = .next (answered p 5 .committed [] (settle (taken p 5 x s)))) ∧
    ((entryAt s i).state = .concluded →
      exec (.withdraw p x) s = .next (answered p 5 .concluded [] (settle (taken p 5 x s)))) ∧
    ((entryAt s i).state = .damaged →
      exec (.withdraw p x) s = .next (answered p 5 .frozen [] (settle (taken p 5 x s))))

/-- On a sound table. RELEASE of a CONCLUDED or DAMAGED entry is answered OK: the entry becomes VACANT, its
generation advances, it stands in no list, and the damage summary stays; any other state is refused
NOT_CONCLUDED, and a timetable entry named from the harbour port NOT_PERMITTED. DELETE_TIMETABLE of a tag
outside the timetable region is refused OUT_OF_RANGE; a PENDING or DUE timetable entry is retired and answered
OK; one in any other state is refused FROZEN, and a DAMAGED one is retired by RELEASE. (R20, R21) -/
def Obligations.EntriesRetired : Prop :=
    (∀ (p : Port) (x : List Byte) (s : State) (i : Nat),
      decoded (.release p x) s = true → TableSound s → i = byteAt x 0 → Names s i (byteAt x 1) →
      (p = .harbour ∧ i < s.table.tb →
        exec (.release p x) s = .next (answered p 6 .notPermitted [] (settle (taken p 6 x s)))) ∧
      (¬ (p = .harbour ∧ i < s.table.tb) →
        (entryAt s i).state = .concluded ∨ (entryAt s i).state = .damaged →
        ∃ u, exec (.release p x) s = .next (answered p 6 .ok [] (settle u)) ∧
          entryAt u i = Entry.vacant ∧
        (generationAt u i).value = (generationAt s i).value + 1 ∧ i ∉ u.table.dueList ∧
        i ∉ u.table.arrivalOrder ∧ (∀ j, j ≠ i → entryAt u j = entryAt s j) ∧
        u.table.firstDamaged = s.table.firstDamaged ∧ u.table.moreDamaged = s.table.moreDamaged) ∧
      (¬ (p = .harbour ∧ i < s.table.tb) →
        (entryAt s i).state ≠ .concluded → (entryAt s i).state ≠ .damaged →
        exec (.release p x) s = .next (answered p 6 .notConcluded [] (settle (taken p 6 x s))))) ∧
    ∀ (p : Port) (x : List Byte) (s : State) (i : Nat),
      decoded (.deleteTimetable p x) s = true → TableSound s → i = byteAt x 0 → Names s i (byteAt x 1) →
      (s.table.tb ≤ i →
        exec (.deleteTimetable p x) s = .next (answered p 7 .outOfRange [] (settle (taken p 7 x s)))) ∧
      (i < s.table.tb → (entryAt s i).state = .pending ∨ (entryAt s i).state = .due →
        ∃ u, exec (.deleteTimetable p x) s = .next (answered p 7 .ok [] (settle u)) ∧
          entryAt u i = Entry.vacant ∧
        (generationAt u i).value = (generationAt s i).value + 1 ∧ i ∉ u.table.dueList ∧
        i ∉ u.table.arrivalOrder ∧ (∀ j, j ≠ i → entryAt u j = entryAt s j) ∧
        u.table.firstDamaged = s.table.firstDamaged ∧ u.table.moreDamaged = s.table.moreDamaged) ∧
      (i < s.table.tb → (entryAt s i).state ≠ .pending → (entryAt s i).state ≠ .due →
        exec (.deleteTimetable p x) s = .next (answered p 7 .frozen [] (settle (taken p 7 x s)))) ∧
      (i < s.table.tb → (entryAt s i).state = .damaged →
        ∃ u, exec (.release p x) s = .next (answered p 6 .ok [] (settle u)) ∧
          entryAt u i = Entry.vacant)

/-- LOOK_UP sends tag and state, in 3 bytes for a DAMAGED entry, and the record's further fields in the order of
R225, 46 bytes in all, a field that may be absent with its presence byte (its yes and no as 1 and 0: log 19,
DESIGN CHOICE); FIND sends the tags of the live entries of an identity in index order; LIST sends up to 16 tags
of entries at or above the start whose state is in the set, and the next such index, where to continue; LIST_DUE
sends up to 16 tags from a position with the list's length. Nothing but the response changes before the
consequences. That the tags are sent with no count before them, and which index LIST continues at, is log 21
(DESIGN CHOICE). -/
def Obligations.TableReadsAnswer : Prop :=
    (∀ p x s i e, decoded (.lookUp p x) s = true → TableSound s → i = byteAt x 0 → Names s i (byteAt x 1) →
      e = entryAt s i →
      ∃ out, exec (.lookUp p x) s = .next (answered p 8 .ok out (settle (taken p 8 x s))) ∧
        out = [BitVec.ofNat 8 i, (generationAt s i).value.zeroExtend 8, BitVec.ofNat 8 e.state.ctorIdx] ++
          (if e.state = .damaged then [] else
            put1 (if i < s.table.tb then 0 else if i < s.table.qb then 1 else 2) ++ e.identity ++
              put1 e.direction.ctorIdx ++ putInt2 e.airDraft ++ put1 e.cls ++ putOpt 2 put2 e.earliest ++
              putOpt 2 put2 e.latest ++ putOpt 2 (fun (r : Nat × Nat) => put1 r.1 ++ put1 r.2) e.recurrence ++
              putOpt 1 putBool e.skip ++ putOpt 1 (fun (o : PassageOutcome) => put1 o.ctorIdx) e.lastOutcome ++
              putOpt 2 (fun (n : BitVec 16) => put2 n.toNat) e.dueStamp ++ putOpt 1 putBool e.tideHold ++
              putOpt 1 putBool e.lapseMark ++ putOpt 2 (fun (n : BitVec 16) => put2 n.toNat) e.openingNumber ++
              putOpt 1 (fun (o : PassageOutcome) => put1 o.ctorIdx) e.outcome ++
              putOpt 2 put2 e.concludedMinute ++ putOpt 1 put1 e.holdAge) ∧
        (e.state = .damaged → out.length = 3) ∧
        (e.state ≠ .damaged → e.identity.length = 8 → out.length = 46)) ∧
    (∀ p x s, decoded (.find p x) s = true → TableSound s → identityOk (identityAt x 0) = true →
      exec (.find p x) s = .next (answered p 9 .ok
        (((List.range 64).filter (fun i =>
          (entryAt s i).state.live && (entryAt s i).identity == identityAt x 0)).flatMap (tagOf s))
        (settle (taken p 9 x s)))) ∧
    (∀ p x s l, decoded (.list p x) s = true → TableSound s → byteAt x 1 < 64 →
      l = (List.range 64).filter (fun i =>
        decide (byteAt x 1 ≤ i) && (byteAt x 0).testBit (entryAt s i).state.ctorIdx) →
      exec (.list p x) s = .next (answered p 10 .ok
        ((l.take 16).flatMap (tagOf s) ++ putOpt 1 put1 (l.drop 16).head?) (settle (taken p 10 x s)))) ∧
    ∀ p x s, decoded (.listDue p x) s = true → TableSound s →
      exec (.listDue p x) s = .next (answered p 11 .ok
        (((s.table.dueList.drop (byteAt x 0)).take 16).flatMap (tagOf s) ++
          [BitVec.ofNat 8 s.table.dueList.length]) (settle (taken p 11 x s)))

/-- CLEAR_DAMAGE empties the damage summary and changes nothing else. CLEAR_TABLE leaves every entry VACANT, every
generation 0, both lists empty and the counter 0, and keeps TB and QB; the count of DUE arrivals is reported, so
that the queue-critical flag falls, an evaluation being owed where it was set (log 11, DESIGN CHOICE).
SET_REGIONS refuses values out of range and, on a sound table, a boundary that moves over an entry not VACANT;
else it changes the two boundaries alone. That TB and QB are sent as four-byte values is log 20 (DESIGN CHOICE). -/
def Obligations.WholeTableRequests : Prop :=
    (∀ p x s, decoded (.clearDamage p x) s = true →
      exec (.clearDamage p x) s = .next (answered p 13 .ok []
        { taken p 13 x s with table := { s.table with firstDamaged := none, moreDamaged := false } })) ∧
    (∀ p x s, decoded (.clearTable p x) s = true →
      ∃ u, exec (.clearTable p x) s = .next (answered p 14 .ok [] (settle u)) ∧
        u.table = {
          tb := s.table.tb, qb := s.table.qb, entries := List.replicate 64 Entry.vacant,
          generations := List.replicate 64 ⟨0, true⟩, dueList := [], arrivalOrder := [], counter := 0,
          lastLost := none, firstDamaged := none, moreDamaged := false } ∧
        u = refreshQueueCritical { taken p 14 x s with table := u.table } ∧
        (1 ≤ s.params.queueCriticalLevel → u = { taken p 14 x s with
          table := u.table,
          planner := { s.planner with
            queueCritical := false,
            evaluationOwed := s.planner.evaluationOwed ||
              (s.planner.queueCritical && s.seq.opening.isNone) } })) ∧
    ∀ p x s, decoded (.setRegions p x) s = true →
      (longAt x 0 < 0 ∨ 64 < longAt x 0 ∨ longAt x 4 < longAt x 0 ∨ 64 < longAt x 4 →
        exec (.setRegions p x) s = .next (answered p 15 .outOfRange [] (taken p 15 x s))) ∧
      ∀ tb qb : Nat, (tb : Int) = longAt x 0 → (qb : Int) = longAt x 4 → tb ≤ qb → qb ≤ 64 → TableSound s →
        ((∃ i, i < 64 ∧ kindOf s.table i ≠ kindOf { s.table with tb := tb, qb := qb } i ∧
            (entryAt s i).state ≠ .vacant) →
          exec (.setRegions p x) s = .next (answered p 15 .regionInUse [] (settle (taken p 15 x s)))) ∧
        ((∀ i, i < 64 → kindOf s.table i ≠ kindOf { s.table with tb := tb, qb := qb } i →
            (entryAt s i).state = .vacant) →
          exec (.setRegions p x) s = .next (answered p 15 .ok []
            (settle { taken p 15 x s with table := { s.table with tb := tb, qb := qb } })))

/-- The need is A + M + X + L − C0; a need of at most 0 gives lift 0, a greater one the least multiple of 100 mm
that covers it; over the ranges the need lies in −2280..7600 and the lift in 0..76000; and for Hmax a multiple
of 100 the lift exceeds Hmax exactly when the need exceeds Hmax / 10. (R39) -/
def Obligations.RequiredLift : Prop :=
    ∀ (p : Parameters) (a x l n : Int), n = need p a l x →
    n = a + p.margin + x + l - p.closedClearance ∧
    (n ≤ 0 → liftOfNeed n = 0) ∧
    (0 < n → ∃ k, liftOfNeed n = 100 * k ∧ 10 * (k - 1) < n ∧ n ≤ 10 * k) ∧
    (0 ≤ p.maxLift → p.maxLift % 100 = 0 → (p.maxLift < liftOfNeed n ↔ p.maxLift / 10 < n)) ∧
    (100 ≤ a → a ≤ 6000 → 20 ≤ p.margin → p.margin ≤ 300 → 0 ≤ x → x ≤ 100 → -400 ≤ l → l ≤ 1400 →
      200 ≤ p.closedClearance → p.closedClearance ≤ 2000 →
      -2280 ≤ n ∧ n ≤ 7600 ∧ 0 ≤ liftOfNeed n ∧ liftOfNeed n ≤ 76000)

/-- A reading is clamped to −400..1200, with GAUGE_RANGE where that changes it. With no accepted level, within the
jump limit of it, or within the jump limit of the candidate, it is accepted: accepted level, no candidate, LIVE,
seconds 0, staleness timer started afresh, L_eff the reading. Otherwise it becomes the candidate, GAUGE_JUMP is
raised where none was held, and nothing else changes. The clamped mark is sent as 1 for yes (log 19, DESIGN
CHOICE). At the staleness expiry the gauge status is STALE, the timer stays stopped, the accepted level is kept,
L_eff is the accepted level and the fault margin, GAUGE_STALE is raised at both ports, and a water event
follows; that time runs on to the expiry, and that a timer which does not run gives none, is log 2 (DESIGN
CHOICE). -/
def Obligations.GaugeReadings : Prop :=
    (∀ (x : List Byte) (s : State) (v c : Int), decoded (.waterLevel .harbour x) s = true →
      v = signedAt x 0 → c = max (-400) (min v 1200) →
      ((s.water.accepted = none ∨ (∃ a, s.water.accepted = some a ∧ |c - a| ≤ s.params.jumpLimit) ∨
          (∃ a k, s.water.accepted = some a ∧ s.water.candidate = some k ∧ |c - k| ≤ s.params.jumpLimit)) →
        ∃ t out, exec (.waterLevel .harbour x) s = .next t ∧
          t.ports.harbour.response = some { code := 16, status := .ok, payload := out } ∧
          out = [if s.water.accepted = none ∨ ∃ a, s.water.accepted = some a ∧ |c - a| ≤ s.params.jumpLimit then 0
              else 1] ++ putBool (decide (c ≠ v)) ++ [1] ++ putInt2 c ∧
          (c ≠ v → t.ports.control.attention.getLsbD 13 = true) ∧
          t.water = {
            accepted := some c, candidate := none, gauge := .live,
            staleness := .running 0 (1000 * s.params.staleTime), effective := c, sinceMs := some 0 }) ∧
      (∀ a, s.water.accepted = some a → ¬ |c - a| ≤ s.params.jumpLimit →
        (∀ k, s.water.candidate = some k → ¬ |c - k| ≤ s.params.jumpLimit) →
        exec (.waterLevel .harbour x) s = .next (answered .harbour 16 .ok
          ([2] ++ putBool (decide (c ≠ v)) ++ put1 s.water.gauge.ctorIdx ++ putInt2 s.water.effective)
          { taken .harbour 16 x s with
            water := { s.water with candidate := some c },
            ports := { (taken .harbour 16 x s).ports with
              control := { s.ports.control with
                attention := s.ports.control.attention ||| (if c ≠ v then 1#24 <<< 13 else 0) |||
                  (if s.water.candidate = none then 1#24 <<< 12 else 0) } } }))) ∧
    ∀ s : State,
      (∀ k l, s.water.staleness = .running k l → ∃ u, exec .stalenessTimerExpiry s = .next (settle (waterEvent u)) ∧
        u.water.gauge = .stale ∧ u.water.staleness = .stopped ∧ u.water.accepted = s.water.accepted ∧
        u.water.candidate = s.water.candidate ∧
        (∀ v, s.water.accepted = some v → u.water.effective = v + s.params.gaugeMargin) ∧
        u.ports.control.attention.getLsbD 11 = true ∧ u.ports.harbour.attention.getLsbD 2 = true ∧
        (settle (waterEvent u)).water = u.water) ∧
      (s.water.staleness.isRunning = false → exec .stalenessTimerExpiry s = .next s)

/-- In CONFIGURING it is refused WRONG_MODE; without an opening, or with a slot not DONE, NOT_READY; with the
closing call already set it is answered OK and changes nothing; otherwise the closing call is set with cause
CLOSE_SPAN and it is answered OK. (R69) -/
def Obligations.CloseSpanSetsCall : Prop :=
    ∀ (x : List Byte) (s : State), portFree s .control = true → x = [] →
    (s.mode = .configuring →
      exec (.closeSpan .control x) s = .next (answered .control 20 .wrongMode [] (taken .control 20 x s))) ∧
    (s.mode = .service → s.seq.opening = none →
      exec (.closeSpan .control x) s = .next (answered .control 20 .notReady [] (taken .control 20 x s))) ∧
    ∀ o, s.mode = .service → s.seq.opening = some o →
      ((∃ y ∈ o.slots, y.state ≠ .done) →
        exec (.closeSpan .control x) s = .next (answered .control 20 .notReady [] (taken .control 20 x s))) ∧
      ((∀ y ∈ o.slots, y.state = .done) → o.closingCause.isSome = true →
        exec (.closeSpan .control x) s = .next (answered .control 20 .ok [] (taken .control 20 x s))) ∧
      ((∀ y ∈ o.slots, y.state = .done) → o.closingCause = none →
        ∃ u o', exec (.closeSpan .control x) s = .next (answered .control 20 .ok [] (settle u)) ∧
          u.seq.opening = some o' ∧ o'.closingCause = some .closeSpan ∧ o'.slots = o.slots ∧
          u.planner.maxRaised = .stopped ∧ u.seq.state = s.seq.state)

/-- Refused NOT_READY unless the sequence is ROAD_OPEN or ROAD_CLOSED with the road-priority flag clear. Otherwise
the opening counter advances, an opening record with cause OPERATOR and that number is opened, an operator lift
exactly when no slot was filled, OPENING_STARTED is raised at the harbour port, WARNING is entered from
ROAD_OPEN and DECK_CLEARING from ROAD_CLOSED, and the response carries the number. -/
def Obligations.OpenNowStarts : Prop :=
    ∀ (p : Port) (x : List Byte) (s : State), decoded (.openNow p x) s = true →
    (s.planner.roadPriority = true ∨ (s.seq.state ≠ .roadOpen ∧ s.seq.state ≠ .roadClosed) →
      exec (.openNow p x) s = .next (answered p 19 .notReady [] (taken p 19 x s))) ∧
    (s.planner.roadPriority = false → s.seq.state = .roadOpen ∨ s.seq.state = .roadClosed →
      ∃ u o, exec (.openNow p x) s =
          .next (answered p 19 .ok (put2 (s.seq.counter + 1).toNat) (settle u)) ∧
        u.seq.opening = some o ∧ o.number = s.seq.counter + 1 ∧ o.cause = .operator ∧
        o.operatorLift = o.slots.isEmpty ∧ o.closingCause = none ∧ o.startMinute = s.clock.minute ∧
        u.seq.counter = s.seq.counter + 1 ∧
        u.seq.state = (if s.seq.state = .roadOpen then .warning else .deckClearing) ∧
        u.ports.harbour.attention.getLsbD 4 = true)

/-- Accepted in ROAD_OPEN, ROAD_CLOSED, BARRIERS_RAISING, RAISED, and, unless an operator closure from POSITION_LOST
runs, in WARNING, ENTRY_CLOSING and DECK_CLEARING, with the flag set and its timer started; TOO_LATE in
EXIT_CLOSING to LOCKING otherwise; NOT_READY elsewhere. A closure given up ends in ROAD_OPEN from WARNING and in
BARRIERS_RAISING or ROAD_CLOSED from the others; its opening has the closing cause ROAD_PRIORITY, or the one it
had before, in the record, or in the summary where it ends with ROAD_OPEN or ROAD_CLOSED; an operator closure
loses its flag and origin. ROAD_PRIORITY_END clears flag and timer. -/
def Obligations.RoadPriorityByState : Prop :=
    (∀ (p : Port) (x : List Byte) (s : State), decoded (.roadPriority p x) s = true →
      (s.seq.state = .roadOpen ∨ s.seq.state = .roadClosed ∨ s.seq.state = .barriersRaising ∨
          s.seq.state = .raised →
        ∃ u, exec (.roadPriority p x) s = .next (answered p 22 .ok [] (settle u)) ∧
          u.planner.roadPriority = true ∧
          u.planner.roadPriorityTimer = .running 0 s.params.roadPriorityTime ∧ u.seq.state = s.seq.state ∧
          (∀ o, s.seq.opening = some o → o.closingCause = none →
            ∃ o', u.seq.opening = some o' ∧ o'.closingCause = some .roadPriority)) ∧
      (s.seq.state = .warning ∨ s.seq.state = .entryClosing ∨ s.seq.state = .deckClearing →
        s.seq.closureOrigin ≠ some .positionLost →
        ∃ u, exec (.roadPriority p x) s = .next (answered p 22 .ok [] (settle u)) ∧
          u.planner.roadPriority = true ∧
          u.planner.roadPriorityTimer = .running 0 s.params.roadPriorityTime ∧
          (s.seq.state = .warning → u.seq.state = .roadOpen ∧ u.seq.opening = none) ∧
          (s.seq.state ≠ .warning → u.seq.state =
            (if s.seq.opening.isSome ∧ s.seq.roadClosedByOperator = true then .roadClosed
             else .barriersRaising)) ∧
          (∀ o, s.seq.opening = some o →
            (u.seq.state = .barriersRaising → ∃ o', u.seq.opening = some o' ∧ o'.number = o.number ∧
              o'.closingCause = some (o.closingCause.getD .roadPriority)) ∧
            (u.seq.state ≠ .barriersRaising → u.seq.opening = none ∧ ∃ z, u.seq.summary = some z ∧
              z.number = o.number ∧ z.endState = u.seq.state ∧
              z.closingCause = some (o.closingCause.getD .roadPriority))) ∧
          (s.seq.opening = none → u.seq.roadClosedByOperator = false ∧ u.seq.closureOrigin = none)) ∧
      (s.seq.state = .warning ∨ s.seq.state = .entryClosing ∨ s.seq.state = .deckClearing ∨
          s.seq.state = .exitClosing → s.seq.closureOrigin = some .positionLost →
        exec (.roadPriority p x) s = .next (answered p 22 .notReady [] (taken p 22 x s))) ∧
      (s.seq.state = .windWait ∨ s.seq.state = .unlocking ∨ s.seq.state = .lifting ∨ s.seq.state = .lowering ∨
          s.seq.state = .locking ∨ (s.seq.state = .exitClosing ∧ s.seq.closureOrigin ≠ some .positionLost) →
        exec (.roadPriority p x) s = .next (answered p 22 .tooLate [] (taken p 22 x s))) ∧
      (s.seq.state = .positionLost ∨ s.seq.state = .recovering ∨ s.seq.state = .faultHold ∨
          s.seq.state = .halted →
        exec (.roadPriority p x) s = .next (answered p 22 .notReady [] (taken p 22 x s)))) ∧
    ∀ (p : Port) (x : List Byte) (s : State), decoded (.roadPriorityEnd p x) s = true →
      ∃ u, exec (.roadPriorityEnd p x) s = .next (answered p 23 .ok [] u) ∧
        (s.planner.roadPriority = false →
          u = { taken p 23 x s with planner := { s.planner with roadPriorityTimer := .stopped } }) ∧
        (s.planner.roadPriority = true → ∃ v,
          v = { taken p 23 x s with
            planner := { s.planner with roadPriority := false, roadPriorityTimer := .stopped } } ∧
          u = settle (if s.seq.opening.isSome then v else evaluateStart v))

/-- Both are accepted in both modes and answered OK whatever the flag was. CLOSE_NAVIGATION changes nothing else;
OPEN_NAVIGATION is followed by a start evaluation where no opening is in progress. While the flag is set,
condition (a) holds only through ROAD_CLOSED and condition (c) does not hold. (R54) -/
def Obligations.NavigationFlag : Prop :=
    (∀ (x : List Byte) (s : State), portFree s .control = true → x = [] →
      exec (.closeNavigation .control x) s = .next (answered .control 24 .ok []
        { taken .control 24 x s with planner := { s.planner with navigationClosed := true } })) ∧
    (∀ (x : List Byte) (s : State), portFree s .control = true → x = [] → ∃ u,
      u = { taken .control 25 x s with planner := { s.planner with navigationClosed := false } } ∧
      exec (.openNavigation .control x) s = .next (answered .control 25 .ok []
        (settle (if s.seq.opening.isSome then u else evaluateStart u)))) ∧
    (∀ s : State, s.planner.navigationClosed = true →
      (startOnHoldOff s = true ↔ s.seq.state = .roadClosed) ∧ startOnQueue s = false ∧
      startOnClass s = startOnClass { s with planner := { s.planner with navigationClosed := false } }) ∧
    ∀ s : State, s.planner.navigationClosed = false →
      (startOnHoldOff s = true ↔ s.planner.holdOffElapsed = true ∨ s.seq.state = .roadClosed) ∧
      startOnQueue s = s.planner.queueCritical

/-- At the hold-off's expiry the timer stops, hold-off elapsed is set and the start conditions are evaluated; at the
road-priority timer's the flag is cleared and, with no opening, they are evaluated; at the max raised timer's
the closing call is set with cause MAX_RAISED. A timer that does not run gives no expiry (log 2). -/
def Obligations.PlannerTimersExpire : Prop :=
    (∀ s k l, s.planner.holdOff = .running k l → exec .roadHoldOffExpiry s =
      .next (settle (evaluateStart { s with planner :=
        { s.planner with holdOff := .stopped, holdOffElapsed := true } }))) ∧
    (∀ s k l v, s.planner.roadPriorityTimer = .running k l →
      v = { s with planner := { s.planner with roadPriority := false, roadPriorityTimer := .stopped } } →
      exec .roadPriorityTimerExpiry s =
        .next (settle (if s.seq.opening.isSome then v else evaluateStart v))) ∧
    (∀ s k l o, s.planner.maxRaised = .running k l → s.seq.opening = some o → o.closingCause = none →
      ∃ u o', exec .maxRaisedTimerExpiry s = .next (settle u) ∧ u.seq.opening = some o' ∧
        o'.closingCause = some .maxRaised ∧ u.planner.maxRaised = .stopped ∧ u.channel.serving = none) ∧
    ∀ s, (s.planner.holdOff.isRunning = false → exec .roadHoldOffExpiry s = .next s) ∧
      (s.planner.roadPriorityTimer.isRunning = false → exec .roadPriorityTimerExpiry s = .next s) ∧
      (s.planner.maxRaised.isRunning = false → exec .maxRaisedTimerExpiry s = .next s)

/-- In WARNING, ENTRY_CLOSING and DECK_CLEARING the closure is given up, unless it is an operator closure from
POSITION_LOST: the closing call is set with cause ABANDON, or the operator closure's flag and origin are
cleared, and ROAD_OPEN, ROAD_CLOSED or BARRIERS_RAISING is entered; in WIND_WAIT the closing call is set and
ROAD_CLOSED or BARRIERS_RAISING entered; in UNLOCKING, LIFTING and RAISED the closing call is set with cause
ABANDON, in LIFTING with a stop asked of the drive; TOO_LATE or NOT_READY elsewhere, and NOT_READY for an
operator closure from POSITION_LOST in WARNING, ENTRY_CLOSING, DECK_CLEARING and EXIT_CLOSING. -/
def Obligations.AbandonByState : Prop :=
    ∀ (p : Port) (x : List Byte) (s : State), decoded (.abandon p x) s = true →
    (s.seq.state = .warning ∨ s.seq.state = .entryClosing ∨ s.seq.state = .deckClearing →
      s.seq.closureOrigin ≠ some .positionLost →
      ∃ v, exec (.abandon p x) s = .next (answered p 21 .ok [] (settle
          (if s.seq.state = .warning then enterRoadOpen v
           else if s.seq.opening.isSome ∧ s.seq.roadClosedByOperator = true then enterRoadClosed v
           else enterBarriersRaising v))) ∧
        v.seq.state = s.seq.state ∧
        (∀ o, s.seq.opening = some o → o.closingCause = none →
          ∃ o', v.seq.opening = some o' ∧ o'.closingCause = some .abandon) ∧
        (s.seq.opening = none → v.seq.roadClosedByOperator = false ∧ v.seq.closureOrigin = none) ∧
        (s.seq.state = .warning → ∀ a, (v.guard.approaches.get a).command = false)) ∧
    (s.seq.state = .windWait →
      ∃ v, exec (.abandon p x) s = .next (answered p 21 .ok [] (settle
          (if s.seq.roadClosedByOperator = true then enterRoadClosed v else enterBarriersRaising v))) ∧
        ∀ o, s.seq.opening = some o → o.closingCause = none →
          ∃ o', v.seq.opening = some o' ∧ o'.closingCause = some .abandon) ∧
    (s.seq.state = .unlocking ∨ s.seq.state = .lifting ∨ s.seq.state = .raised →
      ∃ u, exec (.abandon p x) s = .next (answered p 21 .ok [] (settle u)) ∧ u.seq.state = s.seq.state ∧
        (s.seq.state = .lifting → u.drive.stopAsked = true) ∧
        ∀ o, s.seq.opening = some o → ∃ o', u.seq.opening = some o' ∧
          (o.closingCause = none → o'.closingCause = some .abandon) ∧
          (s.seq.state ≠ .raised → o'.abandoned = true)) ∧
    (s.seq.state = .exitClosing ∧ s.seq.closureOrigin ≠ some .positionLost ∨ s.seq.state = .lowering ∨
        s.seq.state = .locking ∨ s.seq.state = .barriersRaising →
      exec (.abandon p x) s = .next (answered p 21 .tooLate [] (taken p 21 x s))) ∧
    (s.seq.state = .warning ∨ s.seq.state = .entryClosing ∨ s.seq.state = .deckClearing ∨
        s.seq.state = .exitClosing → s.seq.closureOrigin = some .positionLost →
      exec (.abandon p x) s = .next (answered p 21 .notReady [] (taken p 21 x s))) ∧
    (s.seq.state = .roadOpen ∨ s.seq.state = .roadClosed ∨ s.seq.state = .positionLost ∨
        s.seq.state = .recovering ∨ s.seq.state = .faultHold ∨ s.seq.state = .halted →
      exec (.abandon p x) s = .next (answered p 21 .notReady [] (taken p 21 x s)))

/-- CLOSE_ROAD in ROAD_OPEN or POSITION_LOST sets road-closed-by-operator and the origin, opens no record, enters
WARNING and gives the warning command to both approaches, a dark one entering AMBER; it is refused NOT_READY
elsewhere. REOPEN_ROAD in ROAD_CLOSED clears the flag and enters BARRIERS_RAISING, and is refused NOT_READY
elsewhere. -/
def Obligations.RoadClosureRequests : Prop :=
    (∀ (p : Port) (x : List Byte) (s : State), decoded (.closeRoad p x) s = true →
      (s.seq.state = .roadOpen ∨ s.seq.state = .positionLost →
        ∃ u, exec (.closeRoad p x) s = .next (answered p 26 .ok [] (settle u)) ∧
          u.seq.state = .warning ∧ u.seq.roadClosedByOperator = true ∧
          u.seq.closureOrigin = some (if s.seq.state = .roadOpen then .roadOpen else .positionLost) ∧
          u.seq.opening = s.seq.opening ∧ u.table = s.table ∧
          (s.seq.state = .roadOpen → u.planner.holdOff = .stopped ∧ u.planner.holdOffElapsed = false) ∧
          ∀ a, (u.guard.approaches.get a).command = true ∧
            ((s.guard.approaches.get a).phase = .dark →
              (u.guard.approaches.get a).phase = .amber ∧
              (u.guard.approaches.get a).amberTimer = .running 0 (1000 * s.params.amberTime)) ∧
            ((s.guard.approaches.get a).phase = .red →
              (u.guard.approaches.get a).phase = .red ∧ (u.guard.approaches.get a).count.isSome = true)) ∧
      (s.seq.state ≠ .roadOpen → s.seq.state ≠ .positionLost →
        exec (.closeRoad p x) s = .next (answered p 26 .notReady [] (taken p 26 x s)))) ∧
    ∀ (p : Port) (x : List Byte) (s : State), decoded (.reopenRoad p x) s = true →
      (s.seq.state = .roadClosed →
        ∃ u, exec (.reopenRoad p x) s = .next (answered p 27 .ok [] (settle u)) ∧
          u.seq.state = .barriersRaising ∧ u.seq.roadClosedByOperator = false ∧
          u.seq.opening = s.seq.opening ∧ u.ports.control.attention.getLsbD 23 = true) ∧
      (s.seq.state ≠ .roadClosed →
        exec (.reopenRoad p x) s = .next (answered p 27 .notReady [] (taken p 27 x s)))

/-- STOP is answered OK. In HALTED and in INACTIVE the sequence stays. From any other state HALTED is entered: the
held phase is recorded, both brakes are set with references 0 and no motion, no arm and no bolt travels, serving
stops, and HALTED and PHASE_CHANGE are raised at the control port. -/
def Obligations.StopHalts : Prop :=
    ∀ (p : Port) (x : List Byte) (s : State), decoded (.stop p x) s = true →
    (s.seq.state = .halted ∨ s.seq.state = .inactive →
      exec (.stop p x) s = .next (answered p 28 .ok [] (settle (taken p 28 x s)))) ∧
    (s.seq.state ≠ .halted → s.seq.state ≠ .inactive →
      ∃ u, exec (.stop p x) s = .next (answered p 28 .ok [] (settle u)) ∧ u.seq.state = .halted ∧
        u.seq.heldPhase = (match s.seq.state with
          | .faultHold => s.seq.heldPhase
          | .recovering => some .positionLost
          | q => some q) ∧
        (∀ k, (u.drive.towers.get k).released = false ∧ (u.drive.towers.get k).reference = 0 ∧
          (u.drive.bolts.get k).state ≠ .withdrawing ∧ (u.drive.bolts.get k).state ≠ .driving ∧
          (u.drive.bolts.get k).waiting = false) ∧
        u.drive.motion = .none ∧ u.drive.jog = none ∧
        (∀ a, (u.guard.arms.get a).state ≠ .lowering ∧ (u.guard.arms.get a).state ≠ .raising ∧
          ((s.guard.arms.get a).state = .lowering ∨ (s.guard.arms.get a).state = .raising →
            (u.guard.arms.get a).state = .stopped)) ∧
        u.channel.serving = none ∧ u.seq.windWait.isRunning = false ∧ u.guard.deck.clear.isRunning = false ∧
        u.guard.deck.wait.isRunning = false ∧
        (∀ a, (u.guard.approaches.get a).amberTimer.isRunning = false) ∧
        u.ports.control.attention.getLsbD 0 = true ∧ u.ports.control.attention.getLsbD 23 = true)

/-- In FAULT_HOLD it is accepted when no condition cause of the set is present and, with valid positions, |skew| is
within Bt; that an event cause does not bar it is the model's reading (log 13, DEDUCED). The causes are emptied
and the held phase is re-entered. Otherwise it is refused NOT_READY with the causes present and the skew, in
four bytes (log 20, DESIGN CHOICE). In HALTED it is refused while the filtered emergency-stop line is made; with
causes it enters FAULT_HOLD with the held phase kept, without it re-enters the held phase. Elsewhere it is
refused NOT_READY. -/
def Obligations.ResumeByState : Prop :=
    ∀ (p : Port) (x : List Byte) (s : State), decoded (.resume p x) s = true →
    (s.seq.state = .faultHold → mayResume s = true →
      ∃ v, exec (.resume p x) s = .next (answered p 29 .ok [] (settle
          (match s.seq.heldPhase with
            | some q => reenter q v
            | none => { taken p 29 x s with seq := { s.seq with causes := 0 } }))) ∧
        v.seq.causes = 0 ∧ v.drive.jog = (if s.drive.motion = .jog then none else s.drive.jog)) ∧
    (s.seq.state = .faultHold → mayResume s = false →
      ∃ present : BitVec 10, exec (.resume p x) s = .next (answered p 29 .notReady
          (put2 present.toNat ++ putInt4 (s.drive.towers.w.position - s.drive.towers.e.position))
          (taken p 29 x s)) ∧
        ∀ c : FaultCause, present.getLsbD c.ctorIdx =
          (s.seq.causes.getLsbD c.ctorIdx && (c.isEvent || conditionHolds s c))) ∧
    (s.seq.state = .halted → RawInputs.emergencyStop (filtered s) = true →
      exec (.resume p x) s = .next (answered p 29 .notReady [] (taken p 29 x s))) ∧
    (s.seq.state = .halted → RawInputs.emergencyStop (filtered s) = false → s.seq.causes ≠ 0 →
      ∃ u, exec (.resume p x) s = .next (answered p 29 .ok [] (settle u)) ∧ u.seq.state = .faultHold ∧
        u.seq.heldPhase = s.seq.heldPhase ∧ u.seq.causes = s.seq.causes ∧
        u.ports.control.attention.getLsbD 1 = true) ∧
    (∀ q, s.seq.state = .halted → RawInputs.emergencyStop (filtered s) = false → s.seq.causes = 0 →
      s.seq.heldPhase = some q →
      ∃ v, exec (.resume p x) s = .next (answered p 29 .ok [] (settle (reenter q v))) ∧ v.seq = s.seq) ∧
    (s.seq.state ≠ .faultHold → s.seq.state ≠ .halted →
      exec (.resume p x) s = .next (answered p 29 .notReady [] (taken p 29 x s)))

/-- RECOVER_SEAT is accepted in POSITION_LOST with every in-service arm DOWN, the zone count 0 and all four beams
clear: RECOVERING is entered and each bolt not WITHDRAWN withdraws; else it is refused NOT_READY, so too before
the first input sample, when no reading finds the beams clear (log 45, DEDUCED). At the wind-wait timer's expiry
WIND_ABANDON is raised, the closing call is set with cause WIND, and BARRIERS_RAISING or ROAD_CLOSED is entered.
That time runs on to an expiry, and that a timer which does not run gives none, is log 2 (DESIGN CHOICE). -/
def Obligations.SeatRecoveryAndWindWait : Prop :=
    (∀ (p : Port) (x : List Byte) (s : State), decoded (.recoverSeat p x) s = true →
      (s.seq.state = .positionLost ∧ (∀ a, (s.guard.arms.get a).state = .down ∨
          (s.guard.arms.get a).state = .outOfService) ∧ s.channel.zoneCount = 0 ∧ beamsClear s = true →
        ∃ u, exec (.recoverSeat p x) s = .next (answered p 30 .ok [] (settle u)) ∧ u.seq.state = .recovering ∧
          ∀ b, (u.drive.bolts.get b).state =
            (if (s.drive.bolts.get b).state = .withdrawn then .withdrawn else .withdrawing)) ∧
      (¬ (s.seq.state = .positionLost ∧ (∀ a, (s.guard.arms.get a).state = .down ∨
          (s.guard.arms.get a).state = .outOfService) ∧ s.channel.zoneCount = 0 ∧ beamsClear s = true) →
        exec (.recoverSeat p x) s = .next (answered p 30 .notReady [] (taken p 30 x s)))) ∧
    (∀ s k l, s.seq.windWait = .running k l → ∃ v, exec .windWaitTimerExpiry s = .next (settle
        (if s.seq.roadClosedByOperator = true then enterRoadClosed v else enterBarriersRaising v)) ∧
      v.ports.control.attention.getLsbD 10 = true ∧ v.seq.windWait = .stopped ∧
      ∀ o, s.seq.opening = some o → o.closingCause = none →
        ∃ o', v.seq.opening = some o' ∧ o'.closingCause = some .wind) ∧
    ∀ s, s.seq.windWait.isRunning = false → exec .windWaitTimerExpiry s = .next s

/-- At the amber timer's expiry the approach enters RED in half A with its flasher started, and where its warning
command is present its count starts. At the end of a half the other half starts for 500 ms, and each lamp of an
in-service head of the approach is lit as R105 and R108 give for the phase and the half. The lamps of heads out
of service, every lamp's state, the other approach and its heads, the arms, the detectors and the deck stay but
for the passage of time. That time runs on to an expiry, and that a timer which does not run gives none, is log
2 (DESIGN CHOICE). -/
def Obligations.ApproachTimers : Prop :=
    (∀ s a k l, (s.guard.approaches.get a).amberTimer = .running k l →
      ∃ u, exec (.amberTimerExpiry a) s = .next (settle u) ∧ (u.guard.approaches.get a).phase = .red ∧
        (u.guard.approaches.get a).half = .a ∧ (u.guard.approaches.get a).flasher = .running 0 500 ∧
        (u.guard.approaches.get a).amberTimer = .stopped ∧
        ((s.guard.approaches.get a).command = true → (u.guard.approaches.get a).count.isSome = true) ∧
        (∀ h, h.approach = a → (s.guard.heads.get h).inService = true →
          ((u.guard.heads.get h).lamps.get .ra).output = true ∧
          ((u.guard.heads.get h).lamps.get .rb).output = false ∧
          ((u.guard.heads.get h).lamps.get .amber).output = false) ∧
        u = { elapse (l - k) s with guard := u.guard, ports := u.ports } ∧
        u.guard.arms = (elapse (l - k) s).guard.arms ∧ u.guard.detectors = (elapse (l - k) s).guard.detectors ∧
        u.guard.deck = (elapse (l - k) s).guard.deck ∧
        (∀ b, b ≠ a → u.guard.approaches.get b = (elapse (l - k) s).guard.approaches.get b) ∧
        ∀ h, h.approach ≠ a → u.guard.heads.get h = (elapse (l - k) s).guard.heads.get h) ∧
    (∀ s a k l, (s.guard.approaches.get a).flasher = .running k l →
      ∃ t, exec (.flasherHalf a) s = .next t ∧ t = { elapse (l - k) s with guard := t.guard } ∧
        (t.guard.approaches.get a).half = (match (s.guard.approaches.get a).half with | .a => .b | .b => .a) ∧
        (t.guard.approaches.get a).flasher = .running 0 500 ∧
        (t.guard.approaches.get a).phase = (s.guard.approaches.get a).phase ∧
        t.guard.arms = (elapse (l - k) s).guard.arms ∧ t.guard.detectors = (elapse (l - k) s).guard.detectors ∧
        t.guard.deck = (elapse (l - k) s).guard.deck ∧
        (∀ b, b ≠ a → t.guard.approaches.get b = (elapse (l - k) s).guard.approaches.get b) ∧
        (∀ h, h.approach ≠ a ∨ (s.guard.heads.get h).inService = false →
          t.guard.heads.get h = (elapse (l - k) s).guard.heads.get h) ∧
        ∀ h, h.approach = a → (s.guard.heads.get h).inService = true →
          t.guard.heads.get h =
            { (elapse (l - k) s).guard.heads.get h with lamps := (t.guard.heads.get h).lamps } ∧
          ∀ x, ((t.guard.heads.get h).lamps.get x).state = ((s.guard.heads.get h).lamps.get x).state ∧
            ((t.guard.heads.get h).lamps.get x).output =
              (match (s.guard.approaches.get a).phase, x with
                | .red, .ra => decide ((s.guard.approaches.get a).half = .b)
                | .red, .rb => decide ((s.guard.approaches.get a).half = .a)
                | .amber, .amber => true
                | _, _ => false)) ∧
    ∀ s a, ((s.guard.approaches.get a).amberTimer.isRunning = false → exec (.amberTimerExpiry a) s = .next s) ∧
      ((s.guard.approaches.get a).flasher.isRunning = false → exec (.flasherHalf a) s = .next s)

/-- A proving that finds current turns an UNPROVEN or PROVEN lamp PROVEN, one that finds none turns it FAILED, and a
FAILED lamp stays FAILED; a lamp turned FAILED sets its head's accrued flag, RED_DARK where the other red lamp
is FAILED. An off-check that finds current sets CURRENT_WHEN_OFF, leaves the lamp state, and the next falls due
500 ms later. That time runs on to an expiry, and that a timer which does not run gives none, is log 2 (DESIGN
CHOICE). -/
def Obligations.LampProvedAndChecked : Prop :=
    (∀ s h l k m, ((s.guard.heads.get h).lamps.get l).proving = .running k m →
      ∃ t, exec (.lampProving h l) s = .next t ∧
        t = { elapse (m - k) s with guard := t.guard, ports := t.ports } ∧
        ((t.guard.heads.get h).lamps.get l).proving = .stopped ∧
        ((t.guard.heads.get h).lamps.get l).output = ((s.guard.heads.get h).lamps.get l).output ∧
        ((t.guard.heads.get h).lamps.get l).state =
          (if ((s.guard.heads.get h).lamps.get l).state = .failed ∨
              RawInputs.current (filtered s) h l = false then .failed else .proven) ∧
        (((s.guard.heads.get h).lamps.get l).state ≠ .failed → RawInputs.current (filtered s) h l = false →
          (l = .amber → (t.guard.heads.get h).amberFail = true) ∧
          (l = .ra → ((s.guard.heads.get h).lamps.get .rb).state = .failed →
            (t.guard.heads.get h).redDark = true) ∧
          (l = .ra → ((s.guard.heads.get h).lamps.get .rb).state ≠ .failed →
            (t.guard.heads.get h).redOneFail = true) ∧
          (l = .rb → ((s.guard.heads.get h).lamps.get .ra).state = .failed →
            (t.guard.heads.get h).redDark = true) ∧
          (l = .rb → ((s.guard.heads.get h).lamps.get .ra).state ≠ .failed →
            (t.guard.heads.get h).redOneFail = true))) ∧
    (∀ s h l k m, ((s.guard.heads.get h).lamps.get l).offCheck = .running k m →
      ∃ t, exec (.offCheck h l) s = .next t ∧
        t = { elapse (m - k) s with guard := t.guard, ports := t.ports } ∧
        ((t.guard.heads.get h).lamps.get l).offCheck = .running 0 500 ∧
        ((t.guard.heads.get h).lamps.get l).state = ((s.guard.heads.get h).lamps.get l).state ∧
        (t.guard.heads.get h).currentWhenOff =
          ((s.guard.heads.get h).currentWhenOff || RawInputs.current (filtered s) h l) ∧
        ((s.guard.heads.get h).currentWhenOff = false → RawInputs.current (filtered s) h l = true →
          t.ports.control.attention = s.ports.control.attention ||| 1#24 <<< 16)) ∧
    ∀ s h l, (((s.guard.heads.get h).lamps.get l).proving.isRunning = false →
        exec (.lampProving h l) s = .next s) ∧
      (((s.guard.heads.get h).lamps.get l).offCheck.isRunning = false → exec (.offCheck h l) s = .next s)

/-- A running count that reaches its time is complete; in WARNING or ENTRY_CLOSING its approach takes its lowering
permit and, from WARNING, ENTRY_CLOSING is entered; in other states nothing but the count changes while the time
passes, and then the consequences follow. CONFIRM_UNWARNED does the same for a held count in WARNING or
ENTRY_CLOSING and is refused NOT_READY otherwise. That time runs on to an expiry, and that a timer which does
not run gives none, is log 2 (DESIGN CHOICE). -/
def Obligations.WarningCounts : Prop :=
    (∀ s a c, (s.guard.approaches.get a).count = some c → c.status = .running →
      ∃ u c', exec (.warningCountComplete a) s = .next (settle u) ∧
        (u.guard.approaches.get a).count = some c' ∧ c'.status = .complete ∧
        (s.seq.state = .warning ∨ s.seq.state = .entryClosing →
          (u.guard.approaches.get a).permit = true ∧ u.seq.state = .entryClosing ∧
          ((s.guard.arms.get a.entryArm).state = .up → (u.guard.arms.get a.entryArm).state = .lowering)) ∧
        (s.seq.state ≠ .warning → s.seq.state ≠ .entryClosing →
          ∀ v, v = elapse (c.required - c.counted) s →
            u = { v with guard := { v.guard with
              approaches := v.guard.approaches.set a { v.guard.approaches.get a with count := some c' } } })) ∧
    (∀ (p : Port) (x : List Byte) (s : State) (a : Approach) (c : WarningCount),
      decoded (.confirmUnwarned p x) s = true → named allApproaches (byteAt x 0) = some a →
      (s.guard.approaches.get a).count = some c →
      (c.status = .held → s.seq.state = .warning ∨ s.seq.state = .entryClosing →
        ∃ u c', exec (.confirmUnwarned p x) s = .next (answered p 32 .ok [] (settle u)) ∧
          (u.guard.approaches.get a).count = some c' ∧ c'.status = .complete ∧
          (u.guard.approaches.get a).permit = true ∧ u.seq.state = .entryClosing) ∧
      (c.status ≠ .held ∨ (s.seq.state ≠ .warning ∧ s.seq.state ≠ .entryClosing) →
        exec (.confirmUnwarned p x) s = .next (answered p 32 .notReady [] (taken p 32 x s)))) ∧
    ∀ s a, (countTimer a s).isRunning = false → exec (.warningCountComplete a) s = .next s

/-- CLEAR_LAMP of an in-service head makes each named lamp UNPROVEN and sets a proving 100 ms away for one that is
on, and is refused NOT_READY for a head out of service. HEAD_SERVICE takes a head out with its three lamps off
and out of service, or returns it with its lamps UNPROVEN; a request for the service it has changes nothing.
IN_SERVICE is sent as 0 and OUT_OF_SERVICE as 1 (log 19, DESIGN CHOICE). CLEAR_ROAD_STATUS clears the named
flags of the named heads and detectors. None of them touches anything but the road guard, the attention set and
the response. -/
def Obligations.LampAndHeadRequests : Prop :=
    (∀ (p : Port) (x : List Byte) (s : State) (h : Head) (ls : List Lamp), decoded (.clearLamp p x) s = true →
      named allHeads (byteAt x 0) = some h → lampsOf (byteAt x 1) = some ls →
      ((s.guard.heads.get h).inService = false →
        exec (.clearLamp p x) s = .next (answered p 33 .notReady [] (taken p 33 x s))) ∧
      ((s.guard.heads.get h).inService = true →
        ∃ u, exec (.clearLamp p x) s = .next (answered p 33 .ok [] u) ∧
          u = { taken p 33 x s with guard := u.guard, ports := u.ports } ∧
          ∀ l, ((u.guard.heads.get h).lamps.get l).output = ((s.guard.heads.get h).lamps.get l).output ∧
            (l ∈ ls → ((u.guard.heads.get h).lamps.get l).state = .unproven ∧
              (((s.guard.heads.get h).lamps.get l).output = true →
                ((u.guard.heads.get h).lamps.get l).proving = .running 0 100)) ∧
            (l ∉ ls → (u.guard.heads.get h).lamps.get l = (s.guard.heads.get h).lamps.get l))) ∧
    (∀ (p : Port) (x : List Byte) (s : State) (h : Head) (out : Bool), decoded (.headService p x) s = true →
      named allHeads (byteAt x 0) = some h → byteAt x 1 = out.toNat →
      ((s.guard.heads.get h).inService = !out →
        exec (.headService p x) s = .next (answered p 34 .ok [] (taken p 34 x s))) ∧
      ((s.guard.heads.get h).inService = out →
        ∃ u, exec (.headService p x) s = .next (answered p 34 .ok [] u) ∧
          u = { taken p 34 x s with guard := u.guard, ports := u.ports } ∧
          (u.guard.heads.get h).inService = (!out) ∧
          (u.guard.heads.get h).redDark = (s.guard.heads.get h).redDark ∧
          ∀ l, ((u.guard.heads.get h).lamps.get l).state = (if out then .outOfService else .unproven) ∧
            (out = true → ((u.guard.heads.get h).lamps.get l).output = false ∧
              ((u.guard.heads.get h).lamps.get l).proving = .stopped) ∧
            (out = false → ((u.guard.heads.get h).lamps.get l).output =
              lampWanted (s.guard.approaches.get h.approach).phase
                (s.guard.approaches.get h.approach).half l))) ∧
    ∀ (p : Port) (x : List Byte) (s : State), decoded (.clearRoadStatus p x) s = true →
      byteAt x 0 ≤ 8 → byteAt x 1 < 16 → byteAt x 2 ≤ 6 → byteAt x 3 < 2 →
      ∃ u, exec (.clearRoadStatus p x) s = .next (answered p 35 .ok [] u) ∧
        u = { taken p 35 x s with guard := u.guard } ∧
        (∀ h : Head, (u.guard.heads.get h).lamps = (s.guard.heads.get h).lamps ∧
          (u.guard.heads.get h).amberFail = ((s.guard.heads.get h).amberFail &&
            !((byteAt x 0 == 8 || byteAt x 0 == h.ctorIdx) && (byteAt x 1).testBit 0)) ∧
          (u.guard.heads.get h).redOneFail = ((s.guard.heads.get h).redOneFail &&
            !((byteAt x 0 == 8 || byteAt x 0 == h.ctorIdx) && (byteAt x 1).testBit 1)) ∧
          (u.guard.heads.get h).redDark = ((s.guard.heads.get h).redDark &&
            !((byteAt x 0 == 8 || byteAt x 0 == h.ctorIdx) && (byteAt x 1).testBit 2)) ∧
          (u.guard.heads.get h).currentWhenOff = ((s.guard.heads.get h).currentWhenOff &&
            !((byteAt x 0 == 8 || byteAt x 0 == h.ctorIdx) && (byteAt x 1).testBit 3))) ∧
        ∀ d : Detector, (u.guard.detectors.get d).occupiedLong = ((s.guard.detectors.get d).occupiedLong &&
          !((byteAt x 2 == 6 || byteAt x 2 == d.ctorIdx) && (byteAt x 3).testBit 0))

/-- A travel timer's expiry makes the arm FAULT with reason TIMEOUT and raises ARM_FAULT. A retry wait's expiry
lowers the arm again under its permit, or leaves it UP. ARM_RETRY of a FAULT arm that no case of R133 refuses
clears the obstruction count and takes the commanded end or travels toward it. ARM_SERVICE takes out a FAULT arm
in any state, or an UP arm in ROAD_OPEN or INACTIVE, and returns one in ROAD_OPEN or INACTIVE; otherwise it is
refused NOT_READY, but a request for the service the arm has changes nothing. IN_SERVICE is sent as 0 and
OUT_OF_SERVICE as 1 (log 19, DESIGN CHOICE). When the arms are raised, an arm that stands UP and waits to lower
again is commanded up, which ends its wait and clears its count (log 42, DEDUCED), and one that stands UP
without a wait stays as it is. That time runs on to an expiry, and that a timer which does not run gives none,
is log 2 (DESIGN CHOICE). -/
def Obligations.ArmEvents : Prop :=
    (∀ s a k l, (s.guard.arms.get a).travel = .running k l →
      ∃ u, exec (.armTravelTimeout a) s = .next (settle u) ∧ (u.guard.arms.get a).state = .fault ∧
        (u.guard.arms.get a).faultReason = some .timeout ∧ (u.guard.arms.get a).travel = .stopped ∧
        (u.guard.arms.get a).retryWait = .stopped ∧ u.ports.control.attention.getLsbD 6 = true ∧
        ∀ b, b ≠ a → u.guard.arms.get b = (elapse (l - k) s).guard.arms.get b) ∧
    (∀ s a k l, (s.guard.arms.get a).retryWait = .running k l →
      ∃ u, exec (.retryWaitExpiry a) s = .next (settle u) ∧ (u.guard.arms.get a).retryWait = .stopped ∧
        (a.isEntry = false ∨ (s.guard.approaches.get a.approach).permit = true →
          (u.guard.arms.get a).state = .lowering ∧
          (u.guard.arms.get a).travel = .running 0 (1000 * s.params.armTimeout)) ∧
        (a.isEntry = true → (s.guard.approaches.get a.approach).permit = false →
          (u.guard.arms.get a).state = (s.guard.arms.get a).state)) ∧
    (∀ (p : Port) (x : List Byte) (s : State) (a : Arm), decoded (.armRetry p x) s = true →
      named allArms (byteAt x 0) = some a →
      (retryRefused a s = true →
        exec (.armRetry p x) s = .next (answered p 36 .notReady [] (taken p 36 x s))) ∧
      (retryRefused a s = false → (s.guard.arms.get a).state = .fault ∧
        ∃ u, exec (.armRetry p x) s = .next (answered p 36 .ok [] (settle u)) ∧
          (u.guard.arms.get a).obstructions = 0 ∧ (u.guard.arms.get a).faultReason = none ∧
          (u.guard.arms.get a).state = (match (s.guard.arms.get a).commandedEnd with
            | .up => if RawInputs.armUp (filtered s) a then .up else .raising
            | .down => if RawInputs.armDown (filtered s) a then .down else .lowering))) ∧
    (∀ (p : Port) (x : List Byte) (s : State) (a : Arm) (out : Bool), decoded (.armService p x) s = true →
      named allArms (byteAt x 0) = some a → byteAt x 1 = out.toNat →
      (((s.guard.arms.get a).state = .outOfService ↔ out = true) →
        exec (.armService p x) s = .next (answered p 37 .ok [] (taken p 37 x s))) ∧
      (out = true → (s.guard.arms.get a).state = .fault ∨ (s.guard.arms.get a).state = .up ∧
          (s.seq.state = .roadOpen ∨ s.seq.state = .inactive) →
        ∃ u, exec (.armService p x) s = .next (answered p 37 .ok [] (settle u)) ∧
          (u.guard.arms.get a).state = .outOfService ∧ (u.guard.arms.get a).faultReason = none) ∧
      (out = true → (s.guard.arms.get a).state ≠ .outOfService → (s.guard.arms.get a).state ≠ .fault →
        ¬ ((s.guard.arms.get a).state = .up ∧ (s.seq.state = .roadOpen ∨ s.seq.state = .inactive)) →
        exec (.armService p x) s = .next (answered p 37 .notReady [] (taken p 37 x s))) ∧
      (out = false → (s.guard.arms.get a).state = .outOfService →
        s.seq.state ≠ .roadOpen → s.seq.state ≠ .inactive →
        exec (.armService p x) s = .next (answered p 37 .notReady [] (taken p 37 x s))) ∧
      (out = false → (s.guard.arms.get a).state = .outOfService →
        s.seq.state = .roadOpen ∨ s.seq.state = .inactive →
        ∃ u, exec (.armService p x) s = .next (answered p 37 .ok [] (settle u)) ∧
          (u.guard.arms.get a).obstructions = 0 ∧
          (restUp (filtered s) a = true → (u.guard.arms.get a).state = .up ∧
            (u.guard.arms.get a).commandedEnd = .up) ∧
          (restUp (filtered s) a = false → (u.guard.arms.get a).state = .fault ∧
            (u.guard.arms.get a).faultReason = some .position ∧ (u.guard.arms.get a).commandedEnd = .down))) ∧
    (∀ s a r, s.guard.arms.get a = r → r.state = .up →
      (r.retryWait = .stopped → raiseArm a s = s) ∧
      (r.retryWait ≠ .stopped → spanSecure s = true →
        raiseArm a s = setArm a { r with commandedEnd := .up, obstructions := 0, retryWait := .stopped } s)) ∧
    ∀ s a, ((s.guard.arms.get a).travel.isRunning = false → exec (.armTravelTimeout a) s = .next s) ∧
      ((s.guard.arms.get a).retryWait.isRunning = false → exec (.retryWaitExpiry a) s = .next s)

/-- At the clear timer's end the measurement is COMPLETE with the deck-wait and occupancy timers stopped, and in
DECK_CLEARING EXIT_CLOSING is entered. At the deck-wait timer's end not-clear reported is set, and
DECK_NOT_CLEAR raised where it was clear. At an occupancy timer's end OCCUPIED_LONG is set, but once for an
occupancy: not where this one has set it before or had it cleared in a RUNNING measurement (log 29); the timer
counts on past the limit. DETECTOR_SERVICE changes the service of a detector and keeps its flag; a request for
the service it has changes nothing. While a measurement is RUNNING and not stopped by HALTED, the clear timer
then runs, or starts, exactly where every detector left in service is unoccupied, and an occupied detector
returned starts its occupancy timer; while HALTED keeps the times the request leaves the deck as it is and
starts no timer (log 48, DESIGN CHOICE). IN_SERVICE is sent as 0 and OUT_OF_SERVICE as 1 (log 19, DESIGN
CHOICE). That time runs on to an expiry, and that a timer which does not run gives none, is log 2 (DESIGN
CHOICE). -/
def Obligations.DeckEvents : Prop :=
    (∀ s k l, s.guard.deck.clear = .running k l →
      ∃ u, exec .deckClear s = .next (settle u) ∧
        (s.seq.state = .deckClearing → u.seq.state = .exitClosing) ∧
        (s.seq.state ≠ .deckClearing → u.seq.state = s.seq.state ∧
          u.guard.deck.measurement = some .complete) ∧
        u.guard.deck.wait = .stopped ∧ u.guard.deck.clear = .stopped ∧
        ∀ d, (u.guard.detectors.get d).occupancy = .stopped) ∧
    (∀ s k l, s.guard.deck.wait = .running k l →
      ∃ t, exec .deckWaitExpiry s = .next t ∧ t = { elapse (l - k) s with guard := t.guard, ports := t.ports } ∧
        t.guard.deck = { (elapse (l - k) s).guard.deck with wait := .stopped, notClear := true } ∧
        t.ports.control.attention = s.ports.control.attention |||
          (if s.guard.deck.notClear then 0#24 else 1#24 <<< 7) ∧ t.ports.harbour = s.ports.harbour) ∧
    (∀ s d k l, (s.guard.detectors.get d).occupancy = .running k l →
      ∃ t, exec (.occupancyTimerExpiry d) s = .next t ∧ t = { elapse (l - k) s with guard := t.guard } ∧
        t.guard.detectors.get d =
          { s.guard.detectors.get d with
            occupiedLong := (s.guard.detectors.get d).occupiedLong || !(s.guard.detectors.get d).spent,
            occupancy := .over l, spent := true } ∧
        (∀ e, e ≠ d → t.guard.detectors.get e = (elapse (l - k) s).guard.detectors.get e) ∧
        t.guard.deck = (elapse (l - k) s).guard.deck) ∧
    (∀ (p : Port) (x : List Byte) (s : State) (d : Detector) (out : Bool),
      decoded (.detectorService p x) s = true → named allDetectors (byteAt x 0) = some d →
      byteAt x 1 = out.toNat →
      ((s.guard.detectors.get d).inService = !out →
        exec (.detectorService p x) s = .next (answered p 38 .ok [] (taken p 38 x s))) ∧
      ((s.guard.detectors.get d).inService = out →
        ∃ u, exec (.detectorService p x) s = .next (answered p 38 .ok [] u) ∧
          u = { taken p 38 x s with guard := u.guard } ∧
          (u.guard.detectors.get d).inService = (!out) ∧
          (u.guard.detectors.get d).occupiedLong = (s.guard.detectors.get d).occupiedLong ∧
          (out = true → (u.guard.detectors.get d).occupancy = .stopped) ∧
          (s.guard.deck.measurement ≠ some .running ∨ s.guard.halted = true → u.guard.deck = s.guard.deck ∧
            (out = false → (u.guard.detectors.get d).occupancy = (s.guard.detectors.get d).occupancy)) ∧
          (s.guard.deck.measurement = some .running → s.guard.halted = false →
            (out = false → (u.guard.detectors.get d).occupancy =
              (if RawInputs.occupied (filtered s) d then .running 0 (1000 * s.params.deckWaitLimit)
               else .stopped)) ∧
            ((∀ e, (u.guard.detectors.get e).inService = true → RawInputs.occupied (filtered s) e = false) →
              u.guard.deck = { s.guard.deck with
                clear := if s.guard.deck.clear.isRunning then s.guard.deck.clear
                  else .running 0 (1000 * s.params.deckClearTime) }) ∧
            ((∃ e, (u.guard.detectors.get e).inService = true ∧ RawInputs.occupied (filtered s) e = true) →
              u.guard.deck = { s.guard.deck with clear := .stopped })) ∧
          ∀ e, e ≠ d → u.guard.detectors.get e = s.guard.detectors.get e)) ∧
    ∀ s d, (s.guard.deck.clear.isRunning = false → exec .deckClear s = .next s) ∧
      (s.guard.deck.wait.isRunning = false → exec .deckWaitExpiry s = .next s) ∧
      ((s.guard.detectors.get d).occupancy.isRunning = false → exec (.occupancyTimerExpiry d) s = .next s)

/-- A change to the next phase of the cycle raises the count by 1 and to the previous lowers it by 1, but not past
8,388,607 or −8,388,608; any other change leaves it. A change of both channels, and an edge at a limit, is an
illegal transition: while the positions are valid and the sequence is not RECOVERING it is reported as ENCODER,
which R94 and R95 take by the sequence state; else nothing but the phase changes (R144). The other tower's count
stays. This holds in every mode and state (R143). -/
def Obligations.EncoderEdgeCounts : Prop :=
    ∀ (s : State) (k : Tower) (a b : Bool) (old new : Nat) (c : Int), c = (s.drive.towers.get k).count →
    old = phasePlace (s.drive.towers.get k).phaseA (s.drive.towers.get k).phaseB → new = phasePlace a b →
    ∃ u, exec (.encoderEdge k a b) s = .next (settle u) ∧
      (u.drive.towers.get k).phaseA = a ∧ (u.drive.towers.get k).phaseB = b ∧
      (∀ j, j ≠ k → (u.drive.towers.get j).count = (s.drive.towers.get j).count) ∧
      (u.drive.towers.get k).count =
        (if new = (old + 1) % 4 ∧ c < 8388607 then c + 1
         else if new = (old + 3) % 4 ∧ -8388608 < c then c - 1 else c) ∧
      (new = old ∨ new = (old + 1) % 4 ∧ c < 8388607 ∨ new = (old + 3) % 4 ∧ -8388608 < c →
        u = { s with drive := { s.drive with towers := u.drive.towers } }) ∧
      (new = (old + 2) % 4 ∨ new = (old + 1) % 4 ∧ 8388607 ≤ c ∨ new = (old + 3) % 4 ∧ c ≤ -8388608 →
        (s.drive.valid = true → s.seq.state ≠ .recovering → FaultReported .encoder s u) ∧
        (s.drive.valid = false ∨ s.seq.state = .recovering →
          u = { s with drive := { s.drive with towers := u.drive.towers } }))

/-- Outside LOWER and DESCENT every sample leaves each tower's position 16 × c / d truncated and clamped to
−500..Hmax+500, marked while the unclamped value lies outside. A RUNNING RAISE that finds no fault and lies
below its target changes P by the ramp step toward travel or creep speed, each reference as R156 trims it from
P, between a quarter of P and P; at or above its target it ends with brakes set, and LIFTING goes to RAISED. -/
def Obligations.PositionSampleRaises : Prop :=
    (∀ s : State, s.drive.motion ≠ .lower → s.drive.motion ≠ .descent →
      ∃ u, exec .positionSample s = .next (settle u) ∧ ∀ k, ∃ v,
        v = (16 * (s.drive.towers.get k).count).tdiv
          (16 * s.params.scaleWhole.get k + s.params.scaleSixteenths.get k) ∧
        (u.drive.towers.get k).position = max (-500) (min v (s.params.maxLift + 500)) ∧
        (u.drive.towers.get k).outOfRange = (decide (v < -500) || decide (s.params.maxLift + 500 < v)) ∧
        (u.drive.towers.get k).count = (s.drive.towers.get k).count) ∧
    ∀ (s q : State) (g : Int), q = computePositions s → s.drive.motion = .raise → s.drive.phase = some .running →
      s.drive.target = some g → s.drive.stopAsked = false → RawInputs.level (filtered s) = true →
      |skew q| < s.params.skewLimit → outOfRange q = false →
      (∀ k, RawInputs.upperLimit (filtered s) k = false ∧ stalled (stepAnchor (q.drive.towers.get k)) = false) →
      (spanPosition q < g →
        ∃ u, exec .positionSample s = .next (settle u) ∧ u.seq = s.seq ∧ u.drive.motion = .raise ∧
          u.drive.phase = some .running ∧
          u.drive.profile = (if s.params.creepDistance < g - spanPosition q then
              min s.params.travelSpeed (s.drive.profile + s.params.rampStep)
            else max s.params.creepSpeed (s.drive.profile - s.params.rampStep)) ∧
          (0 ≤ u.drive.profile → 0 ≤ s.params.trimGain →
            ∀ k, (s.drive.towers.get k).stopped = false → u.drive.profile ≤ 4 * (u.drive.towers.get k).reference ∧
              (u.drive.towers.get k).reference ≤ u.drive.profile) ∧
          ∀ k, (u.drive.towers.get k).reference = trimReference true u.drive.profile s.params.trimBand
            s.params.trimGain (skew q) (stoppedTowers s) k) ∧
      (g ≤ spanPosition q →
        ∃ u, exec .positionSample s = .next (settle u) ∧ u.drive.motion = .none ∧
          (∀ k, (u.drive.towers.get k).released = false ∧ (u.drive.towers.get k).reference = 0) ∧
          u.seq.state = (if s.seq.state = .lifting then .raised else s.seq.state))

/-- At the brake-settle expiry the motion is RUNNING, RAISE, LOWER and DESCENT with P the creep speed, the
references of RAISE and LOWER as R156 trims them from it, and a jog with its tower's reference the creep speed.
At a lock-travel expiry the bolt is FAULT with reason TIMEOUT, and LOCK_TIMEOUT is reported, which R94 and R95
take by the sequence state. At the keep-alive's expiry the jog ends with brakes set. A JOG that R166 accepts
starts a jog or renews the one in progress and answers position, skew and validity; otherwise it is refused
NOT_READY, ending a jog of its own tower and direction; while a jog of another tower or direction is in progress
it is refused NOT_READY and that jog goes on. Validity is sent as 1 or 0 (log 19), the skew in four bytes (log
20, both DESIGN CHOICE). That time runs on to an expiry, and that a timer which does not run gives none, is log
2 (DESIGN CHOICE). -/
def Obligations.DriveTimersAndJog : Prop :=
    (∀ s k l, s.drive.settle = .running k l → s.drive.motion ≠ .none →
      ∃ u, exec .brakeSettleExpiry s = .next (settle u) ∧ u.drive.phase = some .running ∧
        u.drive.settle = .stopped ∧ u.drive.motion = s.drive.motion ∧
        (s.drive.motion ≠ .jog → u.drive.profile = s.params.creepSpeed) ∧
        (s.drive.motion = .raise ∨ s.drive.motion = .lower → ∀ t, (u.drive.towers.get t).reference =
          trimReference (decide (s.drive.motion = .raise)) s.params.creepSpeed s.params.trimBand s.params.trimGain
            (skew s) (stoppedTowers s) t) ∧
        (s.drive.motion = .descent → ∀ t, (u.drive.towers.get t).reference =
          (if (s.drive.towers.get t).stopped then 0 else s.params.creepSpeed)) ∧
        ∀ j, s.drive.motion = .jog → s.drive.jog = some j →
          (u.drive.towers.get j.tower).reference = s.params.creepSpeed) ∧
    (∀ s b k l, (s.drive.bolts.get b).travel = .running k l →
      ∃ u, exec (.lockTravelTimerExpiry b) s = .next (settle u) ∧ (u.drive.bolts.get b).state = .fault ∧
        (u.drive.bolts.get b).reason = some .timeout ∧ (u.drive.bolts.get b).travel = .stopped ∧
        FaultReported .lockTimeout s u) ∧
    (∀ s j k l, s.drive.motion = .jog → s.drive.jog = some j → j.keepAlive = .running k l →
      ∃ u, exec .jogKeepAliveExpiry s = .next (settle u) ∧ u.drive.jog = none ∧ u.drive.motion = .none ∧
        ∀ t, (u.drive.towers.get t).released = false ∧ (u.drive.towers.get t).reference = 0) ∧
    (∀ (p : Port) (x out : List Byte) (s : State) (t : Tower) (dir : Vertical), decoded (.jog p x) s = true →
      named allTowers (byteAt x 0) = some t → byteAt x 1 = (match dir with | .up => 0 | .down => 1) →
      out = putInt2 (s.drive.towers.get t).position ++
        putInt4 (s.drive.towers.w.position - s.drive.towers.e.position) ++ putBool s.drive.valid →
      (jogState s = true → jogAllowed t dir s = true → s.drive.jog = none →
        ∃ u j, exec (.jog p x) s = .next (answered p 40 .ok out (settle u)) ∧ u.drive.motion = .jog ∧
          u.drive.phase = some .settling ∧ u.drive.jog = some j ∧ j.tower = t ∧ j.direction = dir ∧
          j.keepAlive = .running 0 500 ∧ u.drive.settle = .running 0 s.params.brakeSettle ∧
          ∀ q, (u.drive.towers.get q).released = decide (q = t) ∧ (u.drive.towers.get q).reference = 0) ∧
      (∀ j, jogState s = true → jogAllowed t dir s = true → s.drive.jog = some j → j.tower = t →
        j.direction = dir →
        ∃ u, exec (.jog p x) s = .next (answered p 40 .ok out (settle u)) ∧
          u = { taken p 40 x s with
            drive := { s.drive with jog := some { j with keepAlive := .running 0 500 } } }) ∧
      (∀ j, s.drive.jog = some j → ¬ (j.tower = t ∧ j.direction = dir) →
        exec (.jog p x) s = .next (answered p 40 .notReady [] (settle (taken p 40 x s)))) ∧
      (jogState s = false ∨ jogAllowed t dir s = false → s.drive.jog = none →
        exec (.jog p x) s = .next (answered p 40 .notReady [] (settle (taken p 40 x s)))) ∧
      (∀ j, jogState s = false ∨ jogAllowed t dir s = false → s.drive.jog = some j → j.tower = t →
        j.direction = dir →
        ∃ u, exec (.jog p x) s = .next (answered p 40 .notReady [] (settle u)) ∧ u.drive.jog = none ∧
          u.drive.motion = .none)) ∧
    ∀ s b, (s.drive.settle.isRunning = false → exec .brakeSettleExpiry s = .next s) ∧
      ((s.drive.bolts.get b).travel.isRunning = false → exec (.lockTravelTimerExpiry b) s = .next s) ∧
      (s.drive.jog = none → exec .jogKeepAliveExpiry s = .next s)

/-- ZONE_RESET with all beams clear and both recognizers CLEAR answers the count found and the number of slots of
the zone list, and leaves count 0 and an empty list (before the first input sample no reading finds the beams
clear: log 45, DEDUCED); on a sound table with its slots matched each slot of the list is DONE with outcome
PASSED, and the entry it names concludes PASSED, a LOST one raising LOST_MEMBER_DONE; else it is refused
NOT_READY. The channel-clear timer, once run, stays run. A no-show expiry sets the overdue mark where the slot's
approach is committed; on an approach not committed the slot becomes DONE with outcome NO_SHOW before the
closing-call rule, and the entry it names, where it is not LOST, concludes with NO_SHOW: CONCLUDED, with
PASSAGE_CONCLUDED at the harbour port, or PENDING for a timetable entry; a LOST slot raises LOST_MEMBER_DONE.
That time runs on to an expiry, and that a timer which does not run gives none, is log 2 (DESIGN CHOICE). -/
def Obligations.ChannelCommands : Prop :=
    (∀ (p : Port) (x : List Byte) (s : State), decoded (.zoneReset p x) s = true →
      (beamsClear s = true → s.channel.recognizers = ⟨none, none⟩ →
        ∃ u, exec (.zoneReset p x) s = .next (answered p 42 .ok
            [BitVec.ofNat 8 s.channel.zoneCount, BitVec.ofNat 8 s.channel.zoneList.length] (settle u)) ∧
          u.channel.zoneCount = 0 ∧ u.channel.zoneList = [] ∧ (settle u).channel.zoneCount = 0 ∧
          u.channel.recognizers = s.channel.recognizers ∧ u.seq.state = s.seq.state ∧
          (TableSound s → SlotsMatched s → ∀ y ∈ slots s, y.serial ∈ s.channel.zoneList → y.state ≠ .done →
            (∃ z ∈ slots u, z.serial = y.serial ∧ z.state = .done ∧ z.outcome = some .passed) ∧
            (y.entry = none → u.ports.control.attention.getLsbD 9 = true) ∧
            ∀ i, y.entry = some i →
              (s.table.tb ≤ i → (entryAt u i).state = .concluded ∧ (entryAt u i).outcome = some .passed ∧
                (entryAt u i).concludedMinute = some s.clock.minute ∧ (entryAt u i).holdAge = some 0 ∧
                u.ports.harbour.attention.getLsbD 3 = true) ∧
              (i < s.table.tb → (entryAt u i).state = .pending ∧ (entryAt u i).lastOutcome = some .passed))) ∧
      (beamsClear s = false ∨ s.channel.recognizers ≠ ⟨none, none⟩ →
        exec (.zoneReset p x) s = .next (answered p 42 .notReady [] (taken p 42 x s)))) ∧
    (∀ s k l, s.channel.clearTimer = .running k l → exec .channelClearTimerRun s = .next (settle
      { elapse (l - k) s with
        channel := { s.channel with clearTimer := .stopped, clearRun := true } })) ∧
    (∀ s n y k l, (slots s)[n]? = some y → y.noShow = .running k l →
      (committed s y.direction = true →
        ∃ u, exec (.noShowTimerExpiry n) s = .next (settle u) ∧ u.seq.state = s.seq.state ∧
          (slots u)[n]? = some { y with overdue := true, noShow := .stopped }) ∧
      (committed s y.direction = false → findSlot y.serial s = some y → y.entry = none →
        ∃ u z, exec (.noShowTimerExpiry n) s = .next (settle (checkAllDone u)) ∧ (slots u)[n]? = some z ∧
          z.state = .done ∧ z.outcome = some .noShow ∧ z.noShow = .stopped ∧
          u.ports.control.attention.getLsbD 9 = true) ∧
      (∀ i, committed s y.direction = false → findSlot y.serial s = some y → y.entry = some i →
        (entryAt s i).codeGood = true → (entryAt s i).state.inOpening = true →
        ∃ u z, exec (.noShowTimerExpiry n) s = .next (settle (checkAllDone u)) ∧ (slots u)[n]? = some z ∧
          z.state = .done ∧ z.outcome = some .noShow ∧ z.noShow = .stopped ∧ z.overdue = false ∧
          (s.table.tb ≤ i → (entryAt u i).state = .concluded ∧ (entryAt u i).outcome = some .noShow ∧
            (entryAt u i).concludedMinute = some s.clock.minute ∧ (entryAt u i).holdAge = some 0 ∧
            u.ports.harbour.attention.getLsbD 3 = true) ∧
          (i < s.table.tb → (entryAt u i).state = .pending ∧ (entryAt u i).lastOutcome = some .noShow) ∧
          u.seq.state = s.seq.state ∧ ∀ j, j ≠ i → entryAt u j = entryAt s j)) ∧
    (∀ s, s.channel.clearTimer.isRunning = false → exec .channelClearTimerRun s = .next s) ∧
    ∀ s n, (slots s)[n]? = none → exec (.noShowTimerExpiry n) s = .next s

/-- The first reading stands in all three places; later the oldest is dropped. Each filtered input is the value at
least two of the three readings share. A raw reading with the emergency-stop line made leaves the sequence
HALTED or INACTIVE before the consequences. A CLEAR recognizer that finds a beam broken becomes OCCUPIED with
the beam that broke first, BOTH being ambiguous; an OCCUPIED one stays while a beam is broken; with both clear
it returns to CLEAR, an INWARD crossing for OUTER then INNER, an OUTWARD one for INNER then OUTER, none
otherwise, ambiguous where both beams cleared together. At every input sample each recognizer takes the state so
found. -/
def Obligations.SamplerAndRecognizers : Prop :=
    (∀ (raw : RawInputs) (s : State), ∃ t u, exec (.inputSample raw) s = .next t ∧ t = settle u ∧
      (s.inputs = none → t.inputs = some (raw, raw, raw) ∧ filtered t = raw) ∧
      (∀ a b c, s.inputs = some (a, b, c) → t.inputs = some (b, c, raw) ∧
        ∀ k, (filtered t).getLsbD k =
          (b.getLsbD k && c.getLsbD k || b.getLsbD k && raw.getLsbD k || c.getLsbD k && raw.getLsbD k)) ∧
      (RawInputs.emergencyStop raw = true → u.seq.state = .halted ∨ u.seq.state = .inactive)) ∧
    (∀ (ob ib o i : Bool) (f : FirstBroken),
      recognize none ob ib false false = (none, none, false) ∧
      recognize none ob ib true false = (some .outer, none, false) ∧
      recognize none ob ib false true = (some .inner, none, false) ∧
      recognize none ob ib true true = (some .both, none, true) ∧
      ((o || i) = true → recognize (some f) ob ib o i = (some f, none, false)) ∧
      recognize (some f) false true false false =
        (none, if f = .outer then some .inward else none, false) ∧
      recognize (some f) true false false false =
        (none, if f = .inner then some .outward else none, false) ∧
      recognize (some f) true true false false = (none, none, true)) ∧
    ∀ (raw : RawInputs) (s : State) (now : RawInputs) (e : Edge), now = filtered (takeReading raw s) →
      ∃ t, exec (.inputSample raw) s = .next t ∧
        t.channel.recognizers.get e = (recognize (s.channel.recognizers.get e)
          (RawInputs.outer (filtered s) e) (RawInputs.inner (filtered s) e)
          (RawInputs.outer now e) (RawInputs.inner now e)).1

/-- An early pulse sets EARLY and steps nothing. In LOCKED a taken pulse makes a second step and restarts the
supervision timer; one that comes after its expiry finds the clock FREE, stepped, with CLOCK_FREE raised and the
run 0. In FREE an in-window pulse raises the recapture run, the third one locks the clock with a second step
unless the oscillator made one less than 500 ms before; any other taken pulse clears the run, and an oscillator
step that falls on the way is made. A pulse that falls less than 300 ms after its edge is a second mark, a later
fall marks nothing; one still standing at 300 ms is a minute mark, found at its expiry or on the way to the next
pulse: seconds 1 to 29 go back to 0, 30 to 59 on to the next minute, with CLOCK_STEPPED. The supervision expiry
frees the clock with a second step, and the oscillator makes one each second. That the oscillator stands at 300
of its 1000 ms after a minute mark is log 26 (DEDUCED). That the expiries on the way to a pulse happen at their
moments, a pulse in time going before the supervision timer, is log 38. That time runs on to an expiry, and that
a timer which does not run gives none, is log 2 (DESIGN CHOICE). -/
def Obligations.ClockEvents : Prop :=
    (∀ n s r, s.clock.reference = some r → r + n < 800 → ClockQuiet n s →
      ∃ t, exec (.timePulseLeadingEdge n) s = .next t ∧
        t.clock.early = true ∧ t.clock.minute = s.clock.minute ∧ t.clock.seconds = s.clock.seconds ∧
        t.clock.reference = some (r + n) ∧ t.clock.supervision = s.clock.supervision.advance n ∧
        t.clock.recaptureRun = (if s.clock.lock = .free then 0 else s.clock.recaptureRun)) ∧
    (∀ n s, (∀ r, s.clock.reference = some r → 800 ≤ r + n) → s.clock.lock = .locked → ClockQuiet n s →
      ∃ t, exec (.timePulseLeadingEdge n) s = .next t ∧ (t.clock.minute, t.clock.seconds) = steppedTime s.clock ∧
        t.clock.reference = some 0 ∧ t.clock.supervision = .running 0 1200 ∧ t.clock.measuring = .running 0 300 ∧
        t.clock.lock = .locked) ∧
    (∀ n s k l, (∀ r, s.clock.reference = some r → 1200 < r + n) → s.clock.supervision = .running k l →
      l - k ≤ n → n < l - k + 1000 → s.clock.measuring.isRunning = false → s.clock.stepTimer.isRunning = false →
      ∃ t, exec (.timePulseLeadingEdge n) s = .next t ∧ (t.clock.minute, t.clock.seconds) = steppedTime s.clock ∧
        t.clock.lock = .free ∧ t.clock.recaptureRun = 0 ∧ t.clock.supervision = .stopped ∧
        t.clock.reference = some 0 ∧ t.clock.stepTimer = .running (n - (l - k)) 1000 ∧
        t.ports.control.attention.getLsbD 14 = true) ∧
    (∀ n s, (∀ r, s.clock.reference = some r → 1200 < r + n) → s.clock.lock = .free → ClockQuiet n s →
      ∃ t, exec (.timePulseLeadingEdge n) s = .next t ∧ t.clock.recaptureRun = 0 ∧ t.clock.reference = some 0 ∧
        t.clock.lock = .free ∧ t.clock.minute = s.clock.minute ∧ t.clock.seconds = s.clock.seconds) ∧
    (∀ n s k l, (∀ r, s.clock.reference = some r → 1200 < r + n) → s.clock.lock = .free →
      s.clock.stepTimer = .running k l → l - k ≤ n → n < l - k + 1000 → s.clock.measuring.isRunning = false →
      s.clock.supervision.isRunning = false →
      ∃ t, exec (.timePulseLeadingEdge n) s = .next t ∧ (t.clock.minute, t.clock.seconds) = steppedTime s.clock ∧
        t.clock.recaptureRun = 0 ∧ t.clock.reference = some 0 ∧ t.clock.lock = .free ∧
        t.clock.stepTimer = .running (n - (l - k)) 1000) ∧
    (∀ n s r, s.clock.reference = some r → 800 ≤ r + n → r + n ≤ 1200 → s.clock.lock = .free → ClockQuiet n s →
      ∃ t, exec (.timePulseLeadingEdge n) s = .next t ∧ t.clock.reference = some 0 ∧
        (s.clock.recaptureRun < 2 → t.clock.recaptureRun = s.clock.recaptureRun + 1 ∧ t.clock.lock = .free ∧
          t.clock.minute = s.clock.minute ∧ t.clock.seconds = s.clock.seconds) ∧
        (2 ≤ s.clock.recaptureRun → t.clock.recaptureRun = 0 ∧ t.clock.lock = .locked ∧
          t.clock.stepTimer = .stopped ∧ t.clock.supervision = .running 0 1200 ∧
          (t.clock.minute, t.clock.seconds) =
            (if ∃ k ∈ s.clock.sinceStep, k + n < 500 then (s.clock.minute, s.clock.seconds)
             else steppedTime s.clock))) ∧
    (∀ n s r k l, s.clock.reference = some r → 800 ≤ r + n → r + n ≤ 1200 → s.clock.lock = .locked →
      s.clock.measuring = .running k l → l - k ≤ n → s.clock.stepTimer.isRunning = false →
      ∃ t, exec (.timePulseLeadingEdge n) s = .next t ∧ t.clock.lastMark = some .minute ∧ t.clock.seconds = 1 ∧
        t.clock.minute = (if s.clock.seconds < 30 then s.clock.minute else (s.clock.minute + 1) % 1440) ∧
        t.clock.lock = .locked) ∧
    (∀ s k l, s.clock.measuring = .running k l →
      (k < l → exec .secondMark s =
        .next { s with clock := { s.clock with measuring := .stopped, lastMark := some .second } }) ∧
      (l ≤ k → exec .secondMark s = .next s) ∧
      ∃ t, exec .minuteMarkCorrection s = .next t ∧ t.clock.lastMark = some .minute ∧
        t.clock.measuring = .stopped ∧ t.clock.seconds = 0 ∧
        t.clock.minute = (if s.clock.seconds < 30 then s.clock.minute else (s.clock.minute + 1) % 1440) ∧
        (s.clock.seconds ≠ 0 → t.ports.control.attention.getLsbD 15 = true) ∧
        (s.clock.lock = .free → t.clock.stepTimer = .running 300 1000)) ∧
    (∀ s k l, s.clock.supervision = .running k l → ∃ t, exec .supervisionTimerExpiry s = .next t ∧
      t.clock.lock = .free ∧ t.clock.recaptureRun = 0 ∧ t.clock.stepTimer = .running 0 1000 ∧
      t.clock.supervision = .stopped ∧ t.clock.reference = s.clock.reference.map (· + (l - k)) ∧
      t.ports.control.attention.getLsbD 14 = true ∧
      (t.clock.minute, t.clock.seconds) = steppedTime s.clock) ∧
    (∀ s k l, s.clock.stepTimer = .running k l → ∃ t, exec .oscillatorStep s = .next t ∧
      t.clock.stepTimer = .running 0 1000 ∧ (t.clock.minute, t.clock.seconds) = steppedTime s.clock ∧
      t.clock.lock = s.clock.lock) ∧
    ∀ s, (s.clock.measuring.isRunning = false →
        exec .secondMark s = .next s ∧ exec .minuteMarkCorrection s = .next s) ∧
      (s.clock.supervision.isRunning = false → exec .supervisionTimerExpiry s = .next s) ∧
      (s.clock.stepTimer.isRunning = false → exec .oscillatorStep s = .next s)

/-- A SET_TIME out of range is refused OUT_OF_RANGE. Otherwise the clock takes the minute and seconds, becomes
valid, keeps its lock and recapture run, and in FREE restarts the oscillator step timer; the response carries
the validity before and, for a forward step of a valid clock, k. BACKWARD changes the clock alone. CLOCK_STATUS
reports the clock, clears EARLY when asked and changes nothing else; a pulse age above 65535 ms is a free value
(log 22). Validity, EARLY and the wish to clear it are sent as 1 for yes and 0 for no (log 19), and a FORWARD
step of 0 as k present and 0 (log 21, both DESIGN CHOICE); the last mark is 0 for SECOND and 1 for MINUTE (log
47, DESIGN CHOICE). -/
def Obligations.ClockRequests : Prop :=
    (∀ (p : Port) (x : List Byte) (s : State) (m q b k : Nat), decoded (.setTime p x) s = true → m = wordAt x 0 →
      q = byteAt x 2 → b = byteAt x 3 →
      (1440 ≤ m ∨ 60 ≤ q ∨ 2 ≤ b →
        exec (.setTime p x) s = .next (answered p 44 .outOfRange [] (taken p 44 x s))) ∧
      (m < 1440 → q < 60 → b < 2 → s.clock.minute < 1440 →
        k = (if m = s.clock.minute then (if s.clock.seconds ≤ q then 0 else 1440)
          else (m + 1440 - s.clock.minute) % 1440) →
        ∃ t c, exec (.setTime p x) s = .next t ∧
          c = { s.clock with
            minute := m, seconds := q, valid := true,
            stepTimer := if s.clock.lock = .free then .running 0 1000 else s.clock.stepTimer } ∧
          t.clock = c ∧
          (t.ports.get p).response = some ⟨44, .ok, putBool s.clock.valid ++
            putOpt 2 put2 (if s.clock.valid = true ∧ b = 0 then some k else none)⟩ ∧
          (s.clock.valid = true → b = 1 → t = answered p 44 .ok [1, 0, 0, 0]
            { taken p 44 x s with clock := c }))) ∧
    ∀ (p : Port) (x : List Byte) (s : State) (clear : Bool), decoded (.clockStatus p x) s = true →
      byteAt x 0 = clear.toNat → (∀ r, s.clock.reference = some r → r < 65536) →
      exec (.clockStatus p x) s = .next (answered p 45 .ok
        (put2 s.clock.minute ++ put1 s.clock.seconds ++ put1 (s.clock.minute / 15) ++ putBool s.clock.valid ++
          put1 (match s.clock.lock with | .locked => 0 | .free => 1) ++ put1 s.clock.recaptureRun ++
          putOpt 2 put2 s.clock.reference ++ putBool s.clock.early ++
          putOpt 1 put1 (s.clock.lastMark.map (fun m => match m with | .second => 0 | .minute => 1)))
        { taken p 45 x s with clock := { s.clock with early := s.clock.early && !clear } })

/-- CONFIGURE in ROAD_OPEN, ROAD_CLOSED or POSITION_LOST with no arm travelling enters INACTIVE in CONFIGURING,
stops the drive and the hold-off, takes the warnings away and keeps table, water, clock and parameters; else
NOT_READY. COMMISSION names the first inconsistent parameter, or enters SERVICE with the state computed from the
field; where all four arms are out of service and the span is seated and locked that is ROAD_OPEN (log 37,
DESIGN CHOICE: R77 orders its first two rows not). SET_PARAMETER refuses in the order of R219, or stores the
value, keeps every other parameter and answers identifier and value. -/
def Obligations.ModesAndParameters : Prop :=
    (∀ (p : Port) (x : List Byte) (s : State) (ok : Prop), decoded (.configure p x) s = true →
      (ok ↔ (s.seq.state = .roadOpen ∨ s.seq.state = .roadClosed ∨ s.seq.state = .positionLost) ∧
        ∀ a, (s.guard.arms.get a).state ≠ .lowering ∧ (s.guard.arms.get a).state ≠ .raising) →
      (¬ ok → exec (.configure p x) s = .next (answered p 46 .notReady [] (taken p 46 x s))) ∧
      (ok → ∃ u, exec (.configure p x) s = .next (answered p 46 .ok [] (settle u)) ∧ u.mode = .configuring ∧
        u.seq.state = .inactive ∧ u.seq.heldPhase = none ∧ u.seq.causes = 0 ∧ u.drive.motion = .none ∧
        u.drive.jog = none ∧ u.planner.holdOff = .stopped ∧ u.planner.roadPriority = false ∧
        (∀ a, (u.guard.approaches.get a).command = false ∧ (u.guard.approaches.get a).count = none) ∧
        u.table = s.table ∧ u.water = s.water ∧ u.clock = s.clock ∧ u.params = s.params ∧
        u.ports.control.attention.getLsbD 23 = true)) ∧
    (∀ (p : Port) (x : List Byte) (s : State) (st : SeqState), decoded (.commission p x) s = true →
      (s.params.skewLimit ≤ s.params.trimBand →
        exec (.commission p x) s = .next (answered p 47 .inconsistent [35] (taken p 47 x s))) ∧
      (s.params.trimBand < s.params.skewLimit → s.params.travelSpeed < s.params.creepSpeed →
        exec (.commission p x) s = .next (answered p 47 .inconsistent [30] (taken p 47 x s))) ∧
      (s.params.trimBand < s.params.skewLimit → s.params.creepSpeed ≤ s.params.travelSpeed →
        s.params.maxLift ≤ 2 * s.params.creepDistance →
        exec (.commission p x) s = .next (answered p 47 .inconsistent [31] (taken p 47 x s))) ∧
      (s.params.trimBand < s.params.skewLimit → s.params.creepSpeed ≤ s.params.travelSpeed →
        2 * s.params.creepDistance < s.params.maxLift → s.params.warningTime < s.params.amberTime →
        exec (.commission p x) s = .next (answered p 47 .inconsistent [19] (taken p 47 x s))) ∧
      (s.params.trimBand < s.params.skewLimit → s.params.creepSpeed ≤ s.params.travelSpeed →
        2 * s.params.creepDistance < s.params.maxLift → s.params.amberTime ≤ s.params.warningTime →
        st = (if spanSecure s = true ∧ (∀ a ∈ allArms, (s.guard.arms.get a).state = .up ∨
              (s.guard.arms.get a).state = .outOfService) then .roadOpen
            else if spanSecure s = true ∧ (∀ a ∈ allArms, (s.guard.arms.get a).state = .down ∨
              (s.guard.arms.get a).state = .outOfService) then .roadClosed
            else .positionLost) →
        ∃ v, exec (.commission p x) s = .next (answered p 47 .ok [BitVec.ofNat 8 st.ctorIdx] (settle
            (if RawInputs.emergencyStop (filtered s) then enterHalted v else tellPlanner st v))) ∧
          v.mode = .service ∧ v.seq.state = st ∧ v.seq.roadClosedByOperator = decide (st = .roadClosed) ∧
          (st ≠ .positionLost → v.drive.valid = true ∧ ∀ k, (v.drive.towers.get k).count = 0) ∧
          v.table = s.table ∧ v.params = s.params)) ∧
    ∀ (p : Port) (x : List Byte) (s : State) (i : Nat) (v : Int), decoded (.setParameter p x) s = true →
      i = byteAt x 0 → v = longAt x 1 →
      (40 ≤ i ∨ i = 0 ∨ i = 1 ∨ i = 39 →
        exec (.setParameter p x) s = .next (answered p 48 .outOfRange [] (taken p 48 x s))) ∧
      ∀ lo hi dflt live, parameterTable[i]? = some (lo, hi, dflt, live) → i ≠ 0 → i ≠ 1 → i ≠ 39 →
        (s.mode = .service → live = false →
          exec (.setParameter p x) s = .next (answered p 48 .wrongMode [] (taken p 48 x s))) ∧
        ((s.mode = .service → live = true) → v < lo ∨ hi < v ∨ i = 6 ∧ v % 100 ≠ 0 →
          exec (.setParameter p x) s = .next (answered p 48 .outOfRange [] (taken p 48 x s))) ∧
        ((s.mode = .service → live = true) → lo ≤ v → v ≤ hi → (i = 6 → v % 100 = 0) →
          ∃ t, exec (.setParameter p x) s = .next t ∧ (valuesInForce t)[i]? = some v ∧
            (∀ j, j ≠ i → j ≠ 39 → (valuesInForce t)[j]? = (valuesInForce s)[j]?) ∧
            (t.ports.get p).response =
              some { code := 48, status := .ok, payload := [BitVec.ofNat 8 i] ++ putInt4 v })

/-- A second step at seconds 59, made by the oscillator, by a pulse taken in LOCKED or by the supervision expiry,
and a minute mark at seconds 30 to 59 count one minute at the planner's three timers, raises every hold age by
1, with release at the conclusion hold time, and, with the clock valid, visits the new minute; the planner then
takes what became DUE as one event (log 35). At a visited minute each booked entry, its stamp aside, becomes DUE
at its E, or lapses at its Z, or takes the lapse mark while in the opening; at a clock slot start each DUE
timetable entry lapses, one in the opening takes the lapse mark, and then each PENDING one that matches becomes
DUE or spends its skip; all else stays. A forward step of k raises the ages by k, then visits the k minutes
passed in order (log 35 for that order); the step that makes the clock valid sweeps the table once. The line
forms of SET_TIME's answer are logs 19 and 20. That time runs on to an expiry is log 2 (DESIGN CHOICE); that the
oscillator stands at 300 ms after a minute mark is log 26 (DEDUCED). -/
def Obligations.MinuteEvents : Prop :=
    (∀ v w u : State, w = { v with
        clock := { v.clock with minute := (v.clock.minute + 1) % 1440, seconds := 0 },
        planner := { v.planner with
          holdOff := v.planner.holdOff.advance 1, roadPriorityTimer := v.planner.roadPriorityTimer.advance 1,
          maxRaised := v.planner.maxRaised.advance 1 } } →
      u = (if v.clock.valid then visitMinute w.clock.minute (ageConcluded 1 w) else ageConcluded 1 w) →
      advanceMinute v = dueEvent (newlyDue w u) u) ∧
    (∀ (s v : State) (k l : Nat), s.clock.stepTimer = .running k l → 59 ≤ s.clock.seconds → v = elapse (l - k) s →
      exec .oscillatorStep s = .next (settle (advanceMinute { v with
        clock := { v.clock with stepTimer := .running 0 1000, sinceStep := some 0 } }))) ∧
    (∀ (s v : State) (k l : Nat), s.clock.supervision = .running k l → 59 ≤ s.clock.seconds →
      v = raiseControl .clockFree (elapse (l - k) s) →
      exec .supervisionTimerExpiry s = .next (settle (advanceMinute { v with
        clock := { v.clock with
          lock := .free, supervision := .stopped, stepTimer := .running 0 1000, recaptureRun := 0 } }))) ∧
    (∀ (n : Nat) (s v : State), (∀ r, s.clock.reference = some r → 800 ≤ r + n) → s.clock.lock = .locked →
      ClockQuiet n s → 59 ≤ s.clock.seconds → v = elapse n s →
      exec (.timePulseLeadingEdge n) s = .next (settle (advanceMinute { v with
        clock := { v.clock with
          reference := some 0, measuring := .running 0 300, supervision := .running 0 1200 } }))) ∧
    (∀ (s v : State) (k l : Nat), s.clock.measuring = .running k l → 30 ≤ s.clock.seconds →
      v = raiseControl .clockStepped (elapse (l - k) s) →
      exec .minuteMarkCorrection s = .next (settle (advanceMinute { v with
        clock := { v.clock with
          measuring := .stopped, lastMark := some .minute,
          stepTimer := if s.clock.lock = .free then .running 300 1000 else v.clock.stepTimer } }))) ∧
    (∀ (s : State) (k i n : Nat) (e : Entry), TableSound s → i < 64 → e = entryAt s i →
      n = min (e.holdAge.getD 0 + k) 120 →
      (e.state ≠ .concluded → entryAt (ageConcluded k s) i = e ∧
        generationAt (ageConcluded k s) i = generationAt s i) ∧
      (e.state = .concluded → n < s.params.conclusionHold →
        entryAt (ageConcluded k s) i = { e with holdAge := some n }) ∧
      (e.state = .concluded → s.params.conclusionHold ≤ n → entryAt (ageConcluded k s) i = Entry.vacant ∧
        (generationAt (ageConcluded k s) i).value = (generationAt s i).value + 1 ∧
        i ∉ (ageConcluded k s).table.arrivalOrder)) ∧
    (∀ (s u : State) (m i : Nat) (e : Entry), TableSound s → TableShaped s → u = visitMinute m s →
      e = entryAt s i →
      (s.table.qb ≤ i ∨ i < s.table.tb ∧ m % 15 ≠ 0 → unstamped (entryAt u i) = unstamped e) ∧
      (s.table.tb ≤ i → i < s.table.qb → unstamped (entryAt u i) = unstamped
        (if e.state = .pending ∧ e.earliest = some m then
            { e with state := .due, tideHold := some (tideHeld s e.airDraft) }
          else if (e.state = .pending ∨ e.state = .due) ∧ e.latest = some m then
            { e with
              state := .concluded, outcome := some .lapsed, concludedMinute := some s.clock.minute,
              holdAge := some 0, tideHold := none, lapseMark := none, openingNumber := none }
          else if e.state.inOpening = true ∧ e.latest = some m then { e with lapseMark := some true }
          else e)) ∧
      ∀ f : Entry, i < s.table.tb → m % 15 = 0 →
        f = (if e.state = .due then
            { e with
              state := .pending, lastOutcome := some .lapsed, tideHold := none, lapseMark := none,
              openingNumber := none }
          else if e.state.inOpening = true then { e with lapseMark := some true } else e) →
        unstamped (entryAt u i) = unstamped (if f.state = .pending ∧
          f.recurrence.any (fun r => m / 15 % r.2 == r.1) = true then
            if f.skip = some true then { f with skip := some false }
            else { f with state := .due, tideHold := some (tideHeld s f.airDraft) }
          else f)) ∧
    (∀ (s u : State) (m i : Nat) (f : Entry), TableSound s → TableShaped s → u = sweepTable m s →
      f = entryAt s i →
      (s.table.qb ≤ i → unstamped (entryAt u i) = unstamped f) ∧
      (s.table.tb ≤ i → i < s.table.qb → unstamped (entryAt u i) = unstamped
        (if f.state = .pending ∧ f.earliest.any (fun n => decide ((m + 1440 - n) % 1440 <
            match f.latest with | some z => (z + 1440 - n) % 1440 | none => 720)) = true then
            { f with state := .due, tideHold := some (tideHeld s f.airDraft) }
          else f)) ∧
      (i < s.table.tb → unstamped (entryAt u i) = unstamped (if f.state = .pending ∧
        f.recurrence.any (fun r => m / 15 % r.2 == r.1) = true then
            if f.skip = some true then { f with skip := some false }
            else { f with state := .due, tideHold := some (tideHeld s f.airDraft) }
          else f))) ∧
    ∀ (p : Port) (x : List Byte) (s w u : State) (m q k : Nat), decoded (.setTime p x) s = true →
      m = wordAt x 0 → q = byteAt x 2 → m < 1440 → q < 60 → s.clock.minute < 1440 →
      w = { taken p 44 x s with clock := { s.clock with
        minute := m, seconds := q, valid := true,
        stepTimer := if s.clock.lock = .free then .running 0 1000 else s.clock.stepTimer } } →
      k = (if m = s.clock.minute then (if s.clock.seconds ≤ q then 0 else 1440)
        else (m + 1440 - s.clock.minute) % 1440) →
      (s.clock.valid = false → byteAt x 3 < 2 → u = sweepTable m w →
        exec (.setTime p x) s = .next (answered p 44 .ok [0, 0, 0, 0] (settle (dueEvent (newlyDue w u) u)))) ∧
      (s.clock.valid = true → byteAt x 3 = 0 → k ≠ 0 →
        u = (List.range k).foldl (fun v j => visitMinute ((s.clock.minute + 1 + j) % 1440) v) (ageConcluded k w) →
        exec (.setTime p x) s = .next (answered p 44 .ok ([1, 1] ++ put2 k)
          (settle (dueEvent (newlyDue w u) u))))

/-- At the first sample each arm not out of service is UP, DOWN or FAULT with reason POSITION by its switches (one
out of service stays so: log 7, DESIGN CHOICE). At later samples an arm FAULT or out of service stays; both
switches made is SWITCH_CONFLICT; a lowering arm is DOWN at its rest position, else an obstruction reverses it,
the third one finally, or faults it OBSTRUCTED where the span is not seated and locked; a raising arm is UP at
its rest position, with a retry wait after a reversal and OBSTRUCTED after the final one; an arm UP or DOWN that
leaves its rest position is UP_LOST or DOWN_LOST; a STOPPED arm completes at a rest position while HALTED is not
yet left. A raising arm faults NOT_LOCKED where the span ceases to be seated and locked. A new FAULT raises
ARM_FAULT; an arm that leaves DOWN with the span not secure, or a span that ceases to be secure with an arm not
DOWN, reports ARM_LOST, which R94 and R95 take by the sequence state. That within one sample the bolts and the
secure edge go before the arms, and an arm's end before its obstruction, is log 9 (DESIGN CHOICE). A sample that
finds the emergency-stop line made enters HALTED behind all this (log 9). -/
def Obligations.ArmsAtSample : Prop :=
    ∀ (raw x : RawInputs) (s : State), x = filtered (takeReading raw s) →
    ∃ u, exec (.inputSample raw) s =
        .next (settle (if RawInputs.emergencyStop raw then demandHalt u else u)) ∧
      (∀ (a : Arm) (r t : ArmRecord) (up down : Bool), r = s.guard.arms.get a → t = u.guard.arms.get a →
        up = RawInputs.armUp x a → down = RawInputs.armDown x a →
        (s.inputs = none →
          (r.state = .outOfService → t = r) ∧
          (r.state ≠ .outOfService →
            t.state = (match up, down with | true, false => .up | false, true => .down | _, _ => .fault) ∧
            t.commandedEnd = (if up = true ∧ down = false then .up else .down) ∧
            t.faultReason = (if up = down then some .position else none))) ∧
        (s.inputs ≠ none →
          (r.state = .outOfService ∨ r.state = .fault → t = r) ∧
          (r.state = .raising → s.guard.seatedLocked = true → spanSecure u = false →
            t.state = .fault ∧ t.faultReason = some .notLocked) ∧
          (t.state = .fault → r.state ≠ .fault → u.ports.control.attention.getLsbD 6 = true) ∧
          (¬ (r.state = .raising ∧ s.guard.seatedLocked = true ∧ spanSecure u = false) →
            (r.state ≠ .outOfService → r.state ≠ .fault → up = true → down = true →
              t.state = .fault ∧ t.faultReason = some .switchConflict) ∧
            (r.state = .lowering →
              (up = false → down = true → t.state = .down ∧ t.travel = .stopped) ∧
              (down = false → RawInputs.obstruction x a = true → spanSecure u = true →
                t.state = .raising ∧ t.obstructions = min (r.obstructions + 1) 3 ∧
                t.reversal = some (if 3 ≤ r.obstructions + 1 then .final else .reversing) ∧
                t.travel = .running 0 (1000 * s.params.armTimeout)) ∧
              (down = false → RawInputs.obstruction x a = true → spanSecure u = false →
                t.state = .fault ∧ t.faultReason = some .obstructed) ∧
              (down = false → RawInputs.obstruction x a = false → t = r)) ∧
            (r.state = .raising →
              (up = false → t = r) ∧
              (up = true → down = false →
                (r.reversal = none → t.state = .up ∧ t.retryWait = .stopped) ∧
                (r.reversal = some .reversing →
                  t.state = .up ∧ t.retryWait = .running 0 (1000 * s.params.retryTime)) ∧
                (r.reversal = some .final → t.state = .fault ∧ t.faultReason = some .obstructed))) ∧
            (r.state = .up → (up = true → down = false → t = r) ∧
              (up = false → t.state = .fault ∧ t.faultReason = some .upLost)) ∧
            (r.state = .down → (up = false → down = true → t = r) ∧
              (down = false → t.state = .fault ∧ t.faultReason = some .downLost)) ∧
            (r.state = .stopped →
              (up = false → down = false → t = r) ∧
              (up ≠ down → s.guard.halted = false → t = r) ∧
              (up ≠ down → s.guard.halted = true → t.state = (if up then .up else .down)))))) ∧
      (s.inputs ≠ none → spanSecure u = false →
        (∃ a, (s.guard.arms.get a).state = .down ∧ (u.guard.arms.get a).state = .fault) ∨
          s.guard.seatedLocked = true ∧
            (∃ a, (s.guard.arms.get a).state ≠ .down ∧ (s.guard.arms.get a).state ≠ .outOfService) →
        FaultReported .armLost s u)

/-- A bolt at rest is DRIVEN, WITHDRAWN or FAULT by its switches, with reason POSITION at neither and
SWITCH_CONFLICT at both; one timed out stays; a travelling bolt ends at its rest position, or FAULT at both
switches, and goes on while the sequence keeps its state; a conflict entered is reported, which R94 and R95 take
by the sequence state. While a measurement is RUNNING and not stopped by HALTED, the clear timer runs from the
sample that finds every in-service detector unoccupied and stops at one that does not; a detector's occupancy
timer starts at the sample that finds it newly occupied and stops at one that finds it unoccupied. A detector
found unoccupied ends its occupancy, so that the next one may set OCCUPIED_LONG (log 29). A sample that finds
the emergency-stop line made enters HALTED behind all this (log 9). Among the consequences a bolt that waits for
the seats starts DRIVING once both are made, with a fresh timer, whatever its state. -/
def Obligations.BoltsAndDeckAtSample : Prop :=
    whenever boltsWait driveWaiting ∈ followRules ∧
    (∀ s b, (boltsWait s = true ↔ seated s = true ∧ ∃ k, (s.drive.bolts.get k).waiting = true) ∧
      (driveWaiting s).drive.bolts.get b = (if (s.drive.bolts.get b).waiting then
        { state := .driving, reason := none, travel := .running 0 (1000 * s.params.lockTimeout), waiting := false }
        else s.drive.bolts.get b)) ∧
    ∀ (raw x : RawInputs) (s : State), x = filtered (takeReading raw s) →
    ∃ u, exec (.inputSample raw) s =
        .next (settle (if RawInputs.emergencyStop raw then demandHalt u else u)) ∧
      (∀ (b : Tower) (r t : BoltRecord) (dr wd : Bool), r = s.drive.bolts.get b → t = u.drive.bolts.get b →
        dr = RawInputs.driven x b → wd = RawInputs.withdrawn x b →
        (r.state = .driven ∨ r.state = .withdrawn ∨ r.state = .fault ∧ r.reason ≠ some .timeout →
          t.state = (match dr, wd with | true, false => .driven | false, true => .withdrawn | _, _ => .fault) ∧
          t.reason = (match dr, wd with
            | true, true => some .switchConflict
            | false, false => some .position
            | _, _ => none)) ∧
        (r.state = .fault → r.reason = some .timeout → t.state = .fault ∧ t.reason = some .timeout) ∧
        (r.state = .withdrawing ∨ r.state = .driving → dr = true → wd = true →
          t.state = .fault ∧ t.reason = some .switchConflict ∧ t.travel = .stopped) ∧
        (r.state = .withdrawing → dr = false → wd = true → t.state = .withdrawn ∧ t.travel = .stopped) ∧
        (r.state = .driving → dr = true → wd = false → t.state = .driven ∧ t.travel = .stopped) ∧
        (r.state = .withdrawing ∧ wd = false ∨ r.state = .driving ∧ dr = false →
          u.seq.state = s.seq.state → t = r) ∧
        (t.reason = some .switchConflict → r.reason ≠ some .switchConflict →
          FaultReported .lockSwitchConflict s u)) ∧
      (∀ (d : Detector) (r : DetectorRecord), r = s.guard.detectors.get d →
        u.guard.detectors.get d = { r with
          spent := r.spent && RawInputs.occupied x d,
          occupancy :=
            if s.guard.deck.measurement = some .running ∧ s.guard.halted = false ∧ r.inService = true then
              if RawInputs.occupied x d then
                if RawInputs.occupied (filtered s) d then r.occupancy else .running 0 (1000 * s.params.deckWaitLimit)
              else .stopped
            else r.occupancy }) ∧
      (¬ (s.guard.deck.measurement = some .running ∧ s.guard.halted = false) → u.guard.deck = s.guard.deck) ∧
      (s.guard.deck.measurement = some .running → s.guard.halted = false →
        ((∀ d, (s.guard.detectors.get d).inService = true → RawInputs.occupied x d = false) →
          u.guard.deck = { s.guard.deck with
            clear := if s.guard.deck.clear.isRunning then s.guard.deck.clear
              else .running 0 (1000 * s.params.deckClearTime) }) ∧
        ((∃ d, (s.guard.detectors.get d).inService = true ∧ RawInputs.occupied x d = true) →
          u.guard.deck = { s.guard.deck with clear := .stopped }))

/-- An ENTER raises the zone count and an EXIT lowers it, COUNT_ERROR marking the ends 8 and 0; outside the raised
phase no slot changes. On a sound table and matched slots: an ENTER takes the PROCEED_GIVEN slot of its
direction given first into the zone, its entry TRANSITING; with none, it is a CONFLICT that stops serving where
serving runs in the opposite direction, else UNLISTED. An EXIT concludes PASSED the earliest slot of the zone
list of the direction that leaves there; with none, the earliest of the opposite direction is TURNED_OUT with
the closing call set, else goes back to WAITING ahead of its direction; with none, UNLISTED. An approach that
clears with no ENTER: the kept or overdue slot is given back and removed with the closing call set, concluded
NO_SHOW where overdue, else reverted. The two edges are taken U then D, and the emergency stop behind them (log
9). -/
def Obligations.CrossingsMatched : Prop :=
    (∀ s d, ((s.channel.zoneCount < 8 → (enterCrossing d s).channel.zoneCount = s.channel.zoneCount + 1) ∧
        (8 ≤ s.channel.zoneCount → (enterCrossing d s).channel.zoneCount = s.channel.zoneCount ∧
          (enterCrossing d s).ports.control.attention.getLsbD 20 = true)) ∧
      (raisedPhase s = false → slots (enterCrossing d s) = slots s ∧ (enterCrossing d s).table = s.table)) ∧
    (∀ s e, ((s.channel.zoneCount ≠ 0 → (exitCrossing e s).channel.zoneCount = s.channel.zoneCount - 1) ∧
        (s.channel.zoneCount = 0 → (exitCrossing e s).channel.zoneCount = 0 ∧
          (exitCrossing e s).ports.control.attention.getLsbD 20 = true)) ∧
      (raisedPhase s = false → slots (exitCrossing e s) = slots s ∧ (exitCrossing e s).table = s.table)) ∧
    (∀ s d x u, SlotsMatched s → TableSound s → raisedPhase s = true → x ∈ slots s → x.direction = d →
      x.state = .proceedGiven →
      (∀ y ∈ slots s, y.direction = d → y.state = .proceedGiven → y = x ∨ x.givenAt < y.givenAt) →
      u = enterCrossing d s →
      slots u = (slots s).map (fun y => if y.serial = x.serial then
          { y with
            state := .inZone, noShow := .stopped, overdue := false, short := false, kept := false } else y) ∧
        u.channel.zoneList = s.channel.zoneList ++ [x.serial] ∧
        ∀ i, x.entry = some i → (entryAt u i).state = .transiting) ∧
    (∀ s d u, raisedPhase s = true → (∀ y ∈ slots s, ¬ (y.direction = d ∧ y.state = .proceedGiven)) →
      u = enterCrossing d s →
      (s.channel.servingRuns = true → s.channel.serving = some d.opposite →
        u.ports.control.attention.getLsbD 2 = true ∧ u.channel.serving = none ∧ u.channel.servingRuns = false) ∧
      (¬ (s.channel.servingRuns = true ∧ s.channel.serving = some d.opposite) →
        u.ports.control.attention.getLsbD 19 = true ∧ slots u = slots s ∧ u.table = s.table)) ∧
    (∀ s e d x, SlotsMatched s → TableSound s → raisedPhase s = true → d = (Edge.arrivals e).opposite →
      x.state = .inZone →
      (earliestInZone s d = some x →
        ∃ v, exitCrossing e s = checkAllDone v ∧
          slots v = (slots s).map (fun y => if y.serial = x.serial then
            { y with
              state := .done, outcome := some .passed, noShow := .stopped, overdue := false, short := false,
              kept := false } else y) ∧
          v.channel.zoneList = s.channel.zoneList.filter (· != x.serial) ∧
          (∀ i, x.entry = some i →
            (s.table.tb ≤ i → (entryAt v i).state = .concluded ∧ (entryAt v i).outcome = some .passed) ∧
            (i < s.table.tb → (entryAt v i).state = .pending ∧ (entryAt v i).lastOutcome = some .passed)) ∧
          (x.entry = none → v.ports.control.attention.getLsbD 9 = true)) ∧
      (earliestInZone s d = none → earliestInZone s d.opposite = some x → closingCall s = true →
        ∃ v, exitCrossing e s = checkAllDone v ∧
          slots v = (slots s).map (fun y => if y.serial = x.serial then
            { y with
              state := .done, outcome := some .turnedOut, noShow := .stopped, overdue := false, short := false,
              kept := false } else y) ∧
          v.channel.zoneList = s.channel.zoneList.filter (· != x.serial) ∧
          (∀ i, x.entry = some i →
            (s.table.tb ≤ i → (entryAt v i).state = .concluded ∧ (entryAt v i).outcome = some .turnedOut) ∧
            (i < s.table.tb → (entryAt v i).state = .pending ∧ (entryAt v i).lastOutcome = some .turnedOut))) ∧
      (earliestInZone s d = none → earliestInZone s d.opposite = some x → closingCall s = false →
        ∃ u y, u = exitCrossing e s ∧ firstWaiting u x.direction = some y ∧ y.serial = x.serial ∧
          y.noShow = .stopped ∧ y.overdue = false ∧ (slots u).length = (slots s).length ∧
          u.channel.zoneList = s.channel.zoneList.filter (· != x.serial) ∧
          ∀ i, x.entry = some i → (entryAt u i).state = .assigned)) ∧
    (∀ s e u, raisedPhase s = true → (∀ d, earliestInZone s d = none) → u = exitCrossing e s →
      u.ports.control.attention.getLsbD 19 = true ∧ slots u = slots s ∧ u.table = s.table) ∧
    (∀ s d x o, SlotsMatched s → TableSound s → s.seq.opening = some o → x ∈ o.slots → x.direction = d →
      x.state = .proceedGiven → x.kept = true ∨ x.overdue = true →
      (∀ y ∈ o.slots, y.direction = d → y.state = .proceedGiven → y.kept = true ∨ y.overdue = true → y = x) →
      (closingCall s = true →
        ∃ v o', approachCleared d s = checkAllDone v ∧ v.seq.opening = some o' ∧
          o'.slots = o.slots.filter (fun y => y.serial != x.serial) ∧ o'.returned = o.returned + 1 ∧
          ∀ i, x.entry = some i →
            (i < s.table.tb → (entryAt v i).state = .pending ∧ (entryAt v i).lastOutcome = some .noShow) ∧
            (s.table.tb ≤ i → (entryAt s i).lapseMark ≠ some true →
              (entryAt v i).state = .due ∧ i ∈ v.table.dueList)) ∧
      (closingCall s = false → x.overdue = true →
        ∃ v, approachCleared d s = checkAllDone v ∧
          slots v = (slots s).map (fun y => if y.serial = x.serial then
            { y with
              state := .done, outcome := some .noShow, noShow := .stopped, overdue := false, short := false,
              kept := false } else y) ∧
          (∀ i, x.entry = some i →
            (s.table.tb ≤ i → (entryAt v i).state = .concluded ∧ (entryAt v i).outcome = some .noShow) ∧
            (i < s.table.tb → (entryAt v i).state = .pending ∧ (entryAt v i).lastOutcome = some .noShow))) ∧
      (closingCall s = false → x.overdue = false →
        ∃ u, u = approachCleared d s ∧ slots u = (slots s).map (fun y => if y.serial = x.serial then
            { y with state := .waiting, noShow := .stopped, overdue := false, kept := false } else y) ∧
          ∀ i, x.entry = some i → (entryAt u i).state = .assigned)) ∧
    (∀ (before now : RawInputs) (e : Edge) (s v : State), RawInputs.outer now e = false →
      RawInputs.inner now e = false →
      v = { s with channel := { s.channel with recognizers := s.channel.recognizers.set e none } } →
      (s.channel.recognizers.get e = some .outer → RawInputs.outer before e = false →
        RawInputs.inner before e = true → edgeSample before now e s = enterCrossing (Edge.arrivals e) v) ∧
      (s.channel.recognizers.get e = some .inner → RawInputs.outer before e = true →
        RawInputs.inner before e = false →
        edgeSample before now e s = approachCleared (Edge.arrivals e) (exitCrossing e v)) ∧
      (s.channel.recognizers.get e = some .outer → RawInputs.outer before e = true →
        RawInputs.inner before e = false → edgeSample before now e s = approachCleared (Edge.arrivals e) v)) ∧
    ∀ (raw now : RawInputs) (s : State), now = filtered (takeReading raw s) →
      ∃ v u, u = edgeSample (filtered s) now .d (edgeSample (filtered s) now .u v) ∧
        exec (.inputSample raw) s = .next (settle (if RawInputs.emergencyStop raw then demandHalt u else u)) ∧
        v.channel.recognizers = s.channel.recognizers ∧ v.channel.zoneCount = s.channel.zoneCount ∧
        v.channel.zoneList = s.channel.zoneList

/-- On a sound table with its lists in order. A start takes the first 8 DUE entries, by class and within a class in
due-list order, that are neither tide-held nor fit under at L_eff; each becomes ASSIGNED with the opening's
number, off the due list, in a WAITING slot with the copies of R61 in that order; where fewer than 8 are found,
each visited one that fits under concludes NOT_NEEDED. OPEN_NOW starts so with cause OPERATOR; a start
evaluation whose conditions hold starts so with the cause of R59, or not at all where none is found. While an
opening is in progress and its closing call is clear, candidates not tide-held whose join fits fill the slots
left, in the same order; with the closing call set none joins. Entries that became DUE are such candidates, or
without an opening a start evaluation (several at once: log 35). -/
def Obligations.SelectionAndJoins : Prop :=
    (∀ p x s l, decoded (.openNow p x) s = true → TableSound s → ListsOrdered s → s.planner.roadPriority = false →
      s.seq.state = .roadOpen ∨ s.seq.state = .roadClosed →
      l = byClass (fun e => e.tideHold != some true && !fitsUnder s.params e.airDraft s.water.effective) s →
      ∃ u o, exec (.openNow p x) s = .next (answered p 19 .ok (put2 (s.seq.counter + 1).toNat) (settle u)) ∧
        u.seq.opening = some o ∧ o.slots.map (·.entry) = (l.take 8).map some ∧
        (∀ y ∈ o.slots, ∀ i, y.entry = some i →
          y.state = .waiting ∧ y.tagIndex = i ∧ y.tagGeneration = (generationAt s i).value ∧
          y.direction = (entryAt s i).direction ∧ y.cls = (entryAt s i).cls ∧
          y.airDraft = (entryAt s i).airDraft ∧ y.lift = requiredLift s (entryAt s i).airDraft ∧
          (entryAt u i).state = .assigned ∧ (entryAt u i).openingNumber = some (s.seq.counter + 1) ∧
          i ∉ u.table.dueList) ∧
        (l.length < 8 → ∀ i ∈ s.table.dueList, (entryAt s i).cls ≤ 7 → (entryAt s i).tideHold ≠ some true →
          fitsUnder s.params (entryAt s i).airDraft s.water.effective = true →
          i ∉ u.table.dueList ∧
          (s.table.tb ≤ i → (entryAt u i).state = .concluded ∧ (entryAt u i).outcome = some .notNeeded) ∧
          (i < s.table.tb → (entryAt u i).state = .pending ∧ (entryAt u i).lastOutcome = some .notNeeded))) ∧
    (∀ s l, TableSound s → ListsOrdered s → startConditions s = true →
      l = byClass (fun e => e.tideHold != some true && !fitsUnder s.params e.airDraft s.water.effective) s →
      (l = [] → (evaluateStart s).seq = s.seq) ∧
      (l ≠ [] → ∃ o, (evaluateStart s).seq.opening = some o ∧ o.slots.map (·.entry) = (l.take 8).map some ∧
        o.number = s.seq.counter + 1 ∧ o.operatorLift = false ∧ o.closingCause = none ∧
        o.cause = (if startOnClass s then .priorityClass else if startOnQueue s then .queueCritical
          else if (l.take 8).any (fun i => decide (i < s.table.tb)) then .timetable else .demand))) ∧
    (∀ s o p l, TableSound s → ListsOrdered s → s.seq.opening = some o → o.closingCause = none →
      l = (byClass (fun e => e.tideHold != some true &&
        (match o.target with
          | none => !tideHeld s e.airDraft
          | some t => decide (requiredLift s e.airDraft ≤ t))) s).filter p →
      ∃ o', (considerJoins p s).seq.opening = some o' ∧
        o'.slots.map (·.entry) = o.slots.map (·.entry) ++ (l.take (8 - o.slots.length)).map some ∧
        o'.target = o.target ∧ o'.closingCause = none ∧
        ∀ i ∈ l.take (8 - o.slots.length), (entryAt (considerJoins p s) i).state = .assigned) ∧
    (∀ s o p, TableSound s → s.seq.opening = some o → o.closingCause.isSome = true →
      (considerJoins p s).seq = s.seq ∧ (considerJoins p s).table = s.table) ∧
    ∀ l s, (l = [] → dueEvent l s = s) ∧
      (l ≠ [] → s.seq.opening.isSome = true → dueEvent l s = considerJoins (fun i => l.contains i) s) ∧
      (l ≠ [] → s.seq.opening = none → dueEvent l s = evaluateStart s)

/-- The direction taken up is the only one with a WAITING slot, else that of the better class of the two first
WAITING slots, else the one not served last, else that of the first WAITING slot; it is taken up while serving
runs with no direction and the channel conditions met, and PROCEED goes at once to its first WAITING slot, as it
does later where the serving direction has a WAITING slot and none PROCEED_GIVEN; that slot's entry is CLEARED
and whose no-show timer starts. When serving stops the direction becomes served last; a PROCEED_GIVEN slot is
kept where its approach is committed, else goes back to WAITING. A water event in the raised phase marks short
each WAITING or PROCEED_GIVEN slot whose clearance is not sufficient, raises CLEARANCE_LOW for one newly short
and CLEARANCE_LOW_IN_ZONE for one in the zone, and arms the re-lift exactly while a slot is short; before it the
check is deferred. A due re-lift request is spent; with the closing call set it is declined, else, where no
required lift exceeds Hmax, the new target is stored and LIFTING entered with a RAISE to it. Settling looks for
these among its consequences (their order: log 10). -/
def Obligations.ServingAndClearance : Prop :=
    (∀ s x y, firstWaiting s .inbound = x → firstWaiting s .outbound = y →
      (x = none → y = none → chooseDirection s = none) ∧
      (x.isSome = true → y = none → chooseDirection s = some .inbound) ∧
      (x = none → y.isSome = true → chooseDirection s = some .outbound) ∧
      ∀ a b, x = some a → y = some b →
        (a.cls < b.cls → chooseDirection s = some .inbound) ∧ (b.cls < a.cls → chooseDirection s = some .outbound) ∧
        (∀ d, a.cls = b.cls → s.channel.servedLast = some d → chooseDirection s = some d.opposite) ∧
        (a.cls = b.cls → s.channel.servedLast = none →
          chooseDirection s = ((slots s).find? (fun z => z.state == .waiting)).map (·.direction))) ∧
    (∀ s, (mayTakeUp s = true ↔ s.channel.servingRuns = true ∧ s.channel.serving = none ∧
        channelConditions s = true ∧ ∃ y ∈ slots s, y.state = .waiting) ∧
      ∀ d, chooseDirection s = some d →
        takeUp s = giveProceed d { s with channel := { s.channel with serving := some d } }) ∧
    (∀ s d x o u, SlotsMatched s → TableSound s → s.seq.opening = some o → firstWaiting s d = some x →
      u = giveProceed d s →
      slots u = o.slots.map (fun y => if y.serial = x.serial then
          { y with
            state := .proceedGiven, noShow := .running 0 (60000 * s.params.noShowTime), overdue := false,
            givenAt := o.proceedCount } else y) ∧
        ∀ i, x.entry = some i → (entryAt u i).state = .cleared) ∧
    (∀ s u, SlotsMatched s → TableSound s → u = stopServing s →
      u.channel.serving = none ∧ u.channel.servingRuns = false ∧
      u.channel.servedLast = (if s.channel.serving.isSome then s.channel.serving else s.channel.servedLast) ∧
      ∀ y ∈ slots s,
        (y.state ≠ .proceedGiven → y ∈ slots u) ∧
        (y.state = .proceedGiven → committed s y.direction = true → { y with kept := true } ∈ slots u) ∧
        (y.state = .proceedGiven → committed s y.direction = false →
          { y with state := .waiting, noShow := .stopped, overdue := false, kept := false } ∈ slots u ∧
          ∀ i, y.entry = some i → (entryAt u i).state = .assigned)) ∧
    (∀ s u, SlotsMatched s → s.seq.opening.isSome = true → u = waterAtChannel s →
      (raisedPhase s = false → u = { s with channel := { s.channel with deferredCheck := true } }) ∧
      (raisedPhase s = true →
        slots u = (slots s).map (fun y => if y.state = .waiting ∨ y.state = .proceedGiven then
          { y with short := !sufficient s y.airDraft } else y) ∧
        (u.channel.reliftArmed = true ↔ ∃ y ∈ slots u, y.short = true) ∧
        ((∃ y ∈ slots s, (y.state = .waiting ∨ y.state = .proceedGiven) ∧ y.short = false ∧
            sufficient s y.airDraft = false) → u.ports.control.attention.getLsbD 4 = true) ∧
        ((∃ y ∈ slots s, y.state = .inZone ∧ sufficient s y.airDraft = false) →
          u.ports.control.attention.getLsbD 3 = true))) ∧
    (∀ s, reliftDue s = true ↔ s.channel.reliftArmed = true ∧ (∃ y ∈ slots s, y.short = true) ∧
      s.seq.state = .raised ∧ channelConditions s = true) ∧
    (∀ s o t, s.seq.opening = some o →
      (o.closingCause.isSome = true →
        requestRelift s = { s with channel := { s.channel with reliftArmed := false } }) ∧
      (o.closingCause = none → o.operatorLift = false → (∃ y ∈ o.slots, y.state ≠ .done) →
        (∀ y ∈ o.slots, y.state ≠ .done → requiredLift s y.airDraft ≤ s.params.maxLift) →
        t = min s.params.maxLift (max 100
          (((o.slots.filter (fun y => y.state != .done)).map (fun y => requiredLift s y.airDraft)).foldl max 0)) →
        allArmsDown s = true → spanPosition s < t →
        ∃ u o', u = requestRelift s ∧ u.seq.state = .lifting ∧ u.seq.opening = some o' ∧ o'.target = some t ∧
          o'.levelUsed = some s.water.effective ∧ u.channel.reliftArmed = false ∧ u.channel.serving = none ∧
          u.drive.motion = .raise ∧ u.drive.direction = .up ∧ u.drive.target = some t)) ∧
    whenever (fun s => servingConditions s != s.channel.servingRuns) followServing ∈ followRules ∧
    whenever servingOwes followServed ∈ followRules ∧
    (∀ s, (servingOwes s = true ↔ s.channel.servingRuns = true ∧ ∃ d, s.channel.serving = some d ∧
        (∃ y ∈ slots s, y.direction = d ∧ y.state = .waiting) ∧
        ∀ y ∈ slots s, y.direction = d → y.state ≠ .proceedGiven) ∧
      ∀ d, s.channel.serving = some d → followServed s = giveProceed d s) ∧
    whenever mayTakeUp takeUp ∈ followRules ∧
    whenever reliftDue requestRelift ∈ followRules

/-- A RUNNING LOWER without a fault stops each moving tower whose seat switch is made (reference 0, brake SET), runs
the other on with P stepped toward travel or creep speed and its reference as R156 trims it, and ends when both
are stopped, LOWERING going to LOCKING; a moving tower below −100 mm with its seat released is SEAT_MISSING.
Found in a RUNNING RAISE or LOWER: SKEW, POSITION_RANGE, LEVEL, STALL; in a RUNNING DESCENT LEVEL; in a RUNNING
jog LEVEL once the switch was made, and POSITION_RANGE in FAULT_HOLD with valid positions (log 33, DEDUCED);
OVERTRAVEL at a limit switch newly made in every motion and none. A fault ends the motion with both brakes SET
and is reported, which R94 and R95 take by the sequence state: in RECOVERING the sequence returns to
POSITION_LOST without the cause. A RAISE or LOWER not RUNNING goes on untouched by any other. A DESCENT stops
its towers at their seats in every phase, and ends with both counts 0 and the positions valid. A jog goes on
while it would still be accepted, else it ends. A LOWER or DESCENT commanded with both seats made leaves the
direction DOWN (that it starts no motion: log 15, DEDUCED). -/
def Obligations.PositionSampleLowers : Prop :=
    (∀ s, allArmsDown s = true → seated s = true →
      (lowerSpan s).drive.direction = .down ∧ (descend s).drive.direction = .down) ∧
    (∀ s q : State, q = computePositions s → s.drive.motion = .lower → s.drive.phase = some .running →
      s.drive.stopAsked = false → RawInputs.level (filtered s) = true →
      |skew q| < s.params.skewLimit → outOfRange q = false → (∀ k, RawInputs.upperLimit (filtered s) k = true →
        (s.drive.towers.get k).limitBefore = true) →
      (∀ k, stalled (stepAnchor (q.drive.towers.get k)) = false) →
      (∀ k, (s.drive.towers.get k).stopped = false → RawInputs.seat (filtered s) k = false →
        -100 ≤ (q.drive.towers.get k).position) →
      ((∃ k, (s.drive.towers.get k).stopped = false ∧ RawInputs.seat (filtered s) k = false) →
        ∃ u, exec .positionSample s = .next (settle u) ∧ u.seq = s.seq ∧ u.drive.motion = .lower ∧
          u.drive.phase = some .running ∧
          u.drive.profile = (if s.params.creepDistance < spanPosition q then
              min s.params.travelSpeed (s.drive.profile + s.params.rampStep)
            else max s.params.creepSpeed (s.drive.profile - s.params.rampStep)) ∧
          ∀ k, ((s.drive.towers.get k).stopped = true ∨ RawInputs.seat (filtered s) k = true →
              (u.drive.towers.get k).stopped = true ∧ (u.drive.towers.get k).reference = 0) ∧
            ((s.drive.towers.get k).stopped = false → RawInputs.seat (filtered s) k = true →
              (u.drive.towers.get k).released = false) ∧
            ((s.drive.towers.get k).stopped = false → RawInputs.seat (filtered s) k = false →
              (u.drive.towers.get k).stopped = false ∧
              (u.drive.towers.get k).released = (s.drive.towers.get k).released ∧
              (0 ≤ u.drive.profile → 0 ≤ s.params.trimGain →
                u.drive.profile ≤ 4 * (u.drive.towers.get k).reference ∧
                (u.drive.towers.get k).reference ≤ u.drive.profile)) ∧
            (u.drive.towers.get k).reference = trimReference false u.drive.profile s.params.trimBand
              s.params.trimGain (skew q) (stoppedTowers u) k) ∧
      ((∀ k, (s.drive.towers.get k).stopped = true ∨ RawInputs.seat (filtered s) k = true) →
        ∃ u, exec .positionSample s = .next (settle u) ∧ u.drive.motion = .none ∧
          (∀ k, (u.drive.towers.get k).released = false ∧ (u.drive.towers.get k).reference = 0) ∧
          u.seq.state = (if s.seq.state = .lowering ∨ s.seq.state = .recovering then .locking else s.seq.state))) ∧
    (∀ s q : State, q = computePositions s →
      ∃ u, exec .positionSample s = .next (settle u) ∧ ∀ c : FaultCause,
        (c = .overtravel ∧ (∃ k, RawInputs.upperLimit (filtered s) k = true ∧
            (s.drive.towers.get k).limitBefore = false)) ∨
          (s.drive.phase = some .running ∧ (s.drive.motion = .raise ∨ s.drive.motion = .lower) ∧
            (c = .skew ∧ s.params.skewLimit ≤ |skew q| ∨ c = .positionRange ∧ outOfRange q = true ∨
              c = .level ∧ RawInputs.level (filtered s) = false ∨
              c = .stall ∧ ∃ k, stalled (stepAnchor (q.drive.towers.get k)) = true)) ∨
          (s.drive.phase = some .running ∧ s.drive.motion = .descent ∧ c = .level ∧
            RawInputs.level (filtered s) = false) ∨
          (s.drive.phase = some .running ∧ s.drive.motion = .jog ∧
            (c = .level ∧ RawInputs.level (filtered s) = false ∧
                (∃ j, s.drive.jog = some j ∧ j.levelMade = true) ∨
              c = .positionRange ∧ outOfRange q = true ∧ s.drive.valid = true ∧ s.seq.state = .faultHold)) →
        FaultReported c s u) ∧
    (∀ s q : State, q = computePositions s → s.drive.motion = .lower → s.drive.phase = some .running →
      s.drive.stopAsked = false → RawInputs.level (filtered s) = true →
      |skew q| < s.params.skewLimit → outOfRange q = false → (∀ k, RawInputs.upperLimit (filtered s) k = true →
        (s.drive.towers.get k).limitBefore = true) →
      (∀ k, stalled (stepAnchor (q.drive.towers.get k)) = false) →
      (∃ k, (s.drive.towers.get k).stopped = false ∧ RawInputs.seat (filtered s) k = false ∧
        (q.drive.towers.get k).position < -100) →
      ∃ u, exec .positionSample s = .next (settle u) ∧ FaultReported .seatMissing s u) ∧
    (∀ s : State, s.drive.motion = .raise ∨ s.drive.motion = .lower → s.drive.phase ≠ some .running →
      s.drive.stopAsked = false → (∀ k, RawInputs.upperLimit (filtered s) k = true →
        (s.drive.towers.get k).limitBefore = true) →
      ∃ u, exec .positionSample s = .next (settle u) ∧ u.seq = s.seq ∧ u.drive.motion = s.drive.motion ∧
        u.drive.phase = s.drive.phase ∧
        ∀ k, (u.drive.towers.get k).released = (s.drive.towers.get k).released ∧
          (u.drive.towers.get k).reference = (s.drive.towers.get k).reference) ∧
    (∀ s : State, s.drive.motion = .descent → s.drive.stopAsked = false →
      (∀ k, RawInputs.upperLimit (filtered s) k = true → (s.drive.towers.get k).limitBefore = true) →
      (s.drive.phase = some .running → RawInputs.level (filtered s) = true) →
      ((∃ k, (s.drive.towers.get k).stopped = false ∧ RawInputs.seat (filtered s) k = false) →
        ∃ u, exec .positionSample s = .next (settle u) ∧ u.seq = s.seq ∧ u.drive.motion = .descent ∧
          u.drive.phase = s.drive.phase ∧
          ∀ k, ((s.drive.towers.get k).stopped = true ∨ RawInputs.seat (filtered s) k = true →
              (u.drive.towers.get k).stopped = true) ∧
            ((s.drive.towers.get k).stopped = false → RawInputs.seat (filtered s) k = true →
              (u.drive.towers.get k).released = false ∧ (u.drive.towers.get k).reference = 0) ∧
            ((s.drive.towers.get k).stopped = false → RawInputs.seat (filtered s) k = false →
              (u.drive.towers.get k).released = (s.drive.towers.get k).released ∧
              (u.drive.towers.get k).reference = (s.drive.towers.get k).reference)) ∧
      ((∀ k, (s.drive.towers.get k).stopped = true ∨ RawInputs.seat (filtered s) k = true) →
        ∃ u, exec .positionSample s = .next (settle u) ∧ u.drive.motion = .none ∧
          (∀ k, (u.drive.towers.get k).released = false ∧ (u.drive.towers.get k).reference = 0) ∧
          u.drive.valid = true ∧ (∀ k, (u.drive.towers.get k).count = 0) ∧
          u.seq.state = (if s.seq.state = .lowering ∨ s.seq.state = .recovering then .locking else s.seq.state))) ∧
    ∀ (s q : State) (j : Jog), q = computePositions s → s.drive.motion = .jog → s.drive.jog = some j →
      s.drive.stopAsked = false → (∀ k, RawInputs.upperLimit (filtered s) k = true →
        (s.drive.towers.get k).limitBefore = true) →
      (s.drive.phase = some .running → (j.levelMade = true → RawInputs.level (filtered s) = true) ∧
        (s.drive.valid = true → s.seq.state = .faultHold → outOfRange q = false)) →
      (jogState q = true → jogAllowed j.tower j.direction q = true →
        ∃ u, exec .positionSample s = .next (settle u) ∧ u.seq = s.seq ∧ u.drive.motion = .jog ∧
          u.drive.jog = some { j with levelMade := j.levelMade || RawInputs.level (filtered s) }) ∧
      (jogState q = false ∨ jogAllowed j.tower j.direction q = false →
        ∃ u, exec .positionSample s = .next (settle u) ∧ u.seq = s.seq ∧ u.drive.motion = .none ∧
          u.drive.jog = none ∧ (∀ k, (u.drive.towers.get k).released = false ∧ (u.drive.towers.get k).reference = 0))
end

