-- ==== Sys2Proof/Laws/Frame.lean ====
section
/-!
SUPPORT. What the consequences of a change leave alone: `outer` gathers the queue, the mode, the parameters, the water,
the clock, the readings, the free-value counter, the ports but for their attention sets, the sizes of the table, the
recognizers and the zone count. One lemma for each operation that leaves it as it is.
-/

namespace Sys2Proof.Machine

/-- The sizes of the passage table and its boundaries. -/
def Table.size (t : Table) : Nat × Nat × Nat × Nat := (t.tb, t.qb, t.entries.length, t.generations.length)

/-- A port but for what is pending at it. -/
def PortRecord.quiet (r : PortRecord) : PortRecord := { r with attention := 0 }

/-- What the consequences of a change leave alone. -/
structure Outer where
  pending : List Instr
  mode : Mode
  control : PortRecord
  harbour : PortRecord
  params : Parameters
  tableSize : Nat × Nat × Nat × Nat
  water : Water
  clock : Clock
  inputs : Option (RawInputs × RawInputs × RawInputs)
  freeCount : Nat
  zoneCount : Nat
  recognizers : PerEdge (Option FirstBroken)

/-- The outer part of a state. -/
def outer (s : State) : Outer :=
  { pending := s.pending, mode := s.mode, control := s.ports.control.quiet, harbour := s.ports.harbour.quiet,
    params := s.params, tableSize := s.table.size, water := s.water, clock := s.clock, inputs := s.inputs,
    freeCount := s.freeCount, zoneCount := s.channel.zoneCount, recognizers := s.channel.recognizers }

@[simp] theorem outer_planner (s : State) (x : Planner) : outer { s with planner := x } = outer s := rfl
@[simp] theorem outer_seq (s : State) (x : Sequence) : outer { s with seq := x } = outer s := rfl
@[simp] theorem outer_guard (s : State) (x : Guard) : outer { s with guard := x } = outer s := rfl
@[simp] theorem outer_drive (s : State) (x : Drive) : outer { s with drive := x } = outer s := rfl

@[simp] theorem outer_foldl {β : Type} (f : State → β → State) (h : ∀ s b, outer (f s b) = outer s) (l : List β) (s : State) :
    outer (l.foldl f s) = outer s := by
  induction l generalizing s with
  | nil => rfl
  | cons b l ih => rw [List.foldl_cons, ih, h]

@[simp] theorem outer_mapTable (f : Table → Table) (h : ∀ t, (f t).size = t.size) (s : State) :
    outer (mapTable f s) = outer s := by
  simp only [outer, mapTable, h]

@[simp] theorem outer_setDueList (l : Table → List Nat) (s : State) :
    outer (mapTable (fun t => { t with dueList := l t }) s) = outer s := rfl

@[simp] theorem outer_setArrivalOrder (l : Table → List Nat) (s : State) :
    outer (mapTable (fun t => { t with arrivalOrder := l t }) s) = outer s := rfl

@[simp] theorem outer_mapChannel (f : Channel → Channel)
    (h : ∀ c, (f c).zoneCount = c.zoneCount ∧ (f c).recognizers = c.recognizers) (s : State) :
    outer (mapChannel f s) = outer s := by
  simp only [outer, mapChannel, (h _).1, (h _).2]

@[simp] theorem outer_raiseControl (x : ControlSource) (s : State) :
    outer (raiseControl x s) = outer s := by
  rfl

@[simp] theorem outer_raiseHarbour (x : HarbourSource) (s : State) :
    outer (raiseHarbour x s) = outer s := by
  rfl

@[simp] theorem outer_addCause (c : FaultCause) (s : State) :
    outer (addCause c s) = outer s := by
  rfl

@[simp] theorem outer_setArm (a : Arm) (r : ArmRecord) (s : State) :
    outer (setArm a r s) = outer s := by
  rfl

@[simp] theorem outer_setHead (h : Head) (r : HeadRecord) (s : State) :
    outer (setHead h r s) = outer s := by
  rfl

@[simp] theorem outer_setLamp (h : Head) (l : Lamp) (r : LampRecord) (s : State) :
    outer (setLamp h l r s) = outer s := by
  rfl

@[simp] theorem outer_setApproach (a : Approach) (r : ApproachRecord) (s : State) :
    outer (setApproach a r s) = outer s := by
  rfl

@[simp] theorem outer_setDetector (d : Detector) (r : DetectorRecord) (s : State) :
    outer (setDetector d r s) = outer s := by
  rfl

@[simp] theorem outer_setDeck (r : Deck) (s : State) :
    outer (setDeck r s) = outer s := by
  rfl

@[simp] theorem outer_setBolt (b : Tower) (r : BoltRecord) (s : State) :
    outer (setBolt b r s) = outer s := by
  rfl

@[simp] theorem outer_setTower (t : Tower) (r : TowerRecord) (s : State) :
    outer (setTower t r s) = outer s := by
  rfl

@[simp] theorem outer_mapOpening (f : Opening → Opening) (s : State) : outer (mapOpening f s) = outer s := rfl

@[simp] theorem outer_mapDrive (f : Drive → Drive) (s : State) : outer (mapDrive f s) = outer s := rfl

@[simp] theorem outer_mapPlanner (f : Planner → Planner) (s : State) : outer (mapPlanner f s) = outer s := rfl

@[simp] theorem outer_mapSeq (f : Sequence → Sequence) (s : State) : outer (mapSeq f s) = outer s := rfl

@[simp] theorem outer_mapSlot (serial : Nat) (f : Slot → Slot) (s : State) :
    outer (mapSlot serial f s) = outer s := by
  rfl

@[simp] theorem outer_rewriteLifts (s : State) :
    outer (rewriteLifts s) = outer s := by
  rfl

@[simp] theorem outer_storeTarget (t : Int) (s : State) :
    outer (storeTarget t s) = outer s := by
  rfl

@[simp] theorem outer_writeEntry (i : Nat) (e : Entry) (s : State) :
    outer (writeEntry i e s) = outer s := by
  exact outer_mapTable _ (fun t => by simp [Table.size]) s

@[simp] theorem outer_writeGeneration (i : Nat) (g : BitVec 4) (s : State) :
    outer (writeGeneration i g s) = outer s := by
  exact outer_mapTable _ (fun t => by simp [Table.size]) s

@[simp] theorem outer_refreshQueueCritical (s : State) :
    outer (refreshQueueCritical s) = outer s := by
  unfold refreshQueueCritical; dsimp only; (repeat' split) <;> rfl

@[simp] theorem outer_dropDue (i : Nat) (s : State) : outer (dropDue i s) = outer s :=
  outer_setDueList _ s

@[simp] theorem outer_leaveDue (i : Nat) (s : State) : outer (leaveDue i s) = outer s := by
  simp [leaveDue]

@[simp] theorem outer_joinDue (place : List Nat → List Nat) (s : State) : outer (joinDue place s) = outer s := by
  simp [joinDue]

@[simp] theorem outer_leaveArrivals (i : Nat) (s : State) :
    outer (leaveArrivals i s) = outer s := by
  exact outer_mapTable _ (fun t => by simp [Table.size]) s

@[simp] theorem outer_loseSlot (i : Nat) (s : State) :
    outer (loseSlot i s) = outer s := by
  rfl

@[simp] theorem outer_recordDamage (i : Nat) (s : State) :
    outer (recordDamage i s) = outer s := by
  exact outer_mapTable _ (fun t => by split <;> rfl) s

@[simp] theorem outer_joinArrivals (i : Nat) (s : State) :
    outer (joinArrivals i s) = outer s := by
  exact outer_mapTable _ (fun t => by split <;> rfl) s

@[simp] theorem outer_damageEntry (i : Nat) (s : State) :
    outer (damageEntry i s) = outer s := by
  unfold damageEntry; dsimp only; split <;> simp

@[simp] theorem outer_verifyEntry (i : Nat) (s : State) :
    outer (verifyEntry i s) = outer s := by
  unfold verifyEntry; dsimp only; (repeat' split) <;> simp

@[simp] theorem outer_verifyGeneration (i : Nat) (s : State) :
    outer (verifyGeneration i s) = outer s := by
  unfold verifyGeneration; dsimp only; (repeat' split) <;> simp

@[simp] theorem outer_verifyEntries (l : List Nat) (s : State) :
    outer (verifyEntries l s) = outer s := by
  simp [verifyEntries]

@[simp] theorem outer_verifyGenerations (l : List Nat) (s : State) :
    outer (verifyGenerations l s) = outer s := by
  simp [verifyGenerations]

@[simp] theorem outer_moveStamp (c : BitVec 16) (s : State) (i : Nat) :
    outer (moveStamp c s i) = outer s := by
  unfold moveStamp; dsimp only; split <;> simp

@[simp] theorem outer_advanceCounter (s : State) :
    outer (advanceCounter s) = outer s := by
  exact (outer_foldl _ (outer_moveStamp _) _ _).trans (outer_mapTable _ (fun t => rfl) s)

@[simp] theorem outer_readTags (p : Entry → Bool) (l : List Nat) (n : Nat) (s : State) :
    outer (readTags p l n s).1 = outer s := by
  induction l generalizing n s with
  | nil => cases n <;> rfl
  | cons i l ih =>
    cases n with
    | zero => rfl
    | succ n => unfold readTags; dsimp only; (repeat' split) <;> simp [ih]

@[simp] theorem outer_readFirst (p : Entry → Bool) (l : List Nat) (s : State) :
    outer (readFirst p l s).1 = outer s := by
  induction l generalizing s with
  | nil => rfl
  | cons i l ih => unfold readFirst; dsimp only; split <;> simp [ih]

@[simp] theorem outer_becomeDue (i : Nat) (s : State) :
    outer (becomeDue i s) = outer s := by
  simp [becomeDue]

@[simp] theorem outer_concludeEntry (i : Nat) (o : PassageOutcome) (s : State) :
    outer (concludeEntry i o s) = outer s := by
  unfold concludeEntry; split <;> simp

@[simp] theorem outer_returnEntry (i : Nat) (namedTideHeld : Bool) (s : State) :
    outer (returnEntry i namedTideHeld s) = outer s := by
  unfold returnEntry
  dsimp only
  split
  · simp
  · simp

@[simp] theorem outer_applyChange (c : Change) (i : Nat) (s : State) :
    outer (applyChange c i s) = outer s := by
  unfold applyChange; (repeat' split) <;> simp

@[simp] theorem outer_ask (c : Change) (i : Nat) (s : State) : outer (ask c i s).1 = outer s := by
  unfold ask; dsimp only; (repeat' split) <;> simp

@[simp] theorem outer_vacateEntry (i : Nat) (s : State) : outer (vacateEntry i s) = outer s := by
  simp [vacateEntry]

@[simp] theorem outer_retireEntry (i : Nat) (s : State) :
    outer (retireEntry i s) = outer s := by
  simp [retireEntry]

@[simp] theorem outer_ageEntry (k : Nat) (s : State) (i : Nat) :
    outer (ageEntry k s i) = outer s := by
  unfold ageEntry; dsimp only; (repeat' split) <;> simp

@[simp] theorem outer_ageConcluded (k : Nat) (s : State) :
    outer (ageConcluded k s) = outer s := by
  simp [ageConcluded]

@[simp] theorem outer_visitBooked (m : Nat) (s : State) (i : Nat) :
    outer (visitBooked m s i) = outer s := by
  unfold visitBooked; dsimp only; (repeat' split) <;> simp

@[simp] theorem outer_lapseTimetable (s : State) (i : Nat) :
    outer (lapseTimetable s i) = outer s := by
  unfold lapseTimetable; dsimp only; (repeat' split) <;> simp

@[simp] theorem outer_recurTimetable (clockSlot : Nat) (s : State) (i : Nat) :
    outer (recurTimetable clockSlot s i) = outer s := by
  unfold recurTimetable; dsimp only; (repeat' split) <;> simp

@[simp] theorem outer_visitMinute (m : Nat) (s : State) :
    outer (visitMinute m s) = outer s := by
  unfold visitMinute; split <;> simp

@[simp] theorem outer_sweepBooked (m : Nat) (s : State) (i : Nat) :
    outer (sweepBooked m s i) = outer s := by
  unfold sweepBooked; dsimp only; split <;> simp

@[simp] theorem outer_sweepTable (m : Nat) (s : State) :
    outer (sweepTable m s) = outer s := by
  simp [sweepTable]

@[simp] theorem outer_rewriteTideHold (s : State) (i : Nat) :
    outer (rewriteTideHold s i) = outer s := by
  unfold rewriteTideHold; dsimp only; split <;> simp

@[simp] theorem outer_rewriteTideHolds (s : State) :
    outer (rewriteTideHolds s) = outer s := by
  simp [rewriteTideHolds]

@[simp] theorem outer_readForDuplicate (identity : List Byte) (d : Direction) (s : State) :
    outer (readForDuplicate identity d s) = outer s := by
  unfold readForDuplicate; dsimp only; split <;> simp

@[simp] theorem outer_overwriteArrival (i : Nat) (s : State) :
    outer (overwriteArrival i s) = outer s := by
  unfold overwriteArrival
  dsimp only
  rw [outer_raiseHarbour, outer_raiseControl]
  exact (outer_mapTable _ (fun t => rfl) _).trans (by simp)


@[simp] theorem outer_leaveZone (serial : Nat) (s : State) :
    outer (leaveZone serial s) = outer s := by
  rfl

@[simp] theorem outer_reportIfLost (x : Slot) (s : State) :
    outer (reportIfLost x s) = outer s := by
  unfold reportIfLost; split <;> simp

@[simp] theorem outer_finishSlot (serial : Nat) (o : PassageOutcome) (s : State) :
    outer (finishSlot serial o s) = outer s := by
  unfold finishSlot; split <;> simp

@[simp] theorem outer_removeSlot (serial : Nat) (s : State) :
    outer (removeSlot serial s) = outer s := by
  unfold removeSlot; split <;> simp

@[simp] theorem outer_countReturned (s : State) :
    outer (countReturned s) = outer s := by
  rfl

@[simp] theorem outer_countWithdrawn (s : State) :
    outer (countWithdrawn s) = outer s := by
  rfl

@[simp] theorem outer_askSlot (c : Change) (serial : Nat) (s : State) : outer (askSlot c serial s).1 = outer s := by
  unfold askSlot
  split
  · rfl
  · split
    · rfl
    · have h := outer_ask c
      split <;> rename_i heq <;> (have h2 := outer_ask c ‹Nat› s; rw [heq] at h2; simpa using h2)

theorem outer_withAsked (c : Change) (serial : Nat) (f : State → State) (h : ∀ s, outer (f s) = outer s) (s : State) :
    outer (withAsked c serial f s) = outer s := by
  have h2 := outer_askSlot c serial s
  unfold withAsked
  split <;> rename_i heq <;> rw [heq] at h2
  · rw [h]; exact h2
  · exact h2

@[simp] theorem outer_returnSlot (namedTideHeld : Bool) (serial : Nat) (s : State) :
    outer (returnSlot namedTideHeld serial s) = outer s := by
  exact outer_withAsked _ _ _ (fun s => by simp) s

@[simp] theorem outer_revertSlot (serial : Nat) (s : State) :
    outer (revertSlot serial s) = outer s := by
  exact outer_withAsked _ _ _ (fun s => by simp) s

@[simp] theorem outer_keepSlot (serial : Nat) (s : State) :
    outer (keepSlot serial s) = outer s := by
  rfl

@[simp] theorem outer_dropServing (s : State) :
    outer (dropServing s) = outer s := by
  exact outer_mapChannel _ (fun c => by split <;> simp) s

@[simp] theorem outer_stopSlot (s : State) (x : Slot) :
    outer (stopSlot s x) = outer s := by
  unfold stopSlot; (repeat' split) <;> simp

@[simp] theorem outer_stopServing (s : State) :
    outer (stopServing s) = outer s := by
  simp [stopServing]

@[simp] theorem outer_closeSlot (s : State) (x : Slot) :
    outer (closeSlot s x) = outer s := by
  unfold closeSlot; (repeat' split) <;> simp

@[simp] theorem outer_setClosingCall (cause : ClosingCause) (s : State) :
    outer (setClosingCall cause s) = outer s := by
  unfold setClosingCall; (repeat' split) <;> simp

@[simp] theorem outer_checkAllDone (s : State) :
    outer (checkAllDone s) = outer s := by
  unfold checkAllDone; (repeat' split) <;> simp

@[simp] theorem outer_giveProceed (d : Direction) (s : State) :
    outer (giveProceed d s) = outer s := by
  unfold giveProceed
  split
  · rfl
  · exact outer_withAsked _ _ _ (fun s => by simp) s

@[simp] theorem outer_takeUp (s : State) :
    outer (takeUp s) = outer s := by
  unfold takeUp; split <;> simp

@[simp] theorem outer_readStanding (s : State) :
    outer (readStanding s) = outer s := by
  rfl

@[simp] theorem outer_checkSlot (s : State) (x : Slot) :
    outer (checkSlot s x) = outer s := by
  unfold checkSlot; dsimp only; (repeat' split) <;> simp

@[simp] theorem outer_rearm (counted : Bool) (s : State) :
    outer (rearm counted s) = outer s := by
  rfl

@[simp] theorem outer_clearanceCheck (counted : Bool) (s : State) :
    outer (clearanceCheck counted s) = outer s := by
  simp [clearanceCheck]

@[simp] theorem outer_checkOneSlot (serial : Nat) (s : State) :
    outer (checkOneSlot serial s) = outer s := by
  unfold checkOneSlot; split <;> simp

@[simp] theorem outer_waterAtChannel (s : State) :
    outer (waterAtChannel s) = outer s := by
  unfold waterAtChannel; (repeat' split) <;> simp

@[simp] theorem outer_fillSlot (i : Nat) (s : State) :
    outer (fillSlot i s) = outer s := by
  rfl

theorem outer_of_ask {c : Change} {i : Nat} {s t : State} {r : AskResult} (h : ask c i s = (t, r)) : outer t = outer s := by
  have h2 := outer_ask c i s
  rwa [h] at h2

@[simp] theorem outer_takeMember (number : BitVec 16) (i : Nat) (s : State) :
    outer (takeMember number i s).1 = outer s := by
  unfold takeMember
  split <;> rename_i heq <;> simpa using outer_of_ask heq

@[simp] theorem outer_considerJoin (s : State) (i : Nat) :
    outer (considerJoin s i) = outer s := by
  unfold considerJoin
  split
  · rfl
  · split
    · rfl
    · dsimp only
      split
      · rename_i o _ _ _
        have h2 := outer_takeMember o.number i (verifyEntry i s)
        split <;> rename_i heq <;> rw [heq] at h2
        · split <;> simpa using h2
        · simpa using h2
      · simp

@[simp] theorem outer_considerJoins (p : Nat → Bool) (s : State) :
    outer (considerJoins p s) = outer s := by
  simp [considerJoins]

theorem outer_selectEntry (number : BitVec 16) (acc : State × List Nat) (i : Nat) :
    outer (selectEntry number acc i).1 = outer acc.1 := by
  unfold selectEntry
  split
  · rfl
  · dsimp only
    split
    · simp
    · split
      · simp
      · have h2 := outer_takeMember number i (verifyEntry i acc.1)
        split <;> rename_i heq <;> rw [heq] at h2 <;> simpa using h2

theorem outer_selectMembers (number : BitVec 16) (s : State) : outer (selectMembers number s).1 = outer s := by
  have fold : ∀ (f : State × List Nat → Nat → State × List Nat), (∀ a i, outer (f a i).1 = outer a.1) →
      ∀ (l : List Nat) (a : State × List Nat), outer (l.foldl f a).1 = outer a.1 := by
    intro f h l
    induction l with
    | nil => intro a; rfl
    | cons b l ih => intro a; rw [List.foldl_cons, ih, h]
  exact (fold _ (fun a c => fold _ (fun a i => outer_selectEntry number a i) _ a) _ _).trans (outer_verifyEntries _ s)

@[simp] theorem outer_concludeSlot (o : PassageOutcome) (serial : Nat) (s : State) :
    outer (concludeSlot o serial s) = outer s := by
  exact outer_withAsked _ _ _ (fun s => by simp) s

@[simp] theorem outer_refreshMasts (s : State) :
    outer (refreshMasts s) = outer s := by
  rfl

@[simp] theorem outer_switchLamp (h : Head) (on : Bool) (s : State) (l : Lamp) :
    outer (switchLamp h on s l) = outer s := by
  unfold switchLamp; dsimp only; (repeat' split) <;> simp

@[simp] theorem outer_applyHead (s : State) (h : Head) :
    outer (applyHead s h) = outer s := by
  simp [applyHead]

@[simp] theorem outer_applyPhase (a : Approach) (s : State) :
    outer (applyPhase a s) = outer s := by
  simp [applyPhase]

@[simp] theorem outer_evaluateApproach (a : Approach) (s : State) :
    outer (evaluateApproach a s) = outer s := by
  unfold evaluateApproach; dsimp only; split <;> simp

@[simp] theorem outer_startCount (a : Approach) (s : State) :
    outer (startCount a s) = outer s := by
  rfl

@[simp] theorem outer_showRed (a : Approach) (s : State) :
    outer (showRed a s) = outer s := by
  simp [showRed]

@[simp] theorem outer_enterRed (a : Approach) (s : State) :
    outer (enterRed a s) = outer s := by
  unfold enterRed; split <;> simp

@[simp] theorem outer_enterDark (a : Approach) (s : State) :
    outer (enterDark a s) = outer s := by
  simp [enterDark]

@[simp] theorem outer_enterAmber (a : Approach) (s : State) :
    outer (enterAmber a s) = outer s := by
  simp [enterAmber]

@[simp] theorem outer_giveWarning (a : Approach) (s : State) :
    outer (giveWarning a s) = outer s := by
  unfold giveWarning; dsimp only; split <;> simp

@[simp] theorem outer_giveWarnings (s : State) :
    outer (giveWarnings s) = outer s := by
  simp [giveWarnings]

@[simp] theorem outer_takeWarning (a : Approach) (s : State) :
    outer (takeWarning a s) = outer s := by
  unfold takeWarning; dsimp only; split <;> simp

@[simp] theorem outer_takeWarnings (s : State) :
    outer (takeWarnings s) = outer s := by
  simp [takeWarnings]

@[simp] theorem outer_armFault (a : Arm) (why : ArmFaultReason) (s : State) :
    outer (armFault a why s) = outer s := by
  rfl

@[simp] theorem outer_commandDown (a : Arm) (s : State) :
    outer (commandDown a s) = outer s := by
  unfold commandDown; dsimp only; (repeat' split) <;> simp

@[simp] theorem outer_commandUp (a : Arm) (s : State) :
    outer (commandUp a s) = outer s := by
  unfold commandUp; dsimp only; (repeat' split) <;> simp

@[simp] theorem outer_firstArmSample (x : RawInputs) (s : State) (a : Arm) :
    outer (firstArmSample x s a) = outer s := by
  unfold firstArmSample; dsimp only; (repeat' split) <;> simp

@[simp] theorem outer_obstructArm (a : Arm) (s : State) :
    outer (obstructArm a s) = outer s := by
  unfold obstructArm; split <;> simp

@[simp] theorem outer_arriveUp (a : Arm) (s : State) :
    outer (arriveUp a s) = outer s := by
  unfold arriveUp; dsimp only; split <;> simp

@[simp] theorem outer_armSample (x : RawInputs) (s : State) (a : Arm) :
    outer (armSample x s a) = outer s := by
  unfold armSample; dsimp only; (repeat' split) <;> simp

@[simp] theorem outer_haltArm (s : State) (a : Arm) :
    outer (haltArm s a) = outer s := by
  unfold haltArm; dsimp only; split <;> simp

@[simp] theorem outer_dropRaising (s : State) (a : Arm) :
    outer (dropRaising s a) = outer s := by
  unfold dropRaising; split <;> simp

@[simp] theorem outer_startOccupancy (s : State) (d : Detector) :
    outer (startOccupancy s d) = outer s := by
  rfl

@[simp] theorem outer_stopOccupancies (s : State) :
    outer (stopOccupancies s) = outer s := by
  rfl

@[simp] theorem outer_startMeasurement (reentry : Bool) (s : State) :
    outer (startMeasurement reentry s) = outer s := by
  simp [startMeasurement]

@[simp] theorem outer_dropMeasurement (s : State) :
    outer (dropMeasurement s) = outer s := by
  rfl

@[simp] theorem outer_endOccupancy (now : RawInputs) (s : State) (d : Detector) :
    outer (endOccupancy now s d) = outer s := by
  rfl

@[simp] theorem outer_occupancySample (before now : RawInputs) (s : State) (d : Detector) :
    outer (occupancySample before now s d) = outer s := by
  unfold occupancySample; dsimp only; (repeat' split) <;> simp

@[simp] theorem outer_followClear (s : State) :
    outer (followClear s) = outer s := by
  rfl

@[simp] theorem outer_deckSample (before now : RawInputs) (s : State) :
    outer (deckSample before now s) = outer s := by
  unfold deckSample; dsimp only; split <;> simp

@[simp] theorem outer_pauseGuard (s : State) :
    outer (pauseGuard s) = outer s := by
  rfl

@[simp] theorem outer_locateTower (t : Tower) (s : State) :
    outer (locateTower t s) = outer s := by
  rfl

@[simp] theorem outer_computePositions (s : State) :
    outer (computePositions s) = outer s := by
  rfl

@[simp] theorem outer_seatZeroing (s : State) :
    outer (seatZeroing s) = outer s := by
  unfold seatZeroing; dsimp only; split <;> simp

@[simp] theorem outer_turnDown (s : State) :
    outer (turnDown s) = outer s := by
  rfl

@[simp] theorem outer_endMotion (s : State) :
    outer (endMotion s) = outer s := by
  rfl

@[simp] theorem outer_stopLocks (s : State) :
    outer (stopLocks s) = outer s := by
  rfl

@[simp] theorem outer_brakesSet (s : State) :
    outer (brakesSet s) = outer s := by
  rfl

@[simp] theorem outer_holdMotion (why : HoldReason) (s : State) :
    outer (holdMotion why s) = outer s := by
  rfl

@[simp] theorem outer_beginPhase (s : State) :
    outer (beginPhase s) = outer s := by
  unfold beginPhase; (repeat' split) <;> simp

@[simp] theorem outer_startMotion (m : Motion) (dir : Vertical) (target : Option Int) (s : State) :
    outer (startMotion m dir target s) = outer s := by
  simp [startMotion]

@[simp] theorem outer_setReferences (s : State) :
    outer (setReferences s) = outer s := by
  rfl

@[simp] theorem outer_runMotion (s : State) :
    outer (runMotion s) = outer s := by
  unfold runMotion; (repeat' split) <;> simp

@[simp] theorem outer_stepProfile (s : State) :
    outer (stepProfile s) = outer s := by
  rfl

@[simp] theorem outer_seatStop (x : RawInputs) (t : Tower) (s : State) :
    outer (seatStop x t s) = outer s := by
  unfold seatStop; dsimp only; split <;> simp

@[simp] theorem outer_startJog (t : Tower) (dir : Vertical) (s : State) :
    outer (startJog t dir s) = outer s := by
  rfl

@[simp] theorem outer_endJog (s : State) :
    outer (endJog s) = outer s := by
  unfold endJog; split <;> simp

@[simp] theorem outer_boltsSample (x : RawInputs) (s : State) :
    outer (boltsSample x s) = outer s := by
  rfl

@[simp] theorem outer_withdrawBolts (s : State) :
    outer (withdrawBolts s) = outer s := by
  rfl

@[simp] theorem outer_driveBolts (s : State) :
    outer (driveBolts s) = outer s := by
  rfl

@[simp] theorem outer_driveWaiting (s : State) :
    outer (driveWaiting s) = outer s := by
  rfl


@[simp] theorem outer_setSeq (st : SeqState) (s : State) :
    outer (setSeq st s) = outer s := by
  unfold setSeq; dsimp only; (repeat' split) <;> simp

@[simp] theorem outer_startHoldOff (s : State) :
    outer (startHoldOff s) = outer s := by
  rfl

@[simp] theorem outer_clearSlot (s : State) (x : Slot) :
    outer (clearSlot s x) = outer s := by
  unfold clearSlot; split
  · rfl
  · exact outer_withAsked _ _ _ (fun s => by simp) s
  · simp

@[simp] theorem outer_closeRecord (st : SeqState) (s : State) :
    outer (closeRecord st s) = outer s := by
  unfold closeRecord; split <;> simp

@[simp] theorem outer_endOpening (st : SeqState) (s : State) :
    outer (endOpening st s) = outer s := by
  simp [endOpening]

@[simp] theorem outer_enterDeckClearing (reentry : Bool) (s : State) :
    outer (enterDeckClearing reentry s) = outer s := by
  simp [enterDeckClearing]

@[simp] theorem outer_startOpening (operator : Bool) (s : State) :
    outer (startOpening operator s) = outer s := by
  unfold startOpening
  dsimp only
  have h2 := outer_selectMembers (s.seq.counter + 1) s
  (repeat' split) <;> simpa using h2

@[simp] theorem outer_evaluateStart (s : State) :
    outer (evaluateStart s) = outer s := by
  unfold evaluateStart; dsimp only; split <;> simp

@[simp] theorem outer_dueEvent (candidates : List Nat) (s : State) :
    outer (dueEvent candidates s) = outer s := by
  unfold dueEvent; (repeat' split) <;> simp

@[simp] theorem outer_enterRoadOpen (s : State) :
    outer (enterRoadOpen s) = outer s := by
  simp [enterRoadOpen]

@[simp] theorem outer_enterRoadClosed (s : State) :
    outer (enterRoadClosed s) = outer s := by
  simp [enterRoadClosed]

@[simp] theorem outer_enterExitClosing (s : State) :
    outer (enterExitClosing s) = outer s := by
  simp [enterExitClosing]

@[simp] theorem outer_enterWindWait (s : State) :
    outer (enterWindWait s) = outer s := by
  simp [enterWindWait]

@[simp] theorem outer_enterUnlocking (s : State) :
    outer (enterUnlocking s) = outer s := by
  simp [enterUnlocking]

@[simp] theorem outer_enterLocking (s : State) :
    outer (enterLocking s) = outer s := by
  simp [enterLocking]

@[simp] theorem outer_raiseArm (a : Arm) (s : State) :
    outer (raiseArm a s) = outer s := by
  unfold raiseArm; split <;> simp

@[simp] theorem outer_enterBarriersRaising (s : State) :
    outer (enterBarriersRaising s) = outer s := by
  simp [enterBarriersRaising]

@[simp] theorem outer_enterRaised (s : State) :
    outer (enterRaised s) = outer s := by
  unfold enterRaised; dsimp only; (repeat' split) <;> simp

@[simp] theorem outer_reportFault (c : FaultCause) (s : State) : outer (reportFault c s) = outer s := by
  unfold reportFault; (repeat' split) <;> simp

@[simp] theorem outer_foundFaults (l : List FaultCause) (s : State) :
    outer (foundFaults l s) = outer s := by
  unfold foundFaults; split <;> simp

@[simp] theorem outer_enterHalted (s : State) :
    outer (enterHalted s) = outer s := by
  simp [enterHalted]

@[simp] theorem outer_demandHalt (s : State) :
    outer (demandHalt s) = outer s := by
  unfold demandHalt; split <;> simp

@[simp] theorem outer_targetReached (s : State) :
    outer (targetReached s) = outer s := by
  unfold targetReached; split <;> simp

@[simp] theorem outer_seatsReached (s : State) :
    outer (seatsReached s) = outer s := by
  unfold seatsReached; split <;> simp

@[simp] theorem outer_raiseSpan (s : State) :
    outer (raiseSpan s) = outer s := by
  unfold raiseSpan; (repeat' split) <;> simp

@[simp] theorem outer_lowerSpan (s : State) :
    outer (lowerSpan s) = outer s := by
  unfold lowerSpan; (repeat' split) <;> simp

@[simp] theorem outer_descend (s : State) :
    outer (descend s) = outer s := by
  unfold descend; (repeat' split) <;> simp

@[simp] theorem outer_enterLifting (s : State) :
    outer (enterLifting s) = outer s := by
  simp [enterLifting]

@[simp] theorem outer_enterLowering (s : State) :
    outer (enterLowering s) = outer s := by
  simp [enterLowering]

@[simp] theorem outer_leaveExitClosing (s : State) :
    outer (leaveExitClosing s) = outer s := by
  unfold leaveExitClosing; (repeat' split) <;> simp

@[simp] theorem outer_leaveLocking (s : State) :
    outer (leaveLocking s) = outer s := by
  unfold leaveLocking; (repeat' split) <;> simp

@[simp] theorem outer_abandonWind (cause : ClosingCause) (s : State) :
    outer (abandonWind cause s) = outer s := by
  unfold abandonWind; split <;> simp

@[simp] theorem outer_mayClose (a : Approach) (s : State) :
    outer (mayClose a s) = outer s := by
  unfold mayClose; split <;> simp

@[simp] theorem outer_takeRelift (s : State) :
    outer (takeRelift s) = outer s := by
  unfold takeRelift; dsimp only; (repeat' split) <;> simp

@[simp] theorem outer_recommandEntry (a : Approach) (s : State) :
    outer (recommandEntry a s) = outer s := by
  unfold recommandEntry; split <;> simp

@[simp] theorem outer_leaveHalt (s : State) : outer (leaveHalt s) = outer s := rfl

@[simp] theorem outer_reenter (p : SeqState) (s : State) :
    outer (reenter p s) = outer s := by
  unfold reenter; dsimp only; (repeat' split) <;> simp

@[simp] theorem outer_followSecure (s : State) :
    outer (followSecure s) = outer s := by
  unfold followSecure; dsimp only; (repeat' split) <;> simp

@[simp] theorem outer_followArms (s : State) :
    outer (followArms s) = outer s := by
  unfold followArms; dsimp only; split <;> simp

@[simp] theorem outer_followChannel (s : State) :
    outer (followChannel s) = outer s := by
  unfold followChannel; dsimp only; (repeat' split) <;> simp

@[simp] theorem outer_followBolts (s : State) :
    outer (followBolts s) = outer s := by
  unfold followBolts; split <;> simp

@[simp] theorem outer_followRed (a : Approach) (s : State) :
    outer (followRed a s) = outer s := by
  unfold followRed; split <;> simp

@[simp] theorem outer_followClearTimer (s : State) :
    outer (followClearTimer s) = outer s := by
  rfl

@[simp] theorem outer_followServing (s : State) :
    outer (followServing s) = outer s := by
  unfold followServing; split <;> simp

@[simp] theorem outer_followServed (s : State) :
    outer (followServed s) = outer s := by
  unfold followServed; split <;> simp

@[simp] theorem outer_followOwed (s : State) :
    outer (followOwed s) = outer s := by
  unfold followOwed; split <;> simp

@[simp] theorem outer_requestRelift (s : State) :
    outer (requestRelift s) = outer s := by
  unfold requestRelift; dsimp only; split <;> simp

@[simp] theorem outer_advancePhase (s : State) :
    outer (advancePhase s) = outer s := by
  unfold advancePhase; (repeat' split) <;> simp


/-! ## The loop of consequences -/

/-- The list of rules leaves alone what each of its rules leaves alone. -/
theorem outer_firstRule (l : List (State → Option State)) (h : ∀ r ∈ l, ∀ s t, r s = some t → outer t = outer s)
    (s t : State) (e : firstRule l s = some t) : outer t = outer s := by
  induction l with
  | nil => simp [firstRule] at e
  | cons r rest ih =>
    unfold firstRule at e
    split at e
    · rename_i u hu
      injection e with e
      subst e
      exact h r (by simp) s u hu
    · exact ih (fun r' hr => h r' (by simp [hr])) e

theorem outer_whenever (c : State → Bool) (f : State → State) (h : ∀ s, outer (f s) = outer s) (s t : State)
    (e : whenever c f s = some t) : outer t = outer s := by
  unfold whenever at e
  split at e
  · injection e with e
    subst e
    exact h s
  · cases e

/-- One consequence leaves the outer part alone. -/
theorem outer_follow (s t : State) (e : follow s = some t) : outer t = outer s := by
  refine outer_firstRule _ ?_ s t e
  intro r hr
  simp only [followRules, List.mem_cons, List.not_mem_nil, or_false] at hr
  rcases hr with h | h | h | h | h | h | h | h | h | h | h | h | h | h | h | h <;> subst h <;>
    exact fun s t => outer_whenever _ _ (fun s => by simp) s t

theorem outer_iterate (n : Nat) (s : State) : outer (iterate follow n s) = outer s := by
  induction n generalizing s with
  | zero => rfl
  | succ n ih =>
    unfold iterate
    split
    · rfl
    · rename_i t ht
      rw [ih, outer_follow s t ht]

@[simp] theorem outer_keepInterlocks (s : State) : outer (keepInterlocks s) = outer s := by
  unfold keepInterlocks; (repeat' split) <;> simp

/-- The consequences of a change leave the outer part alone. -/
@[simp] theorem outer_settle (s : State) : outer (settle s) = outer s := by
  unfold settle
  rw [outer_refreshMasts, outer_keepInterlocks, outer_iterate]

end Sys2Proof.Machine
end

