-- ==== Sys2Proof/Laws/FrameRequests.lean ====
section
/-!
SUPPORT. The commands' own operations that leave the outer part of the state alone (see Laws/Frame.lean).
-/

namespace Sys2Proof.Machine

@[simp] theorem outer_sampleBolts (s : State) :
    outer (sampleBolts s) = outer s := by
  unfold sampleBolts; dsimp only; (repeat' split) <;> simp

@[simp] theorem outer_sampleArms (first : Bool) (s : State) :
    outer (sampleArms first s) = outer s := by
  unfold sampleArms; dsimp only; (repeat' split) <;> simp

@[simp] theorem outer_firstPhase (a : Approach) (s : State) :
    outer (firstPhase a s) = outer s := by
  unfold firstPhase
  split
  · exact outer_showRed a s
  · exact outer_enterDark a s

@[simp] theorem outer_firstPhases (s : State) :
    outer (firstPhases s) = outer s := by
  rw [firstPhases, outer_firstPhase, outer_firstPhase]

@[simp] theorem outer_rememberLimits (x : RawInputs) (s : State) :
    outer (rememberLimits x s) = outer s := by
  rfl

@[simp] theorem outer_stepAnchors (s : State) :
    outer (stepAnchors s) = outer s := by
  rfl

@[simp] theorem outer_noteLevel (x : RawInputs) (s : State) :
    outer (noteLevel x s) = outer s := by
  rfl

@[simp] theorem outer_sampleRaise (s : State) :
    outer (sampleRaise s) = outer s := by
  unfold sampleRaise; (repeat' split) <;> simp

@[simp] theorem outer_sampleLower (x : RawInputs) (s : State) :
    outer (sampleLower x s) = outer s := by
  unfold sampleLower; dsimp only; (repeat' split) <;> simp

@[simp] theorem outer_sampleDescent (x : RawInputs) (s : State) :
    outer (sampleDescent x s) = outer s := by
  unfold sampleDescent; dsimp only; split <;> simp

@[simp] theorem outer_sampleJog (s : State) :
    outer (sampleJog s) = outer s := by
  unfold sampleJog; (repeat' split) <;> simp

@[simp] theorem outer_sampleMotion (x : RawInputs) (s : State) :
    outer (sampleMotion x s) = outer s := by
  unfold sampleMotion; dsimp only; (repeat' split) <;> simp

@[simp] theorem outer_sampleStop (s : State) :
    outer (sampleStop s) = outer s := by
  unfold sampleStop; (repeat' split) <;> simp

@[simp] theorem outer_positionSample (s : State) :
    outer (positionSample s) = outer s := by
  unfold positionSample; dsimp only; (repeat' split) <;> simp

@[simp] theorem outer_encoderEdge (t : Tower) (a b : Bool) (s : State) :
    outer (encoderEdge t a b s) = outer s := by
  unfold encoderEdge; dsimp only; split <;> simp

@[simp] theorem outer_boltTimeout (b : Tower) (s : State) :
    outer (boltTimeout b s) = outer s := by
  simp [boltTimeout]

@[simp] theorem outer_countMinute (s : State) :
    outer (countMinute s) = outer s := by
  rfl

@[simp] theorem outer_minuteEvent (s : State) :
    outer (minuteEvent s) = outer s := by
  unfold minuteEvent withDueEvent
  dsimp only
  split <;> simp

@[simp] theorem outer_storeRecord (due : Bool) (i : Nat) (e : Entry) (s : State) :
    outer (storeRecord due i e s) = outer s := by
  unfold storeRecord; split <;> simp

@[simp] theorem outer_dueEvent_settle (l : List Nat) (s : State) : outer (settle (dueEvent l s)) = outer s := by simp

@[simp] theorem outer_settleStored (due : Bool) (i : Nat) (s : State) : outer (settleStored due i s) = outer s := by
  unfold settleStored; split <;> simp

@[simp] theorem outer_allocate (l : List Nat) (s : State) : outer (allocate l s).1 = outer s := by
  induction l generalizing s with
  | nil => rfl
  | cons i l ih => unfold allocate; dsimp only; (repeat' split) <;> simp [ih]

@[simp] theorem outer_earliestIn (st : EntryState) (l : List Nat) (s : State) : outer (earliestIn st l s).1 = outer s := by
  induction l generalizing s with
  | nil => rfl
  | cons i l ih => unfold earliestIn; dsimp only; (repeat' split) <;> simp [ih]

@[simp] theorem outer_allocateArrival (s : State) : outer (allocateArrival s).1 = outer s := by
  unfold allocateArrival
  have h1 := outer_allocate (regionOf s.table .arrival) s
  split <;> rename_i e1 <;> rw [e1] at h1
  · exact h1
  · rename_i s1
    have h2 := outer_earliestIn .concluded s1.table.arrivalOrder s1
    split <;> rename_i e2 <;> rw [e2] at h2
    · simpa [h2] using h1
    · rename_i s2
      have h3 := outer_earliestIn .due s2.table.arrivalOrder s2
      split <;> rename_i e3 <;> rw [e3] at h3
      · simpa [h3, h2] using h1
      · simpa [h3, h2] using h1

@[simp] theorem outer_checkTag (i g : Nat) (s : State) : outer (checkTag i g s).1 = outer s := by
  unfold checkTag; dsimp only; (repeat' split) <;> simp

@[simp] theorem outer_ownCreateBooking (p : List Byte) (s : State) :
    outer (ownCreateBooking p s).1 = outer s := by
  unfold ownCreateBooking
  dsimp only
  (repeat' split) <;> first
    | (simp; done)
    | (rename_i heq; have h := congrArg (fun x => outer x.1) heq; simp at h; simp; exact h.symm)

@[simp] theorem outer_ownCreateTimetable (p : List Byte) (s : State) :
    outer (ownCreateTimetable p s).1 = outer s := by
  unfold ownCreateTimetable
  dsimp only
  (repeat' split) <;> first
    | (simp; done)
    | (rename_i heq; have h := congrArg (fun x => outer x.1) heq; simp at h; simp; exact h.symm)

@[simp] theorem outer_ownPostArrival (p : List Byte) (s : State) :
    outer (ownPostArrival p s).1 = outer s := by
  unfold ownPostArrival
  dsimp only
  (repeat' split) <;> first
    | (simp; done)
    | (rename_i heq; have h := congrArg (fun x => outer x.1) heq; simp at h; simp; exact h.symm)

@[simp] theorem outer_retestWindow (i : Nat) (s : State) :
    outer (retestWindow i s) = outer s := by
  unfold retestWindow; dsimp only; (repeat' split) <;> simp

@[simp] theorem outer_storeAmended (i : Nat) (a : Int) (c : Nat) (w : Option (Nat × Option Nat)) (s : State) :
    outer (storeAmended i a c w s) = outer s := by
  unfold storeAmended; split <;> simp

@[simp] theorem outer_amendEvent (i : Nat) (s : State) :
    outer (amendEvent i s) = outer s := by
  unfold amendEvent; split <;> simp

@[simp] theorem outer_ownAmend (p : List Byte) (i : Nat) (s : State) :
    outer (ownAmend p i s).1 = outer s := by
  unfold ownAmend; dsimp only; (repeat' split) <;> simp

@[simp] theorem outer_amendTagged (port : Port) (p : List Byte) (s : State) :
    outer (amendTagged port p s).1 = outer s := by
  unfold amendTagged
  dsimp only
  (repeat' split) <;> first
    | (simp; done)
    | (rename_i heq; have h := congrArg (fun x => outer x.1) heq; simp at h; simp; exact h.symm)
    | (rename_i heq _; have h := congrArg (fun x => outer x.1) heq; simp at h; simp; exact h.symm)

@[simp] theorem outer_freeSlot (i : Nat) (s : State) :
    outer (freeSlot i s) = outer s := by
  unfold freeSlot; split <;> simp

@[simp] theorem outer_afterFreed (s : State) :
    outer (afterFreed s) = outer s := by
  unfold afterFreed; dsimp only; split <;> simp

@[simp] theorem outer_ownWithdraw (i : Nat) (s : State) :
    outer (ownWithdraw i s).1 = outer s := by
  unfold ownWithdraw; dsimp only; (repeat' split) <;> simp

@[simp] theorem outer_withdrawTagged (port : Port) (p : List Byte) (s : State) :
    outer (withdrawTagged port p s).1 = outer s := by
  unfold withdrawTagged
  dsimp only
  (repeat' split) <;> first
    | (simp; done)
    | (rename_i heq; have h := congrArg (fun x => outer x.1) heq; simp at h; simp; exact h.symm)
    | (rename_i heq _; have h := congrArg (fun x => outer x.1) heq; simp at h; simp; exact h.symm)

@[simp] theorem outer_ownRelease (i : Nat) (s : State) :
    outer (ownRelease i s).1 = outer s := by
  unfold ownRelease; dsimp only; split <;> simp

@[simp] theorem outer_ownDeleteTimetable (i : Nat) (s : State) :
    outer (ownDeleteTimetable i s).1 = outer s := by
  unfold ownDeleteTimetable; dsimp only; (repeat' split) <;> simp

@[simp] theorem outer_ownLookUp (i : Nat) (s : State) :
    outer (ownLookUp i s).1 = outer s := by
  rfl

@[simp] theorem outer_ownFind (p : List Byte) (s : State) :
    outer (ownFind p s).1 = outer s := by
  unfold ownFind; dsimp only; split <;> simp

@[simp] theorem outer_ownList (p : List Byte) (s : State) :
    outer (ownList p s).1 = outer s := by
  unfold ownList
  dsimp only
  split
  · rfl
  · exact (outer_settle _).trans ((outer_readFirst _ _ _).trans (outer_readTags _ _ _ _))

@[simp] theorem outer_ownListDue (p : List Byte) (s : State) :
    outer (ownListDue p s).1 = outer s := by
  simp [ownListDue]

@[simp] theorem outer_ownQueueStatus (s : State) :
    outer (ownQueueStatus s).1 = outer s := by
  simp [ownQueueStatus]

@[simp] theorem outer_ownClearDamage (s : State) :
    outer (ownClearDamage s).1 = outer s := by
  rfl

@[simp] theorem outer_waterAtPlanner (s : State) :
    outer (waterAtPlanner s) = outer s := by
  unfold waterAtPlanner; dsimp only; (repeat' split) <;> simp

@[simp] theorem outer_waterEvent (s : State) :
    outer (waterEvent s) = outer s := by
  unfold waterEvent; split <;> simp

@[simp] theorem outer_ownClearanceStatus (q : List Byte) (s : State) :
    outer (ownClearanceStatus q s).1 = outer s := by
  unfold ownClearanceStatus; (repeat' split) <;> simp

@[simp] theorem outer_endRoadPriority (s : State) :
    outer (endRoadPriority s) = outer s := by
  unfold endRoadPriority; dsimp only; split <;> simp

@[simp] theorem outer_ownOpenNow (s : State) :
    outer (ownOpenNow s).1 = outer s := by
  unfold ownOpenNow; split <;> simp

@[simp] theorem outer_ownCloseSpan (s : State) :
    outer (ownCloseSpan s).1 = outer s := by
  unfold ownCloseSpan; (repeat' split) <;> simp

@[simp] theorem outer_giveUpClosure (cause : ClosingCause) (s : State) :
    outer (giveUpClosure cause s) = outer s := by
  unfold giveUpClosure; dsimp only; (repeat' split) <;> simp

@[simp] theorem outer_setRoadPriority (s : State) :
    outer (setRoadPriority s) = outer s := by
  rfl

@[simp] theorem outer_ownRoadPriority (s : State) :
    outer (ownRoadPriority s).1 = outer s := by
  unfold ownRoadPriority; (repeat' split) <;> simp

@[simp] theorem outer_ownRoadPriorityEnd (s : State) :
    outer (ownRoadPriorityEnd s).1 = outer s := by
  unfold ownRoadPriorityEnd; split <;> simp

@[simp] theorem outer_ownCloseNavigation (s : State) :
    outer (ownCloseNavigation s).1 = outer s := by
  rfl

@[simp] theorem outer_ownOpenNavigation (s : State) :
    outer (ownOpenNavigation s).1 = outer s := by
  unfold ownOpenNavigation; split <;> simp

@[simp] theorem outer_askDescent (s : State) :
    outer (askDescent s) = outer s := by
  simp [askDescent]

@[simp] theorem outer_ownAbandon (s : State) :
    outer (ownAbandon s).1 = outer s := by
  unfold ownAbandon; (repeat' split) <;> simp

@[simp] theorem outer_ownOpeningStatus (s : State) :
    outer (ownOpeningStatus s).1 = outer s := by
  rfl

@[simp] theorem outer_closeRoad (origin : ClosureOrigin) (s : State) :
    outer (closeRoad origin s) = outer s := by
  simp [closeRoad]

@[simp] theorem outer_ownCloseRoad (s : State) :
    outer (ownCloseRoad s).1 = outer s := by
  unfold ownCloseRoad; split <;> simp

@[simp] theorem outer_ownReopenRoad (s : State) :
    outer (ownReopenRoad s).1 = outer s := by
  unfold ownReopenRoad; split <;> simp

@[simp] theorem outer_ownStop (s : State) :
    outer (ownStop s).1 = outer s := by
  simp [ownStop]

@[simp] theorem outer_resumePhase (s : State) :
    outer (resumePhase s) = outer s := by
  unfold resumePhase; split <;> simp

@[simp] theorem outer_ownResume (s : State) :
    outer (ownResume s).1 = outer s := by
  unfold ownResume; (repeat' split) <;> simp

@[simp] theorem outer_startRecovery (s : State) :
    outer (startRecovery s) = outer s := by
  simp [startRecovery]

@[simp] theorem outer_ownRecoverSeat (s : State) :
    outer (ownRecoverSeat s).1 = outer s := by
  unfold ownRecoverSeat; split <;> simp

@[simp] theorem outer_ownSequenceStatus (s : State) :
    outer (ownSequenceStatus s).1 = outer s := by
  rfl

@[simp] theorem outer_nextHalf (a : Approach) (s : State) :
    outer (nextHalf a s) = outer s := by
  simp [nextHalf]

@[simp] theorem outer_accrue (h : Head) (read : HeadRecord → Bool) (write : HeadRecord → HeadRecord) (s : State) :
    outer (accrue h read write s) = outer s := by
  unfold accrue; dsimp only; split <;> simp

@[simp] theorem outer_accrueFailure (h : Head) (l : Lamp) (s : State) :
    outer (accrueFailure h l s) = outer s := by
  unfold accrueFailure; dsimp only; (repeat' split) <;> simp

@[simp] theorem outer_proveLamp (h : Head) (l : Lamp) (s : State) :
    outer (proveLamp h l s) = outer s := by
  unfold proveLamp; dsimp only; (repeat' split) <;> simp

@[simp] theorem outer_checkOff (h : Head) (l : Lamp) (s : State) :
    outer (checkOff h l s) = outer s := by
  unfold checkOff; split <;> simp

@[simp] theorem outer_completeCount (a : Approach) (s : State) :
    outer (completeCount a s) = outer s := by
  unfold completeCount; split <;> simp

@[simp] theorem outer_ownConfirmUnwarned (p : List Byte) (s : State) :
    outer (ownConfirmUnwarned p s).1 = outer s := by
  unfold ownConfirmUnwarned; (repeat' split) <;> simp

@[simp] theorem outer_clearLamp (h : Head) (s : State) (l : Lamp) :
    outer (clearLamp h s l) = outer s := by
  rfl

@[simp] theorem outer_ownClearLamp (p : List Byte) (s : State) :
    outer (ownClearLamp p s).1 = outer s := by
  unfold ownClearLamp; (repeat' split) <;> simp

@[simp] theorem outer_removeHead (h : Head) (s : State) :
    outer (removeHead h s) = outer s := by
  simp [removeHead]

@[simp] theorem outer_returnHead (h : Head) (s : State) :
    outer (returnHead h s) = outer s := by
  simp [returnHead]

@[simp] theorem outer_ownHeadService (p : List Byte) (s : State) :
    outer (ownHeadService p s).1 = outer s := by
  unfold ownHeadService; (repeat' split) <;> simp

@[simp] theorem outer_clearHeadFlags (flags : Nat) (s : State) (h : Head) :
    outer (clearHeadFlags flags s h) = outer s := by
  rfl

@[simp] theorem outer_clearDetectorFlag (flags : Nat) (s : State) (d : Detector) :
    outer (clearDetectorFlag flags s d) = outer s := by
  rfl

@[simp] theorem outer_ownClearRoadStatus (p : List Byte) (s : State) :
    outer (ownClearRoadStatus p s).1 = outer s := by
  unfold ownClearRoadStatus; (repeat' split) <;> simp

@[simp] theorem outer_retryLowering (a : Arm) (s : State) :
    outer (retryLowering a s) = outer s := by
  unfold retryLowering; split <;> simp

@[simp] theorem outer_retryArm (a : Arm) (s : State) :
    outer (retryArm a s) = outer s := by
  unfold retryArm; dsimp only; split <;> simp

@[simp] theorem outer_ownArmRetry (p : List Byte) (s : State) :
    outer (ownArmRetry p s).1 = outer s := by
  unfold ownArmRetry; (repeat' split) <;> simp

@[simp] theorem outer_removeArm (a : Arm) (s : State) :
    outer (removeArm a s) = outer s := by
  rfl

@[simp] theorem outer_returnArm (a : Arm) (s : State) :
    outer (returnArm a s) = outer s := by
  unfold returnArm; split <;> simp

@[simp] theorem outer_ownArmService (p : List Byte) (s : State) :
    outer (ownArmService p s).1 = outer s := by
  unfold ownArmService; dsimp only; (repeat' split) <;> simp

@[simp] theorem outer_deckIsClear (s : State) :
    outer (deckIsClear s) = outer s := by
  unfold deckIsClear; split <;> simp

@[simp] theorem outer_deckWaitOver (s : State) :
    outer (deckWaitOver s) = outer s := by
  unfold deckWaitOver; dsimp only; split <;> simp

@[simp] theorem outer_occupiedTooLong (d : Detector) (s : State) :
    outer (occupiedTooLong d s) = outer s := by
  rfl

@[simp] theorem outer_removeDetector (d : Detector) (s : State) :
    outer (removeDetector d s) = outer s := by
  unfold removeDetector; dsimp only; split <;> simp

@[simp] theorem outer_returnDetector (d : Detector) (s : State) :
    outer (returnDetector d s) = outer s := by
  unfold returnDetector; dsimp only; split <;> simp

@[simp] theorem outer_ownDetectorService (p : List Byte) (s : State) :
    outer (ownDetectorService p s).1 = outer s := by
  unfold ownDetectorService; (repeat' split) <;> simp

/-- ROAD_STATUS leaves all of the outer part alone but the count of free choices. -/
theorem outer_ownRoadStatus (s : State) :
    outer (ownRoadStatus s).1 = { outer s with freeCount := (ownRoadStatus s).1.freeCount } := by
  unfold ownRoadStatus; dsimp only; split <;> rfl

@[simp] theorem outer_renewJog (s : State) :
    outer (renewJog s) = outer s := by
  rfl

@[simp] theorem outer_ownJog (p : List Byte) (s : State) :
    outer (ownJog p s).1 = outer s := by
  unfold ownJog; (repeat' split) <;> simp

@[simp] theorem outer_ownDriveStatus (s : State) :
    outer (ownDriveStatus s).1 = outer s := by
  rfl

@[simp] theorem outer_noShow (n : Nat) (s : State) :
    outer (noShow n s) = outer s := by
  unfold noShow; (repeat' split) <;> simp

@[simp] theorem outer_resetSlot (s : State) (serial : Nat) :
    outer (resetSlot s serial) = outer s := by
  simp [resetSlot]

@[simp] theorem outer_ownChannelStatus (s : State) :
    outer (ownChannelStatus s).1 = outer s := by
  rfl

@[simp] theorem outer_configureColumns (s : State) :
    outer (configureColumns s) = outer s := by
  simp [configureColumns]

@[simp] theorem outer_tellPlanner (st : SeqState) (s : State) :
    outer (tellPlanner st s) = outer s := by
  unfold tellPlanner; split <;> simp

@[simp] theorem outer_applyHoldOff (s : State) :
    outer (applyHoldOff s) = outer s := by
  unfold applyHoldOff; (repeat' split) <;> simp

@[simp] theorem outer_ownReadParameter (p : List Byte) (s : State) :
    outer (ownReadParameter p s).1 = outer s := by
  unfold ownReadParameter; split <;> simp

end Sys2Proof.Machine
end

