-- ==== Sys2Proof/Laws/Ops.lean ====
section
/-!
SUPPORT. What each shared operation does, said once: a request, an expiry, the loop of consequences, the reads of a
sound table, the set of sources, the end of an opening, what stands before the first input sample.
-/

namespace Sys2Proof.Machine

/-! ## Requests -/

/-- A request that its port cannot take is lost. -/
theorem request_lost (p : Port) (row : CatalogueRow) (payload : List Byte) (owner : State → State × Answer) (s : State)
    (h : portFree s p = false) : request p row payload owner s = s := by
  simp [request, h]

/-- A request too long for a frame is discarded. -/
theorem request_discarded (p : Port) (row : CatalogueRow) (payload : List Byte) (owner : State → State × Answer)
    (s : State) (h : portFree s p = true) (hl : payloadLimit < payload.length) :
    request p row payload owner s = discardFrame p s := by
  simp [request, h, hl]

/-- A request that a check of R212 refuses. -/
theorem request_refused (p : Port) (row : CatalogueRow) (payload : List Byte) (owner : State → State × Answer)
    (s : State) (x : Status) (h : portFree s p = true) (hl : payload.length ≤ payloadLimit)
    (hd : decodeRefusal row p payload s.mode = some x) :
    request p row payload owner s =
      respond p row.code (refuse x) (takeFrame p (BitVec.ofNat 8 row.code :: payload) s) := by
  simp [request, h, Nat.not_lt.mpr hl, hd]

/-- A request that is handed to its owner. -/
theorem request_owned (p : Port) (row : CatalogueRow) (payload : List Byte) (owner : State → State × Answer)
    (s : State) (h : portFree s p = true) (hl : payload.length ≤ payloadLimit)
    (hd : decodeRefusal row p payload s.mode = none) :
    request p row payload owner s =
      respond p row.code (owner (takeFrame p (BitVec.ofNat 8 row.code :: payload) s)).2
        (owner (takeFrame p (BitVec.ofNat 8 row.code :: payload) s)).1 := by
  simp [request, h, Nat.not_lt.mpr hl, hd]

/-- The four outcomes of a request, as one case rule. -/
theorem request_cases {P : State → Prop} (p : Port) (row : CatalogueRow) (payload : List Byte)
    (owner : State → State × Answer) (s : State) (lost : P s) (long : P (discardFrame p s))
    (refused : ∀ x, P (respond p row.code (refuse x) (takeFrame p (BitVec.ofNat 8 row.code :: payload) s)))
    (owned : P (respond p row.code (owner (takeFrame p (BitVec.ofNat 8 row.code :: payload) s)).2
      (owner (takeFrame p (BitVec.ofNat 8 row.code :: payload) s)).1)) :
    P (request p row payload owner s) := by
  unfold request
  split
  · exact lost
  · split
    · exact long
    · dsimp only
      split
      · exact refused _
      · exact owned

/-! ## Expiries -/

@[simp] theorem expire_running (c l : Nat) (act : State → State) (s : State) :
    expire (.running c l) act s = act (elapse (l - c) s) := rfl

@[simp] theorem expire_stopped (act : State → State) (s : State) : expire .stopped act s = s := rfl

@[simp] theorem expire_paused (c l : Nat) (act : State → State) (s : State) : expire (.paused c l) act s = s := rfl

@[simp] theorem expire_over (c : Nat) (act : State → State) (s : State) : expire (.over c) act s = s := rfl

@[simp] theorem expireMinutes_running (c l : Nat) (act : State → State) (s : State) :
    expireMinutes (.running c l) act s = act s := rfl

@[simp] theorem expireMinutes_stopped (act : State → State) (s : State) : expireMinutes .stopped act s = s := rfl

@[simp] theorem expireMinutes_paused (c l : Nat) (act : State → State) (s : State) :
    expireMinutes (.paused c l) act s = s := rfl

@[simp] theorem expireMinutes_over (c : Nat) (act : State → State) (s : State) :
    expireMinutes (.over c) act s = s := rfl

/-! ## Consequences -/

/-- With no consequence the loop stops at once. -/
theorem iterate_quiet (rule : State → Option State) (n : Nat) (s : State) (h : rule s = none) :
    iterate rule n s = s := by
  cases n with
  | zero => rfl
  | succ n => simp [iterate, h]

/-- The masts shown after the consequences are those of R173. -/
theorem settle_masts (s : State) :
    (settle s).channel.masts = ⟨aspectOf (settle s) .upstream, aspectOf (settle s) .downstream⟩ := by
  unfold settle
  generalize keepInterlocks _ = t
  rfl

/-! ## Reads of a table whose check codes are good -/

/-- Every entry and every generation of the table has a good check code, also outside the table's length. -/
theorem verifyEntry_good (i : Nat) (s : State) (h : (entryAt s i).codeGood = true) : verifyEntry i s = s := by
  simp [verifyEntry, h]

theorem verifyGeneration_good (i : Nat) (s : State) (h : (generationAt s i).codeGood = true) :
    verifyGeneration i s = s := by
  simp [verifyGeneration, h]

theorem verifyEntries_good (l : List Nat) (s : State) (h : ∀ i, (entryAt s i).codeGood = true) :
    verifyEntries l s = s := by
  induction l with
  | nil => rfl
  | cons i l ih =>
    show verifyEntries l (verifyEntry i s) = s
    rw [verifyEntry_good i s (h i), ih]

theorem verifyGenerations_good (l : List Nat) (s : State) (h : ∀ i, (generationAt s i).codeGood = true) :
    verifyGenerations l s = s := by
  induction l with
  | nil => rfl
  | cons i l ih =>
    show verifyGenerations l (verifyGeneration i s) = s
    rw [verifyGeneration_good i s (h i), ih]

/-- An entry written where the table has it reads back, with a good check code. -/
theorem entryAt_writeEntry (i : Nat) (e : Entry) (s : State) (h : i < s.table.entries.length) :
    entryAt (writeEntry i e s) i = { e with codeGood := true } := by
  simp [entryAt, writeEntry, mapTable, h]

/-- Another entry is left as it was. -/
theorem entryAt_writeEntry_ne (i j : Nat) (e : Entry) (s : State) (h : j ≠ i) :
    entryAt (writeEntry i e s) j = entryAt s j := by
  simp [entryAt, writeEntry, mapTable, Ne.symm h, List.getD]

/-! ## Before the first input sample, and at an opening's end -/

/-- Before the first input sample a mast shows FAULT whatever the sequence state (R195). -/
theorem aspectOf_unsampled (s : State) (m : Mast) (h : s.inputs = none) : aspectOf s m = .fault := by
  simp [aspectOf, h]

/-- Before the first input sample no reading finds the beams clear (log 45). -/
theorem beamsClear_unsampled (s : State) (h : s.inputs = none) : beamsClear s = false := by
  simp [beamsClear, h]

theorem foldl_clearSlot_done (l : List Slot) (s : State) (h : ∀ x ∈ l, x.state = .done) : l.foldl clearSlot s = s := by
  induction l with
  | nil => rfl
  | cons x l ih =>
    show l.foldl clearSlot (clearSlot s x) = s
    rw [show clearSlot s x = s by simp [clearSlot, h x (by simp)]]
    exact ih fun y hy => h y (by simp [hy])

/-- Where every slot is DONE, as R75 has it, the end of an opening is the closing of its record and nothing else. -/
theorem endOpening_done (st : SeqState) (s : State) (h : ∀ x ∈ slots s, x.state = .done) :
    endOpening st s = closeRecord st s := by
  rw [endOpening, foldl_clearSlot_done _ _ h]

end Sys2Proof.Machine
end

