-- ==== Sys2Proof/Laws/Requests.lean ====
section
/-!
SUPPORT. A decoded request (Safety.lean) reaches its owner: the one lemma that the statements about requests rest on,
and what taking a frame and answering leave alone.
-/

namespace Sys2Proof.Machine

/-- A decoded request is answered by its owner. -/
theorem request_of_decoded {c : Instr} {p : Port} {row : CatalogueRow} {payload : List Byte}
    (owner : State → State × Answer) {s : State} (hr : requestRow c = some (p, row))
    (hp : c.requestPayload = some payload) (h : decoded c s = true) (hl : row.length ≤ payloadLimit) :
    request p row payload owner s =
      answered p row.code (owner (taken p row.code payload s)).2.status (owner (taken p row.code payload s)).2.payload
        (owner (taken p row.code payload s)).1 := by
  simp only [decoded, hr, hp, Bool.and_eq_true, beq_iff_eq] at h
  obtain ⟨⟨⟨hf, hh⟩, hlen⟩, hm⟩ := h
  exact request_owned p row payload owner s hf (by omega) (by simp [decodeRefusal, hh, hlen, hm])

/-- A field of the state other than the ports is the same after a frame is taken. -/
@[simp] theorem taken_mode (p : Port) (n : Nat) (x : List Byte) (s : State) : (taken p n x s).mode = s.mode := rfl
@[simp] theorem taken_params (p : Port) (n : Nat) (x : List Byte) (s : State) :
    (taken p n x s).params = s.params := rfl
@[simp] theorem taken_table (p : Port) (n : Nat) (x : List Byte) (s : State) : (taken p n x s).table = s.table := rfl
@[simp] theorem taken_water (p : Port) (n : Nat) (x : List Byte) (s : State) : (taken p n x s).water = s.water := rfl
@[simp] theorem taken_planner (p : Port) (n : Nat) (x : List Byte) (s : State) :
    (taken p n x s).planner = s.planner := rfl
@[simp] theorem taken_seq (p : Port) (n : Nat) (x : List Byte) (s : State) : (taken p n x s).seq = s.seq := rfl
@[simp] theorem taken_guard (p : Port) (n : Nat) (x : List Byte) (s : State) : (taken p n x s).guard = s.guard := rfl
@[simp] theorem taken_drive (p : Port) (n : Nat) (x : List Byte) (s : State) : (taken p n x s).drive = s.drive := rfl
@[simp] theorem taken_channel (p : Port) (n : Nat) (x : List Byte) (s : State) :
    (taken p n x s).channel = s.channel := rfl
@[simp] theorem taken_clock (p : Port) (n : Nat) (x : List Byte) (s : State) : (taken p n x s).clock = s.clock := rfl
@[simp] theorem taken_inputs (p : Port) (n : Nat) (x : List Byte) (s : State) :
    (taken p n x s).inputs = s.inputs := rfl
@[simp] theorem taken_freeCount (p : Port) (n : Nat) (x : List Byte) (s : State) :
    (taken p n x s).freeCount = s.freeCount := rfl
@[simp] theorem taken_attention (p q : Port) (n : Nat) (x : List Byte) (s : State) :
    ((taken p n x s).ports.get q).attention = (s.ports.get q).attention := by
  cases p <;> cases q <;> rfl
@[simp] theorem taken_enable (p q : Port) (n : Nat) (x : List Byte) (s : State) :
    ((taken p n x s).ports.get q).enable = (s.ports.get q).enable := by
  cases p <;> cases q <;> rfl

end Sys2Proof.Machine
end

