-- ==== Sys2Proof/Laws/State.lean ====
section
/-!
SUPPORT. One lemma for each field of the state under each of the small updates, true by rfl, and the laws of the
records that hold one value for each part, so that no later proof unfolds an update.
-/

namespace Sys2Proof

@[simp] theorem PerPort.get_set {α : Type} (x : PerPort α) (p : Port) (y : α) : (x.set p y).get p = y := by
  cases p <;> rfl

theorem PerPort.get_set_ne {α : Type} (x : PerPort α) {p q : Port} (y : α) (h : q ≠ p) : (x.set p y).get q = x.get q := by
  cases p <;> cases q <;> first | rfl | exact absurd rfl h

@[simp] theorem PerTower.get_set {α : Type} (x : PerTower α) (t : Tower) (y : α) : (x.set t y).get t = y := by
  cases t <;> rfl

theorem PerTower.get_set_ne {α : Type} (x : PerTower α) {t q : Tower} (y : α) (h : q ≠ t) : (x.set t y).get q = x.get q := by
  cases t <;> cases q <;> first | rfl | exact absurd rfl h

@[simp] theorem PerApproach.get_set {α : Type} (x : PerApproach α) (a : Approach) (y : α) : (x.set a y).get a = y := by
  cases a <;> rfl

theorem PerApproach.get_set_ne {α : Type} (x : PerApproach α) {a q : Approach} (y : α) (h : q ≠ a) : (x.set a y).get q = x.get q := by
  cases a <;> cases q <;> first | rfl | exact absurd rfl h

@[simp] theorem PerLamp.get_set {α : Type} (x : PerLamp α) (l : Lamp) (y : α) : (x.set l y).get l = y := by
  cases l <;> rfl

theorem PerLamp.get_set_ne {α : Type} (x : PerLamp α) {l q : Lamp} (y : α) (h : q ≠ l) : (x.set l y).get q = x.get q := by
  cases l <;> cases q <;> first | rfl | exact absurd rfl h

@[simp] theorem PerHead.get_set {α : Type} (x : PerHead α) (h : Head) (y : α) : (x.set h y).get h = y := by
  cases h <;> rfl

theorem PerHead.get_set_ne {α : Type} (x : PerHead α) {h q : Head} (y : α) (hne : q ≠ h) : (x.set h y).get q = x.get q := by
  cases h <;> cases q <;> first | rfl | exact absurd rfl hne

@[simp] theorem PerArm.get_set {α : Type} (x : PerArm α) (a : Arm) (y : α) : (x.set a y).get a = y := by
  cases a <;> rfl

theorem PerArm.get_set_ne {α : Type} (x : PerArm α) {a q : Arm} (y : α) (h : q ≠ a) : (x.set a y).get q = x.get q := by
  cases a <;> cases q <;> first | rfl | exact absurd rfl h

@[simp] theorem PerDetector.get_set {α : Type} (x : PerDetector α) (d : Detector) (y : α) : (x.set d y).get d = y := by
  cases d <;> rfl

theorem PerDetector.get_set_ne {α : Type} (x : PerDetector α) {d q : Detector} (y : α) (h : q ≠ d) : (x.set d y).get q = x.get q := by
  cases d <;> cases q <;> first | rfl | exact absurd rfl h

@[simp] theorem PerEdge.get_set {α : Type} (x : PerEdge α) (e : Edge) (y : α) : (x.set e y).get e = y := by
  cases e <;> rfl

theorem PerEdge.get_set_ne {α : Type} (x : PerEdge α) {e q : Edge} (y : α) (h : q ≠ e) : (x.set e y).get q = x.get q := by
  cases e <;> cases q <;> first | rfl | exact absurd rfl h

@[simp] theorem PerTower.get_map {α β : Type} (f : α → β) (x : PerTower α) (t : Tower) : (x.map f).get t = f (x.get t) := by
  cases t <;> rfl

@[simp] theorem PerApproach.get_map {α β : Type} (f : α → β) (x : PerApproach α) (a : Approach) : (x.map f).get a = f (x.get a) := by
  cases a <;> rfl

@[simp] theorem PerLamp.get_map {α β : Type} (f : α → β) (x : PerLamp α) (l : Lamp) : (x.map f).get l = f (x.get l) := by
  cases l <;> rfl

@[simp] theorem PerHead.get_map {α β : Type} (f : α → β) (x : PerHead α) (h : Head) : (x.map f).get h = f (x.get h) := by
  cases h <;> rfl

@[simp] theorem PerArm.get_map {α β : Type} (f : α → β) (x : PerArm α) (a : Arm) : (x.map f).get a = f (x.get a) := by
  cases a <;> rfl

@[simp] theorem PerDetector.get_map {α β : Type} (f : α → β) (x : PerDetector α) (d : Detector) : (x.map f).get d = f (x.get d) := by
  cases d <;> rfl

end Sys2Proof

namespace Sys2Proof.Machine

@[simp] theorem setPort_pending (p : Port) (r : PortRecord) (s : State) : (setPort p r s).pending = s.pending := rfl
@[simp] theorem setPort_mode (p : Port) (r : PortRecord) (s : State) : (setPort p r s).mode = s.mode := rfl
@[simp] theorem setPort_params (p : Port) (r : PortRecord) (s : State) : (setPort p r s).params = s.params := rfl
@[simp] theorem setPort_table (p : Port) (r : PortRecord) (s : State) : (setPort p r s).table = s.table := rfl
@[simp] theorem setPort_water (p : Port) (r : PortRecord) (s : State) : (setPort p r s).water = s.water := rfl
@[simp] theorem setPort_planner (p : Port) (r : PortRecord) (s : State) : (setPort p r s).planner = s.planner := rfl
@[simp] theorem setPort_seq (p : Port) (r : PortRecord) (s : State) : (setPort p r s).seq = s.seq := rfl
@[simp] theorem setPort_guard (p : Port) (r : PortRecord) (s : State) : (setPort p r s).guard = s.guard := rfl
@[simp] theorem setPort_drive (p : Port) (r : PortRecord) (s : State) : (setPort p r s).drive = s.drive := rfl
@[simp] theorem setPort_channel (p : Port) (r : PortRecord) (s : State) : (setPort p r s).channel = s.channel := rfl
@[simp] theorem setPort_clock (p : Port) (r : PortRecord) (s : State) : (setPort p r s).clock = s.clock := rfl
@[simp] theorem setPort_inputs (p : Port) (r : PortRecord) (s : State) : (setPort p r s).inputs = s.inputs := rfl
@[simp] theorem setPort_freeCount (p : Port) (r : PortRecord) (s : State) : (setPort p r s).freeCount = s.freeCount := rfl

@[simp] theorem raiseControl_pending (x : ControlSource) (s : State) : (raiseControl x s).pending = s.pending := rfl
@[simp] theorem raiseControl_mode (x : ControlSource) (s : State) : (raiseControl x s).mode = s.mode := rfl
@[simp] theorem raiseControl_params (x : ControlSource) (s : State) : (raiseControl x s).params = s.params := rfl
@[simp] theorem raiseControl_table (x : ControlSource) (s : State) : (raiseControl x s).table = s.table := rfl
@[simp] theorem raiseControl_water (x : ControlSource) (s : State) : (raiseControl x s).water = s.water := rfl
@[simp] theorem raiseControl_planner (x : ControlSource) (s : State) : (raiseControl x s).planner = s.planner := rfl
@[simp] theorem raiseControl_seq (x : ControlSource) (s : State) : (raiseControl x s).seq = s.seq := rfl
@[simp] theorem raiseControl_guard (x : ControlSource) (s : State) : (raiseControl x s).guard = s.guard := rfl
@[simp] theorem raiseControl_drive (x : ControlSource) (s : State) : (raiseControl x s).drive = s.drive := rfl
@[simp] theorem raiseControl_channel (x : ControlSource) (s : State) : (raiseControl x s).channel = s.channel := rfl
@[simp] theorem raiseControl_clock (x : ControlSource) (s : State) : (raiseControl x s).clock = s.clock := rfl
@[simp] theorem raiseControl_inputs (x : ControlSource) (s : State) : (raiseControl x s).inputs = s.inputs := rfl
@[simp] theorem raiseControl_freeCount (x : ControlSource) (s : State) : (raiseControl x s).freeCount = s.freeCount := rfl

@[simp] theorem raiseHarbour_pending (x : HarbourSource) (s : State) : (raiseHarbour x s).pending = s.pending := rfl
@[simp] theorem raiseHarbour_mode (x : HarbourSource) (s : State) : (raiseHarbour x s).mode = s.mode := rfl
@[simp] theorem raiseHarbour_params (x : HarbourSource) (s : State) : (raiseHarbour x s).params = s.params := rfl
@[simp] theorem raiseHarbour_table (x : HarbourSource) (s : State) : (raiseHarbour x s).table = s.table := rfl
@[simp] theorem raiseHarbour_water (x : HarbourSource) (s : State) : (raiseHarbour x s).water = s.water := rfl
@[simp] theorem raiseHarbour_planner (x : HarbourSource) (s : State) : (raiseHarbour x s).planner = s.planner := rfl
@[simp] theorem raiseHarbour_seq (x : HarbourSource) (s : State) : (raiseHarbour x s).seq = s.seq := rfl
@[simp] theorem raiseHarbour_guard (x : HarbourSource) (s : State) : (raiseHarbour x s).guard = s.guard := rfl
@[simp] theorem raiseHarbour_drive (x : HarbourSource) (s : State) : (raiseHarbour x s).drive = s.drive := rfl
@[simp] theorem raiseHarbour_channel (x : HarbourSource) (s : State) : (raiseHarbour x s).channel = s.channel := rfl
@[simp] theorem raiseHarbour_clock (x : HarbourSource) (s : State) : (raiseHarbour x s).clock = s.clock := rfl
@[simp] theorem raiseHarbour_inputs (x : HarbourSource) (s : State) : (raiseHarbour x s).inputs = s.inputs := rfl
@[simp] theorem raiseHarbour_freeCount (x : HarbourSource) (s : State) : (raiseHarbour x s).freeCount = s.freeCount := rfl

@[simp] theorem addCause_pending (c : FaultCause) (s : State) : (addCause c s).pending = s.pending := rfl
@[simp] theorem addCause_mode (c : FaultCause) (s : State) : (addCause c s).mode = s.mode := rfl
@[simp] theorem addCause_ports (c : FaultCause) (s : State) : (addCause c s).ports = s.ports := rfl
@[simp] theorem addCause_params (c : FaultCause) (s : State) : (addCause c s).params = s.params := rfl
@[simp] theorem addCause_table (c : FaultCause) (s : State) : (addCause c s).table = s.table := rfl
@[simp] theorem addCause_water (c : FaultCause) (s : State) : (addCause c s).water = s.water := rfl
@[simp] theorem addCause_planner (c : FaultCause) (s : State) : (addCause c s).planner = s.planner := rfl
@[simp] theorem addCause_guard (c : FaultCause) (s : State) : (addCause c s).guard = s.guard := rfl
@[simp] theorem addCause_drive (c : FaultCause) (s : State) : (addCause c s).drive = s.drive := rfl
@[simp] theorem addCause_channel (c : FaultCause) (s : State) : (addCause c s).channel = s.channel := rfl
@[simp] theorem addCause_clock (c : FaultCause) (s : State) : (addCause c s).clock = s.clock := rfl
@[simp] theorem addCause_inputs (c : FaultCause) (s : State) : (addCause c s).inputs = s.inputs := rfl
@[simp] theorem addCause_freeCount (c : FaultCause) (s : State) : (addCause c s).freeCount = s.freeCount := rfl

@[simp] theorem takeReading_pending (x : RawInputs) (s : State) : (takeReading x s).pending = s.pending := rfl
@[simp] theorem takeReading_mode (x : RawInputs) (s : State) : (takeReading x s).mode = s.mode := rfl
@[simp] theorem takeReading_ports (x : RawInputs) (s : State) : (takeReading x s).ports = s.ports := rfl
@[simp] theorem takeReading_params (x : RawInputs) (s : State) : (takeReading x s).params = s.params := rfl
@[simp] theorem takeReading_table (x : RawInputs) (s : State) : (takeReading x s).table = s.table := rfl
@[simp] theorem takeReading_water (x : RawInputs) (s : State) : (takeReading x s).water = s.water := rfl
@[simp] theorem takeReading_planner (x : RawInputs) (s : State) : (takeReading x s).planner = s.planner := rfl
@[simp] theorem takeReading_seq (x : RawInputs) (s : State) : (takeReading x s).seq = s.seq := rfl
@[simp] theorem takeReading_guard (x : RawInputs) (s : State) : (takeReading x s).guard = s.guard := rfl
@[simp] theorem takeReading_drive (x : RawInputs) (s : State) : (takeReading x s).drive = s.drive := rfl
@[simp] theorem takeReading_channel (x : RawInputs) (s : State) : (takeReading x s).channel = s.channel := rfl
@[simp] theorem takeReading_clock (x : RawInputs) (s : State) : (takeReading x s).clock = s.clock := rfl
@[simp] theorem takeReading_freeCount (x : RawInputs) (s : State) : (takeReading x s).freeCount = s.freeCount := rfl

@[simp] theorem setArm_pending (a : Arm) (r : ArmRecord) (s : State) : (setArm a r s).pending = s.pending := rfl
@[simp] theorem setArm_mode (a : Arm) (r : ArmRecord) (s : State) : (setArm a r s).mode = s.mode := rfl
@[simp] theorem setArm_ports (a : Arm) (r : ArmRecord) (s : State) : (setArm a r s).ports = s.ports := rfl
@[simp] theorem setArm_params (a : Arm) (r : ArmRecord) (s : State) : (setArm a r s).params = s.params := rfl
@[simp] theorem setArm_table (a : Arm) (r : ArmRecord) (s : State) : (setArm a r s).table = s.table := rfl
@[simp] theorem setArm_water (a : Arm) (r : ArmRecord) (s : State) : (setArm a r s).water = s.water := rfl
@[simp] theorem setArm_planner (a : Arm) (r : ArmRecord) (s : State) : (setArm a r s).planner = s.planner := rfl
@[simp] theorem setArm_seq (a : Arm) (r : ArmRecord) (s : State) : (setArm a r s).seq = s.seq := rfl
@[simp] theorem setArm_drive (a : Arm) (r : ArmRecord) (s : State) : (setArm a r s).drive = s.drive := rfl
@[simp] theorem setArm_channel (a : Arm) (r : ArmRecord) (s : State) : (setArm a r s).channel = s.channel := rfl
@[simp] theorem setArm_clock (a : Arm) (r : ArmRecord) (s : State) : (setArm a r s).clock = s.clock := rfl
@[simp] theorem setArm_inputs (a : Arm) (r : ArmRecord) (s : State) : (setArm a r s).inputs = s.inputs := rfl
@[simp] theorem setArm_freeCount (a : Arm) (r : ArmRecord) (s : State) : (setArm a r s).freeCount = s.freeCount := rfl

@[simp] theorem setHead_pending (h : Head) (r : HeadRecord) (s : State) : (setHead h r s).pending = s.pending := rfl
@[simp] theorem setHead_mode (h : Head) (r : HeadRecord) (s : State) : (setHead h r s).mode = s.mode := rfl
@[simp] theorem setHead_ports (h : Head) (r : HeadRecord) (s : State) : (setHead h r s).ports = s.ports := rfl
@[simp] theorem setHead_params (h : Head) (r : HeadRecord) (s : State) : (setHead h r s).params = s.params := rfl
@[simp] theorem setHead_table (h : Head) (r : HeadRecord) (s : State) : (setHead h r s).table = s.table := rfl
@[simp] theorem setHead_water (h : Head) (r : HeadRecord) (s : State) : (setHead h r s).water = s.water := rfl
@[simp] theorem setHead_planner (h : Head) (r : HeadRecord) (s : State) : (setHead h r s).planner = s.planner := rfl
@[simp] theorem setHead_seq (h : Head) (r : HeadRecord) (s : State) : (setHead h r s).seq = s.seq := rfl
@[simp] theorem setHead_drive (h : Head) (r : HeadRecord) (s : State) : (setHead h r s).drive = s.drive := rfl
@[simp] theorem setHead_channel (h : Head) (r : HeadRecord) (s : State) : (setHead h r s).channel = s.channel := rfl
@[simp] theorem setHead_clock (h : Head) (r : HeadRecord) (s : State) : (setHead h r s).clock = s.clock := rfl
@[simp] theorem setHead_inputs (h : Head) (r : HeadRecord) (s : State) : (setHead h r s).inputs = s.inputs := rfl
@[simp] theorem setHead_freeCount (h : Head) (r : HeadRecord) (s : State) : (setHead h r s).freeCount = s.freeCount := rfl

@[simp] theorem setLamp_pending (h : Head) (l : Lamp) (r : LampRecord) (s : State) : (setLamp h l r s).pending = s.pending := rfl
@[simp] theorem setLamp_mode (h : Head) (l : Lamp) (r : LampRecord) (s : State) : (setLamp h l r s).mode = s.mode := rfl
@[simp] theorem setLamp_ports (h : Head) (l : Lamp) (r : LampRecord) (s : State) : (setLamp h l r s).ports = s.ports := rfl
@[simp] theorem setLamp_params (h : Head) (l : Lamp) (r : LampRecord) (s : State) : (setLamp h l r s).params = s.params := rfl
@[simp] theorem setLamp_table (h : Head) (l : Lamp) (r : LampRecord) (s : State) : (setLamp h l r s).table = s.table := rfl
@[simp] theorem setLamp_water (h : Head) (l : Lamp) (r : LampRecord) (s : State) : (setLamp h l r s).water = s.water := rfl
@[simp] theorem setLamp_planner (h : Head) (l : Lamp) (r : LampRecord) (s : State) : (setLamp h l r s).planner = s.planner := rfl
@[simp] theorem setLamp_seq (h : Head) (l : Lamp) (r : LampRecord) (s : State) : (setLamp h l r s).seq = s.seq := rfl
@[simp] theorem setLamp_drive (h : Head) (l : Lamp) (r : LampRecord) (s : State) : (setLamp h l r s).drive = s.drive := rfl
@[simp] theorem setLamp_channel (h : Head) (l : Lamp) (r : LampRecord) (s : State) : (setLamp h l r s).channel = s.channel := rfl
@[simp] theorem setLamp_clock (h : Head) (l : Lamp) (r : LampRecord) (s : State) : (setLamp h l r s).clock = s.clock := rfl
@[simp] theorem setLamp_inputs (h : Head) (l : Lamp) (r : LampRecord) (s : State) : (setLamp h l r s).inputs = s.inputs := rfl
@[simp] theorem setLamp_freeCount (h : Head) (l : Lamp) (r : LampRecord) (s : State) : (setLamp h l r s).freeCount = s.freeCount := rfl

@[simp] theorem setApproach_pending (a : Approach) (r : ApproachRecord) (s : State) : (setApproach a r s).pending = s.pending := rfl
@[simp] theorem setApproach_mode (a : Approach) (r : ApproachRecord) (s : State) : (setApproach a r s).mode = s.mode := rfl
@[simp] theorem setApproach_ports (a : Approach) (r : ApproachRecord) (s : State) : (setApproach a r s).ports = s.ports := rfl
@[simp] theorem setApproach_params (a : Approach) (r : ApproachRecord) (s : State) : (setApproach a r s).params = s.params := rfl
@[simp] theorem setApproach_table (a : Approach) (r : ApproachRecord) (s : State) : (setApproach a r s).table = s.table := rfl
@[simp] theorem setApproach_water (a : Approach) (r : ApproachRecord) (s : State) : (setApproach a r s).water = s.water := rfl
@[simp] theorem setApproach_planner (a : Approach) (r : ApproachRecord) (s : State) : (setApproach a r s).planner = s.planner := rfl
@[simp] theorem setApproach_seq (a : Approach) (r : ApproachRecord) (s : State) : (setApproach a r s).seq = s.seq := rfl
@[simp] theorem setApproach_drive (a : Approach) (r : ApproachRecord) (s : State) : (setApproach a r s).drive = s.drive := rfl
@[simp] theorem setApproach_channel (a : Approach) (r : ApproachRecord) (s : State) : (setApproach a r s).channel = s.channel := rfl
@[simp] theorem setApproach_clock (a : Approach) (r : ApproachRecord) (s : State) : (setApproach a r s).clock = s.clock := rfl
@[simp] theorem setApproach_inputs (a : Approach) (r : ApproachRecord) (s : State) : (setApproach a r s).inputs = s.inputs := rfl
@[simp] theorem setApproach_freeCount (a : Approach) (r : ApproachRecord) (s : State) : (setApproach a r s).freeCount = s.freeCount := rfl

@[simp] theorem setDetector_pending (d : Detector) (r : DetectorRecord) (s : State) : (setDetector d r s).pending = s.pending := rfl
@[simp] theorem setDetector_mode (d : Detector) (r : DetectorRecord) (s : State) : (setDetector d r s).mode = s.mode := rfl
@[simp] theorem setDetector_ports (d : Detector) (r : DetectorRecord) (s : State) : (setDetector d r s).ports = s.ports := rfl
@[simp] theorem setDetector_params (d : Detector) (r : DetectorRecord) (s : State) : (setDetector d r s).params = s.params := rfl
@[simp] theorem setDetector_table (d : Detector) (r : DetectorRecord) (s : State) : (setDetector d r s).table = s.table := rfl
@[simp] theorem setDetector_water (d : Detector) (r : DetectorRecord) (s : State) : (setDetector d r s).water = s.water := rfl
@[simp] theorem setDetector_planner (d : Detector) (r : DetectorRecord) (s : State) : (setDetector d r s).planner = s.planner := rfl
@[simp] theorem setDetector_seq (d : Detector) (r : DetectorRecord) (s : State) : (setDetector d r s).seq = s.seq := rfl
@[simp] theorem setDetector_drive (d : Detector) (r : DetectorRecord) (s : State) : (setDetector d r s).drive = s.drive := rfl
@[simp] theorem setDetector_channel (d : Detector) (r : DetectorRecord) (s : State) : (setDetector d r s).channel = s.channel := rfl
@[simp] theorem setDetector_clock (d : Detector) (r : DetectorRecord) (s : State) : (setDetector d r s).clock = s.clock := rfl
@[simp] theorem setDetector_inputs (d : Detector) (r : DetectorRecord) (s : State) : (setDetector d r s).inputs = s.inputs := rfl
@[simp] theorem setDetector_freeCount (d : Detector) (r : DetectorRecord) (s : State) : (setDetector d r s).freeCount = s.freeCount := rfl

@[simp] theorem setDeck_pending (r : Deck) (s : State) : (setDeck r s).pending = s.pending := rfl
@[simp] theorem setDeck_mode (r : Deck) (s : State) : (setDeck r s).mode = s.mode := rfl
@[simp] theorem setDeck_ports (r : Deck) (s : State) : (setDeck r s).ports = s.ports := rfl
@[simp] theorem setDeck_params (r : Deck) (s : State) : (setDeck r s).params = s.params := rfl
@[simp] theorem setDeck_table (r : Deck) (s : State) : (setDeck r s).table = s.table := rfl
@[simp] theorem setDeck_water (r : Deck) (s : State) : (setDeck r s).water = s.water := rfl
@[simp] theorem setDeck_planner (r : Deck) (s : State) : (setDeck r s).planner = s.planner := rfl
@[simp] theorem setDeck_seq (r : Deck) (s : State) : (setDeck r s).seq = s.seq := rfl
@[simp] theorem setDeck_drive (r : Deck) (s : State) : (setDeck r s).drive = s.drive := rfl
@[simp] theorem setDeck_channel (r : Deck) (s : State) : (setDeck r s).channel = s.channel := rfl
@[simp] theorem setDeck_clock (r : Deck) (s : State) : (setDeck r s).clock = s.clock := rfl
@[simp] theorem setDeck_inputs (r : Deck) (s : State) : (setDeck r s).inputs = s.inputs := rfl
@[simp] theorem setDeck_freeCount (r : Deck) (s : State) : (setDeck r s).freeCount = s.freeCount := rfl

@[simp] theorem setBolt_pending (b : Tower) (r : BoltRecord) (s : State) : (setBolt b r s).pending = s.pending := rfl
@[simp] theorem setBolt_mode (b : Tower) (r : BoltRecord) (s : State) : (setBolt b r s).mode = s.mode := rfl
@[simp] theorem setBolt_ports (b : Tower) (r : BoltRecord) (s : State) : (setBolt b r s).ports = s.ports := rfl
@[simp] theorem setBolt_params (b : Tower) (r : BoltRecord) (s : State) : (setBolt b r s).params = s.params := rfl
@[simp] theorem setBolt_table (b : Tower) (r : BoltRecord) (s : State) : (setBolt b r s).table = s.table := rfl
@[simp] theorem setBolt_water (b : Tower) (r : BoltRecord) (s : State) : (setBolt b r s).water = s.water := rfl
@[simp] theorem setBolt_planner (b : Tower) (r : BoltRecord) (s : State) : (setBolt b r s).planner = s.planner := rfl
@[simp] theorem setBolt_seq (b : Tower) (r : BoltRecord) (s : State) : (setBolt b r s).seq = s.seq := rfl
@[simp] theorem setBolt_guard (b : Tower) (r : BoltRecord) (s : State) : (setBolt b r s).guard = s.guard := rfl
@[simp] theorem setBolt_channel (b : Tower) (r : BoltRecord) (s : State) : (setBolt b r s).channel = s.channel := rfl
@[simp] theorem setBolt_clock (b : Tower) (r : BoltRecord) (s : State) : (setBolt b r s).clock = s.clock := rfl
@[simp] theorem setBolt_inputs (b : Tower) (r : BoltRecord) (s : State) : (setBolt b r s).inputs = s.inputs := rfl
@[simp] theorem setBolt_freeCount (b : Tower) (r : BoltRecord) (s : State) : (setBolt b r s).freeCount = s.freeCount := rfl

@[simp] theorem setTower_pending (t : Tower) (r : TowerRecord) (s : State) : (setTower t r s).pending = s.pending := rfl
@[simp] theorem setTower_mode (t : Tower) (r : TowerRecord) (s : State) : (setTower t r s).mode = s.mode := rfl
@[simp] theorem setTower_ports (t : Tower) (r : TowerRecord) (s : State) : (setTower t r s).ports = s.ports := rfl
@[simp] theorem setTower_params (t : Tower) (r : TowerRecord) (s : State) : (setTower t r s).params = s.params := rfl
@[simp] theorem setTower_table (t : Tower) (r : TowerRecord) (s : State) : (setTower t r s).table = s.table := rfl
@[simp] theorem setTower_water (t : Tower) (r : TowerRecord) (s : State) : (setTower t r s).water = s.water := rfl
@[simp] theorem setTower_planner (t : Tower) (r : TowerRecord) (s : State) : (setTower t r s).planner = s.planner := rfl
@[simp] theorem setTower_seq (t : Tower) (r : TowerRecord) (s : State) : (setTower t r s).seq = s.seq := rfl
@[simp] theorem setTower_guard (t : Tower) (r : TowerRecord) (s : State) : (setTower t r s).guard = s.guard := rfl
@[simp] theorem setTower_channel (t : Tower) (r : TowerRecord) (s : State) : (setTower t r s).channel = s.channel := rfl
@[simp] theorem setTower_clock (t : Tower) (r : TowerRecord) (s : State) : (setTower t r s).clock = s.clock := rfl
@[simp] theorem setTower_inputs (t : Tower) (r : TowerRecord) (s : State) : (setTower t r s).inputs = s.inputs := rfl
@[simp] theorem setTower_freeCount (t : Tower) (r : TowerRecord) (s : State) : (setTower t r s).freeCount = s.freeCount := rfl

@[simp] theorem mapOpening_pending (f : Opening → Opening) (s : State) : (mapOpening f s).pending = s.pending := rfl
@[simp] theorem mapOpening_mode (f : Opening → Opening) (s : State) : (mapOpening f s).mode = s.mode := rfl
@[simp] theorem mapOpening_ports (f : Opening → Opening) (s : State) : (mapOpening f s).ports = s.ports := rfl
@[simp] theorem mapOpening_params (f : Opening → Opening) (s : State) : (mapOpening f s).params = s.params := rfl
@[simp] theorem mapOpening_table (f : Opening → Opening) (s : State) : (mapOpening f s).table = s.table := rfl
@[simp] theorem mapOpening_water (f : Opening → Opening) (s : State) : (mapOpening f s).water = s.water := rfl
@[simp] theorem mapOpening_planner (f : Opening → Opening) (s : State) : (mapOpening f s).planner = s.planner := rfl
@[simp] theorem mapOpening_guard (f : Opening → Opening) (s : State) : (mapOpening f s).guard = s.guard := rfl
@[simp] theorem mapOpening_drive (f : Opening → Opening) (s : State) : (mapOpening f s).drive = s.drive := rfl
@[simp] theorem mapOpening_channel (f : Opening → Opening) (s : State) : (mapOpening f s).channel = s.channel := rfl
@[simp] theorem mapOpening_clock (f : Opening → Opening) (s : State) : (mapOpening f s).clock = s.clock := rfl
@[simp] theorem mapOpening_inputs (f : Opening → Opening) (s : State) : (mapOpening f s).inputs = s.inputs := rfl
@[simp] theorem mapOpening_freeCount (f : Opening → Opening) (s : State) : (mapOpening f s).freeCount = s.freeCount := rfl
@[simp] theorem mapOpening_opening (f : Opening → Opening) (s : State) :
    (mapOpening f s).seq.opening = s.seq.opening.map f := rfl

@[simp] theorem mapTable_pending (f : Table → Table) (s : State) : (mapTable f s).pending = s.pending := rfl
@[simp] theorem mapTable_mode (f : Table → Table) (s : State) : (mapTable f s).mode = s.mode := rfl
@[simp] theorem mapTable_ports (f : Table → Table) (s : State) : (mapTable f s).ports = s.ports := rfl
@[simp] theorem mapTable_params (f : Table → Table) (s : State) : (mapTable f s).params = s.params := rfl
@[simp] theorem mapTable_water (f : Table → Table) (s : State) : (mapTable f s).water = s.water := rfl
@[simp] theorem mapTable_planner (f : Table → Table) (s : State) : (mapTable f s).planner = s.planner := rfl
@[simp] theorem mapTable_seq (f : Table → Table) (s : State) : (mapTable f s).seq = s.seq := rfl
@[simp] theorem mapTable_guard (f : Table → Table) (s : State) : (mapTable f s).guard = s.guard := rfl
@[simp] theorem mapTable_drive (f : Table → Table) (s : State) : (mapTable f s).drive = s.drive := rfl
@[simp] theorem mapTable_channel (f : Table → Table) (s : State) : (mapTable f s).channel = s.channel := rfl
@[simp] theorem mapTable_clock (f : Table → Table) (s : State) : (mapTable f s).clock = s.clock := rfl
@[simp] theorem mapTable_inputs (f : Table → Table) (s : State) : (mapTable f s).inputs = s.inputs := rfl
@[simp] theorem mapTable_freeCount (f : Table → Table) (s : State) : (mapTable f s).freeCount = s.freeCount := rfl
@[simp] theorem mapTable_table (f : Table → Table) (s : State) : (mapTable f s).table = f s.table := rfl

@[simp] theorem mapChannel_pending (f : Channel → Channel) (s : State) : (mapChannel f s).pending = s.pending := rfl
@[simp] theorem mapChannel_mode (f : Channel → Channel) (s : State) : (mapChannel f s).mode = s.mode := rfl
@[simp] theorem mapChannel_ports (f : Channel → Channel) (s : State) : (mapChannel f s).ports = s.ports := rfl
@[simp] theorem mapChannel_params (f : Channel → Channel) (s : State) : (mapChannel f s).params = s.params := rfl
@[simp] theorem mapChannel_table (f : Channel → Channel) (s : State) : (mapChannel f s).table = s.table := rfl
@[simp] theorem mapChannel_water (f : Channel → Channel) (s : State) : (mapChannel f s).water = s.water := rfl
@[simp] theorem mapChannel_planner (f : Channel → Channel) (s : State) : (mapChannel f s).planner = s.planner := rfl
@[simp] theorem mapChannel_seq (f : Channel → Channel) (s : State) : (mapChannel f s).seq = s.seq := rfl
@[simp] theorem mapChannel_guard (f : Channel → Channel) (s : State) : (mapChannel f s).guard = s.guard := rfl
@[simp] theorem mapChannel_drive (f : Channel → Channel) (s : State) : (mapChannel f s).drive = s.drive := rfl
@[simp] theorem mapChannel_clock (f : Channel → Channel) (s : State) : (mapChannel f s).clock = s.clock := rfl
@[simp] theorem mapChannel_inputs (f : Channel → Channel) (s : State) : (mapChannel f s).inputs = s.inputs := rfl
@[simp] theorem mapChannel_freeCount (f : Channel → Channel) (s : State) : (mapChannel f s).freeCount = s.freeCount := rfl
@[simp] theorem mapChannel_channel (f : Channel → Channel) (s : State) : (mapChannel f s).channel = f s.channel := rfl

@[simp] theorem mapDrive_pending (f : Drive → Drive) (s : State) : (mapDrive f s).pending = s.pending := rfl
@[simp] theorem mapDrive_mode (f : Drive → Drive) (s : State) : (mapDrive f s).mode = s.mode := rfl
@[simp] theorem mapDrive_ports (f : Drive → Drive) (s : State) : (mapDrive f s).ports = s.ports := rfl
@[simp] theorem mapDrive_params (f : Drive → Drive) (s : State) : (mapDrive f s).params = s.params := rfl
@[simp] theorem mapDrive_table (f : Drive → Drive) (s : State) : (mapDrive f s).table = s.table := rfl
@[simp] theorem mapDrive_water (f : Drive → Drive) (s : State) : (mapDrive f s).water = s.water := rfl
@[simp] theorem mapDrive_planner (f : Drive → Drive) (s : State) : (mapDrive f s).planner = s.planner := rfl
@[simp] theorem mapDrive_seq (f : Drive → Drive) (s : State) : (mapDrive f s).seq = s.seq := rfl
@[simp] theorem mapDrive_guard (f : Drive → Drive) (s : State) : (mapDrive f s).guard = s.guard := rfl
@[simp] theorem mapDrive_channel (f : Drive → Drive) (s : State) : (mapDrive f s).channel = s.channel := rfl
@[simp] theorem mapDrive_clock (f : Drive → Drive) (s : State) : (mapDrive f s).clock = s.clock := rfl
@[simp] theorem mapDrive_inputs (f : Drive → Drive) (s : State) : (mapDrive f s).inputs = s.inputs := rfl
@[simp] theorem mapDrive_freeCount (f : Drive → Drive) (s : State) : (mapDrive f s).freeCount = s.freeCount := rfl
@[simp] theorem mapDrive_drive (f : Drive → Drive) (s : State) : (mapDrive f s).drive = f s.drive := rfl

@[simp] theorem mapPlanner_pending (f : Planner → Planner) (s : State) : (mapPlanner f s).pending = s.pending := rfl
@[simp] theorem mapPlanner_mode (f : Planner → Planner) (s : State) : (mapPlanner f s).mode = s.mode := rfl
@[simp] theorem mapPlanner_ports (f : Planner → Planner) (s : State) : (mapPlanner f s).ports = s.ports := rfl
@[simp] theorem mapPlanner_params (f : Planner → Planner) (s : State) : (mapPlanner f s).params = s.params := rfl
@[simp] theorem mapPlanner_table (f : Planner → Planner) (s : State) : (mapPlanner f s).table = s.table := rfl
@[simp] theorem mapPlanner_water (f : Planner → Planner) (s : State) : (mapPlanner f s).water = s.water := rfl
@[simp] theorem mapPlanner_seq (f : Planner → Planner) (s : State) : (mapPlanner f s).seq = s.seq := rfl
@[simp] theorem mapPlanner_guard (f : Planner → Planner) (s : State) : (mapPlanner f s).guard = s.guard := rfl
@[simp] theorem mapPlanner_drive (f : Planner → Planner) (s : State) : (mapPlanner f s).drive = s.drive := rfl
@[simp] theorem mapPlanner_channel (f : Planner → Planner) (s : State) : (mapPlanner f s).channel = s.channel := rfl
@[simp] theorem mapPlanner_clock (f : Planner → Planner) (s : State) : (mapPlanner f s).clock = s.clock := rfl
@[simp] theorem mapPlanner_inputs (f : Planner → Planner) (s : State) : (mapPlanner f s).inputs = s.inputs := rfl
@[simp] theorem mapPlanner_freeCount (f : Planner → Planner) (s : State) : (mapPlanner f s).freeCount = s.freeCount := rfl
@[simp] theorem mapPlanner_planner (f : Planner → Planner) (s : State) : (mapPlanner f s).planner = f s.planner := rfl

@[simp] theorem mapSeq_pending (f : Sequence → Sequence) (s : State) : (mapSeq f s).pending = s.pending := rfl
@[simp] theorem mapSeq_mode (f : Sequence → Sequence) (s : State) : (mapSeq f s).mode = s.mode := rfl
@[simp] theorem mapSeq_ports (f : Sequence → Sequence) (s : State) : (mapSeq f s).ports = s.ports := rfl
@[simp] theorem mapSeq_params (f : Sequence → Sequence) (s : State) : (mapSeq f s).params = s.params := rfl
@[simp] theorem mapSeq_table (f : Sequence → Sequence) (s : State) : (mapSeq f s).table = s.table := rfl
@[simp] theorem mapSeq_water (f : Sequence → Sequence) (s : State) : (mapSeq f s).water = s.water := rfl
@[simp] theorem mapSeq_planner (f : Sequence → Sequence) (s : State) : (mapSeq f s).planner = s.planner := rfl
@[simp] theorem mapSeq_guard (f : Sequence → Sequence) (s : State) : (mapSeq f s).guard = s.guard := rfl
@[simp] theorem mapSeq_drive (f : Sequence → Sequence) (s : State) : (mapSeq f s).drive = s.drive := rfl
@[simp] theorem mapSeq_channel (f : Sequence → Sequence) (s : State) : (mapSeq f s).channel = s.channel := rfl
@[simp] theorem mapSeq_clock (f : Sequence → Sequence) (s : State) : (mapSeq f s).clock = s.clock := rfl
@[simp] theorem mapSeq_inputs (f : Sequence → Sequence) (s : State) : (mapSeq f s).inputs = s.inputs := rfl
@[simp] theorem mapSeq_freeCount (f : Sequence → Sequence) (s : State) : (mapSeq f s).freeCount = s.freeCount := rfl
@[simp] theorem mapSeq_seq (f : Sequence → Sequence) (s : State) : (mapSeq f s).seq = f s.seq := rfl

@[simp] theorem mapClock_pending (f : Clock → Clock) (s : State) : (mapClock f s).pending = s.pending := rfl
@[simp] theorem mapClock_mode (f : Clock → Clock) (s : State) : (mapClock f s).mode = s.mode := rfl
@[simp] theorem mapClock_ports (f : Clock → Clock) (s : State) : (mapClock f s).ports = s.ports := rfl
@[simp] theorem mapClock_params (f : Clock → Clock) (s : State) : (mapClock f s).params = s.params := rfl
@[simp] theorem mapClock_table (f : Clock → Clock) (s : State) : (mapClock f s).table = s.table := rfl
@[simp] theorem mapClock_water (f : Clock → Clock) (s : State) : (mapClock f s).water = s.water := rfl
@[simp] theorem mapClock_planner (f : Clock → Clock) (s : State) : (mapClock f s).planner = s.planner := rfl
@[simp] theorem mapClock_seq (f : Clock → Clock) (s : State) : (mapClock f s).seq = s.seq := rfl
@[simp] theorem mapClock_guard (f : Clock → Clock) (s : State) : (mapClock f s).guard = s.guard := rfl
@[simp] theorem mapClock_drive (f : Clock → Clock) (s : State) : (mapClock f s).drive = s.drive := rfl
@[simp] theorem mapClock_channel (f : Clock → Clock) (s : State) : (mapClock f s).channel = s.channel := rfl
@[simp] theorem mapClock_inputs (f : Clock → Clock) (s : State) : (mapClock f s).inputs = s.inputs := rfl
@[simp] theorem mapClock_freeCount (f : Clock → Clock) (s : State) : (mapClock f s).freeCount = s.freeCount := rfl
@[simp] theorem mapClock_clock (f : Clock → Clock) (s : State) : (mapClock f s).clock = f s.clock := rfl

@[simp] theorem recomputeLevel_pending (s : State) : (recomputeLevel s).pending = s.pending := rfl
@[simp] theorem recomputeLevel_mode (s : State) : (recomputeLevel s).mode = s.mode := rfl
@[simp] theorem recomputeLevel_ports (s : State) : (recomputeLevel s).ports = s.ports := rfl
@[simp] theorem recomputeLevel_params (s : State) : (recomputeLevel s).params = s.params := rfl
@[simp] theorem recomputeLevel_table (s : State) : (recomputeLevel s).table = s.table := rfl
@[simp] theorem recomputeLevel_planner (s : State) : (recomputeLevel s).planner = s.planner := rfl
@[simp] theorem recomputeLevel_seq (s : State) : (recomputeLevel s).seq = s.seq := rfl
@[simp] theorem recomputeLevel_guard (s : State) : (recomputeLevel s).guard = s.guard := rfl
@[simp] theorem recomputeLevel_drive (s : State) : (recomputeLevel s).drive = s.drive := rfl
@[simp] theorem recomputeLevel_channel (s : State) : (recomputeLevel s).channel = s.channel := rfl
@[simp] theorem recomputeLevel_clock (s : State) : (recomputeLevel s).clock = s.clock := rfl
@[simp] theorem recomputeLevel_inputs (s : State) : (recomputeLevel s).inputs = s.inputs := rfl
@[simp] theorem recomputeLevel_freeCount (s : State) : (recomputeLevel s).freeCount = s.freeCount := rfl

@[simp] theorem elapse_pending (n : Nat) (s : State) : (elapse n s).pending = s.pending := rfl
@[simp] theorem elapse_mode (n : Nat) (s : State) : (elapse n s).mode = s.mode := rfl
@[simp] theorem elapse_ports (n : Nat) (s : State) : (elapse n s).ports = s.ports := rfl
@[simp] theorem elapse_params (n : Nat) (s : State) : (elapse n s).params = s.params := rfl
@[simp] theorem elapse_table (n : Nat) (s : State) : (elapse n s).table = s.table := rfl
@[simp] theorem elapse_planner (n : Nat) (s : State) : (elapse n s).planner = s.planner := rfl
@[simp] theorem elapse_inputs (n : Nat) (s : State) : (elapse n s).inputs = s.inputs := rfl
@[simp] theorem elapse_freeCount (n : Nat) (s : State) : (elapse n s).freeCount = s.freeCount := rfl

@[simp] theorem setPort_ports (p : Port) (r : PortRecord) (s : State) : (setPort p r s).ports = s.ports.set p r := rfl

end Sys2Proof.Machine
end

