-- ==== Sys2Proof/Laws/Table.lean ====
section
/-!
SUPPORT. Reads and stamps of a sound table (TableSound): a read changes nothing, and an advance of the counter changes
no entry but for its due stamp; and what the check of the interlocks leaves.
-/

namespace Sys2Proof.Machine

/-! ## Reads of a sound table -/

/-- Every entry of a sound table has a good check code, an index outside the table too. -/
theorem entryAt_good {s : State} (h : TableSound s) (i : Nat) : (entryAt s i).codeGood = true := by
  unfold entryAt
  rw [List.getD_eq_getElem?_getD]
  cases e : s.table.entries[i]? with
  | none => rfl
  | some x => exact h.2.2.1 x (List.mem_of_getElem? e)

/-- Every generation of a sound table has a good check code, an index outside the table too. -/
theorem generationAt_good {s : State} (h : TableSound s) (i : Nat) : (generationAt s i).codeGood = true := by
  unfold generationAt
  rw [List.getD_eq_getElem?_getD]
  cases e : s.table.generations[i]? with
  | none => rfl
  | some x => exact h.2.2.2 x (List.mem_of_getElem? e)

/-- On a sound table the tags of a list are those of its first members that pass the test. -/
theorem readTags_sound (p : Entry → Bool) (l : List Nat) (n : Nat) {s : State} (h : TableSound s) :
    (readTags p l n s).1 = s ∧ (readTags p l n s).2.1 = (l.filter (fun i => p (entryAt s i))).take n := by
  induction l generalizing n with
  | nil => cases n <;> exact ⟨rfl, rfl⟩
  | cons i l ih =>
    cases n with
    | zero => exact ⟨rfl, by simp [readTags]⟩
    | succ n =>
      have hv := verifyEntry_good i s (entryAt_good h i)
      have hg := verifyGeneration_good i s (generationAt_good h i)
      by_cases hp : p (entryAt s i) = true
      · simp [readTags, hv, hg, hp, ih]
      · simp [readTags, hv, hp, ih]

/-- On a sound table the first entry that passes a test is found, and nothing is changed. -/
theorem readFirst_sound (p : Entry → Bool) (l : List Nat) {s : State} (h : TableSound s) :
    readFirst p l s = (s, l.find? (fun i => p (entryAt s i))) := by
  induction l with
  | nil => rfl
  | cons i l ih =>
    have hv := verifyEntry_good i s (entryAt_good h i)
    by_cases hp : p (entryAt s i) = true
    · simp [readFirst, hv, hp]
    · simp [readFirst, hv, hp, ih]

/-! ## The count of DUE arrivals -/

/-- After a report of the count the queue-critical flag is set exactly where the count has reached the level (R55). -/
theorem refreshQueueCritical_flag (s : State) :
    (refreshQueueCritical s).planner.queueCritical = decide (s.params.queueCriticalLevel ≤ dueArrivals s.table) := by
  unfold refreshQueueCritical
  dsimp only
  split
  · rename_i h
    exact (beq_iff_eq.mp h).symm
  · split <;> rfl

/-- A report of the count leaves the table as it is. -/
@[simp] theorem refreshQueueCritical_table (s : State) : (refreshQueueCritical s).table = s.table := by
  unfold refreshQueueCritical
  dsimp only
  (repeat' split) <;> rfl

/-- An entry that leaves the due list is gone from it, and nothing else of the table changes. -/
@[simp] theorem leaveDue_table (i : Nat) (s : State) :
    (leaveDue i s).table = { s.table with dueList := s.table.dueList.filter (· != i) } :=
  refreshQueueCritical_table _

/-- An entry that joins the due list stands where it is placed, and nothing else of the table changes. -/
@[simp] theorem joinDue_table (place : List Nat → List Nat) (s : State) :
    (joinDue place s).table = { s.table with dueList := place s.table.dueList } :=
  refreshQueueCritical_table _

/-! ## Stamps -/

/-- A table stays sound when an entry is written. -/
theorem writeEntry_sound (i : Nat) (e : Entry) {s : State} (h : TableSound s) : TableSound (writeEntry i e s) := by
  refine ⟨by simpa [writeEntry, mapTable] using h.1, h.2.1, fun x hx => ?_, h.2.2.2⟩
  rcases List.mem_or_eq_of_mem_set (show x ∈ s.table.entries.set i { e with codeGood := true } from hx) with hm | rfl
  · exact h.2.2.1 x hm
  · rfl

/-- One entry at the counter's advance: the table stays sound, and no entry changes but for its due stamp. -/
theorem moveStamp_sound (c : BitVec 16) (i : Nat) {s : State} (h : TableSound s) :
    TableSound (moveStamp c s i) ∧ ∀ j, unstamped (entryAt (moveStamp c s i) j) = unstamped (entryAt s j) := by
  unfold moveStamp
  simp only [verifyEntry_good i s (entryAt_good h i)]
  split
  · refine ⟨writeEntry_sound i _ h, fun j => ?_⟩
    by_cases hj : j = i
    · subst hj
      by_cases hi : j < s.table.entries.length
      · have hc := entryAt_good h j
        rw [entryAt_writeEntry _ _ _ hi]
        simp [unstamped, ← hc]
      · simp [entryAt, writeEntry, mapTable, hi]
    · rw [entryAt_writeEntry_ne _ _ _ _ hj]
  · exact ⟨h, fun _ => rfl⟩

/-- The advance of the counter: the table stays sound, and no entry changes but for its due stamp. -/
theorem advanceCounter_sound {s : State} (h : TableSound s) :
    TableSound (advanceCounter s) ∧ ∀ j, unstamped (entryAt (advanceCounter s) j) = unstamped (entryAt s j) := by
  have fold : ∀ (c : BitVec 16) (l : List Nat) (t : State), TableSound t →
      TableSound (l.foldl (moveStamp c) t) ∧
        ∀ j, unstamped (entryAt (l.foldl (moveStamp c) t) j) = unstamped (entryAt t j) := by
    intro c l
    induction l with
    | nil => exact fun t ht => ⟨ht, fun _ => rfl⟩
    | cons i l ih =>
      intro t ht
      have one := moveStamp_sound c i ht
      have rest := ih (moveStamp c t i) one.1
      exact ⟨rest.1, fun j => (rest.2 j).trans (one.2 j)⟩
  exact fold _ _ _ h

/-! ## The interlocks -/

/-- After the check of the interlocks a tower that is commanded to move stands under them (R148, R149, R150). -/
theorem keepInterlocks_holds (s : State) (k : Tower)
    (h : commanded ((keepInterlocks s).drive.towers.get k) = true) : interlocksHold (keepInterlocks s) = true := by
  revert h
  unfold keepInterlocks
  split
  · rename_i hs
    intro h
    cases k <;> simp_all [PerTower.get]
  · split
    · cases k <;> simp [endMotion, mapDrive, PerTower.map, PerTower.get, brakeTower, commanded]
    · split <;> cases k <;> simp [holdMotion, mapDrive, PerTower.map, PerTower.get, brakeTower, commanded]

end Sys2Proof.Machine
end

