-- ==== Sys2Proof/Tests/Slice0.lean ====
section
/-!
SUPPORT. The model's own tests: the ill-formed terms that the check of WellFormed refuses, small runs of single
commands on small states, and for every obligation with hypotheses concrete states and operands that meet them.
-/

set_option maxRecDepth 100000
set_option Elab.async false

namespace Sys2Proof.Tests

open Sys2Proof Sys2Proof.Machine

/-! ## The check on commands -/

theorem test_wf_long_payload : (Instr.queueStatus .control (List.replicate 250 0)).wf = false := by decide
theorem test_wf_longest_payload : (Instr.queueStatus .control (List.replicate 249 0)).wf = true := by decide
theorem test_wf_long_unknown : (Instr.unknownRequest .control 0 (List.replicate 250 0)).wf = false := by decide
theorem test_wf_catalogued_first : (Instr.unknownRequest .harbour 1 []).wf = false := by decide
theorem test_wf_catalogued_last : (Instr.unknownRequest .harbour 51 []).wf = false := by decide
theorem test_wf_unknown : (Instr.unknownRequest .harbour 52 []).wf = true := by decide
theorem test_wf_length_one : (Instr.frameDiscarded .control (.badLength 1)).wf = false := by decide
theorem test_wf_length_250 : (Instr.frameDiscarded .control (.badLength 250)).wf = false := by decide
theorem test_wf_length_251 : (Instr.frameDiscarded .control (.badLength 251)).wf = true := by decide
theorem test_wf_empty_body : (Instr.frameDiscarded .control (.badCheck [] 0 0)).wf = false := by decide
theorem test_wf_long_body : (Instr.frameDiscarded .control (.badCheck (List.replicate 251 0) 0 0)).wf = false := by
  decide
theorem test_wf_slot : (Instr.noShowTimerExpiry 8).wf = false := by decide
theorem test_wf_last_slot : (Instr.noShowTimerExpiry 7).wf = true := by decide

/-! ## Small states -/

/-- Power-on in SERVICE with the sequence in a state. -/
def serving (q : SeqState) : State :=
  { State.reset with mode := .service, seq := { Sequence.reset with state := q } }

/-- A word of readings with the listed inputs made. -/
def made (l : List Nat) : RawInputs := l.foldl (fun x k => x ||| (1 <<< k)) 0

/-- The same reading three times. -/
def reading (l : List Nat) (s : State) : State := { s with inputs := some (made l, made l, made l) }

/-- An entry put in the table. -/
def holding (i : Nat) (e : Entry) (s : State) : State :=
  { s with table := { s.table with entries := s.table.entries.set i e } }

/-- A vessel identity from the ends of the range of characters. -/
def vessel : List Byte := [32, 126, 65, 66, 67, 68, 69, 70]

/-- A booked entry in a state. -/
def entryIn (st : EntryState) : Entry :=
  { Entry.vacant with state := st, identity := vessel, airDraft := 1500, cls := 2, earliest := some 600 }

/-- A slot of an opening. -/
def slotIn (st : SlotState) (entry : Option Nat) : Slot :=
  { serial := 0, entry := entry, tagIndex := 9, tagGeneration := 0, direction := .inbound, cls := 2,
    airDraft := 1500, lift := 15500, state := st, outcome := none, noShow := .stopped, overdue := false,
    short := false, kept := false, givenAt := 0 }

/-- An opening record. -/
def openingOf (l : List Slot) (cause : Option ClosingCause) : Opening :=
  { number := 1, cause := .demand, operatorLift := false, startMinute := 0, levelUsed := none, target := none,
    closingCause := cause, slots := l, taken := 1, withdrawn := 0, returned := 0, lost := 0, nextSerial := 1,
    proceedCount := 0, raisedBefore := false, abandoned := false }

/-- An opening in progress. -/
def openedWith (l : List Slot) (cause : Option ClosingCause) (q : SeqState) : State :=
  { serving q with seq := { (serving q).seq with opening := some (openingOf l cause) } }

/-- Every approach in a phase, all else as at power-on. -/
def approachIn (r : ApproachRecord) (s : State) : State :=
  { s with guard := { s.guard with approaches := ⟨r, r⟩ } }

/-- Every arm in the same condition. -/
def armsIn (r : ArmRecord) (s : State) : State := { s with guard := { s.guard with arms := ⟨r, r, r, r⟩ } }

/-- An arm at rest. -/
def armAtRest (st : ArmState) (e : ArmEnd) : ArmRecord :=
  { ArmRecord.reset with state := st, commandedEnd := e, faultReason := none }

/-- Both bolts in a state. -/
def boltsIn (st : BoltState) (s : State) : State :=
  { s with drive := { s.drive with bolts := ⟨⟨st, none, .stopped, false⟩, ⟨st, none, .stopped, false⟩⟩ } }

/-- The response in transit at a port, with its code, status and payload. -/
def responseAt (p : Port) (o : Host.Outcome State Fault Refusal) : Option (Nat × Status × List Byte) :=
  match o with
  | .next t => (t.ports.get p).response.map (fun r => (r.code, r.status, r.payload))
  | _ => none

/-- The state after a step that answers one. -/
def after (o : Host.Outcome State Fault Refusal) : State :=
  match o with
  | .next t => t
  | _ => State.reset

/-! ## Single commands -/

/-- The check of R209 over the nine characters 123456789, the known figure of this polynomial and preset. -/
theorem test_crc : crc16 [0x31, 0x32, 0x33, 0x34, 0x35, 0x36, 0x37, 0x38, 0x39] = 0x29B1#16 := by decide

theorem test_unknown_request :
    responseAt .control (exec (.unknownRequest .control 60 []) State.reset) = some (60, .unknownRequest, []) := by
  decide +kernel

theorem test_close_span_in_configuring :
    responseAt .control (exec (.closeSpan .control []) State.reset) = some (20, .wrongMode, []) := by
  decide +kernel

theorem test_close_span_from_harbour :
    responseAt .harbour (exec (.closeSpan .harbour []) State.reset) = some (20, .notPermitted, []) := by
  decide +kernel

/-- A payload of 17 bytes of CREATE_BOOKING: identity, inbound, 1500 cm, class 2, E 600, no Z. -/
def bookingPayload : List Byte := vessel ++ [0, 0x05, 0xDC, 2, 0x02, 0x58, 0, 0, 0]

theorem test_booking_takes_the_first_booked_entry :
    responseAt .harbour (exec (.createBooking .harbour bookingPayload) State.reset) = some (1, .ok, [8, 0]) := by
  decide +kernel

theorem test_booking_is_pending_before_the_clock_is_set :
    (entryAt (after (exec (.createBooking .harbour bookingPayload) State.reset)) 8).state = .pending := by
  decide +kernel

theorem test_water_level_first_reading :
    (after (exec (.waterLevel .harbour [0x05, 0x00]) State.reset)).water.effective = 1200 := by decide +kernel

theorem test_commission_without_switches :
    responseAt .control (exec (.commission .control []) State.reset) = some (47, .ok, [1]) := by decide +kernel

theorem test_break :
    ((after (exec (.lineBreak .control)
      { State.reset with ports := { State.reset.ports with
          control := { State.reset.ports.control with
            receiver := .receiving, buffer := [3] } } })).ports.control.buffer) = [] := by decide +kernel

theorem test_encoder_edge_up :
    (after (exec (.encoderEdge .w false true) State.reset)).drive.towers.w.count = 1 := by decide +kernel

theorem test_encoder_edge_down :
    (after (exec (.encoderEdge .w true false) State.reset)).drive.towers.w.count = -1 := by decide +kernel

theorem test_oscillator_step : (after (exec .oscillatorStep State.reset)).clock.seconds = 1 := by decide +kernel

theorem test_closing_the_road :
    (after (exec (.closeRoad .control []) (serving .roadOpen))).seq.state = .warning := by decide +kernel

theorem test_stop : (after (exec (.stop .control []) (serving .roadOpen))).seq.state = .halted := by decide +kernel

theorem test_queue_front_runs :
    step { State.reset with pending := [.lineBreak .control, .oscillatorStep] } =
      exec (.lineBreak .control) { State.reset with pending := [.oscillatorStep] } := rfl


/-- The response in transit goes out as address mark, length, code, status and check (R213, R225): CLOSE_SPAN refused
WRONG_MODE. -/
theorem test_response_frame :
    (transmitted ((after (exec (.closeSpan .control []) State.reset)).ports.control)).take 4 =
      [⟨0, true⟩, ⟨2, false⟩, ⟨20, false⟩, ⟨4, false⟩] ∧
      (transmitted ((after (exec (.closeSpan .control []) State.reset)).ports.control)).length = 6 := by
  decide +kernel

/-- A flag cleared while its detector is occupied in a RUNNING measurement is not set again by that occupancy
(R140). -/
theorem test_cleared_flag_stays (s : State) (h : s = after (exec (.clearRoadStatus .control [8, 15, 6, 1])
      (reading [41] { serving .deckClearing with guard := { State.reset.guard with
        deck := { State.reset.guard.deck with measurement := some .running }
        detectors := { State.reset.guard.detectors with
          d6 := { inService := true, occupiedLong := true, occupancy := .running 0 9, spent := true } } } }))) :
    (s.guard.detectors.get .d6).occupiedLong = false ∧
      ((after (exec (.occupancyTimerExpiry .d6) s)).guard.detectors.get .d6).occupiedLong = false := by
  subst h
  decide +kernel

/-! ## Concrete states and operands that meet the hypotheses of each obligation -/

theorem witness_EveryStepAnswers_none : State.reset.pending = [] ∧ dueCommands State.reset = [] := by decide +kernel

/-- The oscillator at its limit. -/
def oneDue : State := { State.reset with clock := { State.reset.clock with stepTimer := .running 1000 1000 } }

theorem witness_EveryStepAnswers_one : oneDue.pending = [] ∧
    dueCommands oneDue = [.oscillatorStep] := by decide +kernel

/-- The oscillator and the gauge at their limits. -/
def twoDue : State := { oneDue with water := { oneDue.water with staleness := .running 5 5 } }

theorem witness_EveryStepAnswers_two : twoDue.pending = [] ∧ 2 ≤ (dueCommands twoDue).length := by decide +kernel

theorem witness_RequestDecoding_unknown :
    portFree State.reset .control = true ∧ (List.replicate 249 (0 : Byte)).length ≤ 249 ∧
      cataloguedCode 0 = false ∧ cataloguedCode 52 = false := by decide +kernel

theorem witness_RequestDecoding_refused :
    requestRow (.stop .harbour []) = some (.harbour, ⟨28, false, true, .serviceOnly, 0⟩) ∧
      (Instr.stop .harbour []).requestPayload = some [] ∧ portFree State.reset .harbour = true ∧
      (⟨28, false, true, .serviceOnly, 0⟩ : CatalogueRow).held .harbour = false ∧
      (⟨28, false, true, .serviceOnly, 0⟩ : CatalogueRow).held .control = true ∧
      ([1] : List Byte).length ≠ 0 ∧ Modes.serviceOnly.admits State.reset.mode = false ∧
      decoded (.stop .control []) (serving .roadOpen) = true := by decide +kernel

theorem witness_RequestDecoding_first_and_last :
    decoded (.createBooking .harbour bookingPayload) State.reset = true ∧
      decoded (.setAttentionEnable .control [0, 0, 0]) State.reset = true := by decide +kernel

/-- The control port with a response in transit. -/
def responding : State :=
  { State.reset with ports := { State.reset.ports with
      control := { State.reset.ports.control with response := some ⟨1, .ok, []⟩ } } }

theorem witness_ReceiverAndResponse_break :
    (responding.ports.get .control).response.isSome = true ∧
      requestRow (.stop .control []) = some (.control, ⟨28, false, true, .serviceOnly, 0⟩) := by decide +kernel

theorem witness_ReceiverAndResponse_busy :
    portFree responding .control = false ∧ (responding.ports.get .control).response.isSome = true ∧
      requestRow (.stop .control []) = some (.control, ⟨28, false, true, .serviceOnly, 0⟩) := by decide +kernel

theorem witness_ReceiverAndResponse_free : portFree State.reset .control = true := by decide +kernel

/-- The control port in a frame. -/
def receiving : State :=
  { State.reset with ports := { State.reset.ports with
      control := { State.reset.ports.control with receiver := .receiving } } }

theorem witness_ReceiverAndResponse_discard (cause : DiscardCause)
    (h : cause = .framingError 0 ∨ cause = .badLength 0 ∨ cause = .badLength 251 ∨ cause = .earlyMark 0 ∨
      cause = .badCheck [1] 0 0) :
    (receiving.ports.get .control).receiver = .receiving ∧ (receiving.ports.get .control).response = none ∧
      cause.wf = true ∧ ∀ body high low, cause = .badCheck body high low →
        frameCheck (receiving.ports.get .control).station body ≠
          high.zeroExtend 16 <<< 8 ||| low.zeroExtend 16 := by
  rcases h with rfl | rfl | rfl | rfl | rfl <;> refine ⟨by decide, by decide, by decide, ?_⟩ <;>
    intro body high low e <;> injection e
  subst_vars
  decide +kernel

/-- The control port with pending sources. -/
def attending (x : BitVec 24) : State :=
  { State.reset with ports := { State.reset.ports with
      control := { State.reset.ports.control with attention := x } } }

theorem witness_AttentionRequests_fetch_none :
    decoded (.fetchAttention .control []) (attending 0) = true ∧
      ((attending 0).ports.get .control).attention &&& ((attending 0).ports.get .control).enable = 0 := by
  decide +kernel

theorem witness_AttentionRequests_fetch_first :
    decoded (.fetchAttention .control []) (attending 0x800001) = true ∧
      (((attending 0x800001).ports.get .control).attention &&&
        ((attending 0x800001).ports.get .control).enable).getLsbD 0 = true ∧
      ∀ j, j < 0 → (((attending 0x800001).ports.get .control).attention &&&
        ((attending 0x800001).ports.get .control).enable).getLsbD j = false :=
  ⟨by decide +kernel, by decide +kernel, fun _ h => absurd h (Nat.not_lt_zero _)⟩

theorem witness_AttentionRequests_fetch_last :
    decoded (.fetchAttention .control []) (attending 0x800000) = true ∧
      (((attending 0x800000).ports.get .control).attention &&&
        ((attending 0x800000).ports.get .control).enable).getLsbD 23 = true ∧
      ∀ j, j < 23 → (((attending 0x800000).ports.get .control).attention &&&
        ((attending 0x800000).ports.get .control).enable).getLsbD j = false := by
  decide +kernel

theorem witness_AttentionRequests_enable_harbour :
    decoded (.setAttentionEnable .harbour [127]) State.reset = true ∧ byteAt [127] 0 < 2 ^ 7 ∧
      decoded (.setAttentionEnable .harbour [128]) State.reset = true ∧ 2 ^ 7 ≤ byteAt [128] 0 := by
  decide +kernel

theorem witness_AttentionRequests_enable_control :
    decoded (.setAttentionEnable .control [255, 255, 255]) State.reset = true ∧
      byteAt [255, 255, 255] 0 * 65536 + byteAt [255, 255, 255] 1 * 256 + byteAt [255, 255, 255] 2 < 2 ^ 24 := by
  decide +kernel

/-- A state in which the second mast shows PROCEED. -/
def proceeding : State :=
  { State.reset with channel := { State.reset.channel with masts := ⟨.hold, .proceed⟩ } }

theorem witness_MastsKept_apart : MastsApart proceeding ∧ step proceeding = .next (elapse 1 proceeding) :=
  ⟨by unfold MastsApart; decide +kernel, rfl⟩

theorem witness_MastsKept_shown : MastsShown State.reset ∧ step State.reset = .next (elapse 1 State.reset) :=
  ⟨by unfold MastsShown; decide +kernel, rfl⟩

/-- A gauge with an accepted level of `v` cm. -/
def gaugeAt (v : Int) (candidate : Option Int) (gauge : GaugeStatus) : State :=
  { State.reset with water := {
      accepted := some v, candidate := candidate, gauge := gauge,
      staleness := if gauge = .live then .running 0 120000 else .stopped,
      effective := if gauge = .live then v else v + 50, sinceMs := some 0 } }

theorem witness_WaterCurrentKept_unread :
    WaterCurrent State.reset ∧ step State.reset = .next (elapse 1 State.reset) := by
  refine ⟨⟨by decide, by decide, by decide, ?_⟩, rfl⟩
  intro v h
  cases h

theorem witness_WaterCurrentKept_live :
    WaterCurrent (gaugeAt 1200 none .live) ∧
      step (gaugeAt 1200 none .live) = .next (elapse 1 (gaugeAt 1200 none .live)) := by
  refine ⟨⟨by decide, by decide, by decide, ?_⟩, rfl⟩
  intro v h
  cases h
  decide

theorem witness_WaterCurrentKept_stale :
    WaterCurrent (gaugeAt (-400) none .stale) ∧
      step (gaugeAt (-400) none .stale) = .next (elapse 1 (gaugeAt (-400) none .stale)) := by
  refine ⟨⟨by decide, by decide, by decide, ?_⟩, rfl⟩
  intro v h
  cases h
  decide

/-- The last second of the day. -/
def lastSecond : State := { State.reset with clock := { State.reset.clock with minute := 1439, seconds := 59 } }

theorem witness_BoundsKept_clock : ClockInRange lastSecond ∧ step lastSecond = .next (elapse 1 lastSecond) :=
  ⟨by unfold ClockInRange; decide, rfl⟩

/-- A full zone. -/
def fullZone : State := reading [] { State.reset with channel := { State.reset.channel with zoneCount := 8 } }

theorem witness_BoundsKept_zone : ZoneBounded fullZone ∧ step fullZone = .next (elapse 1 fullZone) :=
  ⟨by unfold ZoneBounded; decide, rfl⟩

/-- A table of bookings only, its boundaries at the ends. -/
def wideRegions : State := { State.reset with table := { State.reset.table with tb := 0, qb := 64 } }

theorem witness_BoundsKept_table : TableShaped wideRegions ∧ step wideRegions = .next (elapse 1 wideRegions) :=
  ⟨by unfold TableShaped; decide, rfl⟩

/-- A busy port with its response in transit. -/
def busy : State :=
  { State.reset with ports := { State.reset.ports with
      control := { State.reset.ports.control with receiver := .busy, response := some ⟨1, .ok, []⟩ } } }

theorem witness_BoundsKept_busy : BusyAnswers busy ∧ step busy = .next (elapse 1 busy) := by
  refine ⟨?_, rfl⟩
  intro p
  cases p <;> decide

theorem witness_SettingsKept_FieldStateKept :
    (∃ t, exec (.lineBreak .control) receiving = .next t) ∧ (∀ x, Instr.lineBreak .control ≠ .powerOn x) ∧
      (∀ p x, Instr.lineBreak .control ≠ .setParameter p x) ∧ (∀ p x, Instr.lineBreak .control ≠ .configure p x) ∧
      (∀ p x, Instr.lineBreak .control ≠ .commission p x) ∧ (∀ p x, Instr.lineBreak .control ≠ .setRegions p x) ∧
      (∀ p x, Instr.lineBreak .control ≠ .setAttentionEnable p x) ∧
      (∀ p x, Instr.lineBreak .control ≠ .waterLevel p x) ∧ Instr.lineBreak .control ≠ .stalenessTimerExpiry ∧
      (∀ n, Instr.lineBreak .control ≠ .timePulseLeadingEdge n) ∧ Instr.lineBreak .control ≠ .secondMark ∧
      Instr.lineBreak .control ≠ .minuteMarkCorrection ∧ Instr.lineBreak .control ≠ .supervisionTimerExpiry ∧
      Instr.lineBreak .control ≠ .oscillatorStep ∧ (∀ p x, Instr.lineBreak .control ≠ .setTime p x) ∧
      (∀ p x, Instr.lineBreak .control ≠ .clockStatus p x) ∧ (∀ x, Instr.lineBreak .control ≠ .inputSample x) ∧
      ∀ p x, Instr.lineBreak .control ≠ .zoneReset p x :=
  ⟨⟨_, rfl⟩, by intros; nofun, by intros; nofun, by intros; nofun, by intros; nofun, by intros; nofun,
    by intros; nofun, by intros; nofun, by nofun, by intros; nofun, by nofun, by nofun, by nofun, by nofun,
    by intros; nofun, by intros; nofun, by intros; nofun, by intros; nofun⟩

theorem witness_StatusRequestsOnlyAnswer :
    decoded (.queueStatus .harbour []) State.reset = true ∧ TableSound State.reset ∧
      decoded (.openingStatus .harbour []) State.reset = true ∧
      decoded (.sequenceStatus .control []) State.reset = true ∧
      decoded (.roadStatus .control []) State.reset = true ∧
      decoded (.driveStatus .control []) State.reset = true ∧
      decoded (.channelStatus .control []) State.reset = true := by
  unfold TableSound
  decide +kernel

theorem witness_ReadParameterReports :
    decoded (.readParameter .control [40]) State.reset = true ∧ 40 ≤ byteAt [40] 0 ∧
      decoded (.readParameter .control [0]) State.reset = true ∧
      parameterTable[byteAt [0] 0]? = some (0, 64, 8, false) ∧ (valuesInForce State.reset)[byteAt [0] 0]? = some 8 ∧
      decoded (.readParameter .control [39]) State.reset = true ∧
      parameterTable[byteAt [39] 0]? = some (0, 1, 0, true) ∧
      (valuesInForce State.reset)[byteAt [39] 0]? = some 0 := by decide +kernel

theorem witness_ClearanceStatusFigures :
    decoded (.clearanceStatus .control [0, 0, 0]) State.reset = true ∧ byteAt [0, 0, 0] 0 = 0 ∧
      decoded (.clearanceStatus .control [2, 0, 0]) State.reset = true ∧ 2 ≤ byteAt [2, 0, 0] 0 ∧
      decoded (.clearanceStatus .control [1, 0, 99]) State.reset = true ∧ wordAt [1, 0, 99] 1 < 100 ∧
      decoded (.clearanceStatus .control [1, 0x17, 0x71]) State.reset = true ∧ 6000 < wordAt [1, 0x17, 0x71] 1 ∧
      decoded (.clearanceStatus .control [1, 0, 100]) State.reset = true ∧ 100 ≤ wordAt [1, 0, 100] 1 ∧
      decoded (.clearanceStatus .control [1, 0x17, 0x70]) State.reset = true ∧ wordAt [1, 0x17, 0x70] 1 ≤ 6000 := by
  decide +kernel

/-- The clock set to a minute of day. -/
def clockAt (minute : Nat) : State :=
  { State.reset with clock := { State.reset.clock with minute := minute, valid := true } }

/-- A payload of CREATE_BOOKING with the lowest air draft: E 1439, Z 12 hours later. -/
def bookingLong : List Byte := vessel ++ [1, 0, 100, 7, 0x05, 0x9F, 1, 0x02, 0xCF]

/-- A payload of CREATE_BOOKING with the highest air draft under Hmax: E 0, Z one minute later. -/
def bookingShort : List Byte := vessel ++ [0, 0x0F, 0xA0, 0, 0, 0, 1, 0, 1]

theorem witness_CreateBookingStores_open :
    decoded (.createBooking .harbour bookingPayload) State.reset = true ∧ TableSound State.reset ∧
      Admitted bookingPayload State.reset.params.highWater .inbound State.reset ∧
      600 = wordAt bookingPayload 12 ∧ byteAt bookingPayload 14 = 0 ∧ LowestVacant State.reset 8 40 8 ∧
      false = (State.reset.clock.valid && decide ((State.reset.clock.minute + 1440 - 600) % 1440 < 720)) := by
  unfold TableSound Admitted VesselOk NoDuplicate DuplicateAt LowestVacant
  decide +kernel

theorem witness_CreateBookingStores_longest :
    decoded (.createBooking .control bookingLong) (clockAt 718) = true ∧ TableSound (clockAt 718) ∧
      Admitted bookingLong (clockAt 718).params.highWater .outbound (clockAt 718) ∧ 1439 = wordAt bookingLong 12 ∧
      byteAt bookingLong 14 = 1 ∧ wordAt bookingLong 15 = 719 ∧ WindowInRange 1439 719 ∧
      LowestVacant (clockAt 718) 8 40 8 ∧
      true = ((clockAt 718).clock.valid && decide (((clockAt 718).clock.minute + 1440 - 1439) % 1440 <
        (719 + 1440 - 1439) % 1440)) := by
  unfold TableSound Admitted VesselOk NoDuplicate DuplicateAt LowestVacant WindowInRange
  decide +kernel

theorem witness_CreateBookingStores_shortest :
    decoded (.createBooking .control bookingShort) (clockAt 1) = true ∧ TableSound (clockAt 1) ∧
      Admitted bookingShort (clockAt 1).params.highWater .inbound (clockAt 1) ∧ 0 = wordAt bookingShort 12 ∧
      byteAt bookingShort 14 = 1 ∧ wordAt bookingShort 15 = 1 ∧ WindowInRange 0 1 ∧
      LowestVacant (clockAt 1) 8 40 8 ∧
      false = ((clockAt 1).clock.valid && decide (((clockAt 1).clock.minute + 1440 - 0) % 1440 <
        (1 + 1440 - 0) % 1440)) := by
  unfold TableSound Admitted VesselOk NoDuplicate DuplicateAt LowestVacant WindowInRange
  decide +kernel

/-- A payload of CREATE_TIMETABLE with base 95 and repeat 96. -/
def timetableLast : List Byte := vessel ++ [0, 0x05, 0xDC, 2, 95, 96]

/-- A payload of CREATE_TIMETABLE with base 0 and repeat 1. -/
def timetableFirst : List Byte := vessel ++ [0, 0x05, 0xDC, 2, 0, 1]

theorem witness_CreateTimetableStores :
    decoded (.createTimetable .control timetableLast) (clockAt 1439) = true ∧ TableSound (clockAt 1439) ∧
      Admitted timetableLast (clockAt 1439).params.highWater .inbound (clockAt 1439) ∧
      95 = byteAt timetableLast 12 ∧ 96 = byteAt timetableLast 13 ∧ LowestVacant (clockAt 1439) 0 8 0 ∧
      true = ((clockAt 1439).clock.valid && decide ((clockAt 1439).clock.minute / 15 % 96 = 95)) ∧
      decoded (.createTimetable .control timetableFirst) State.reset = true ∧ TableSound State.reset ∧
      Admitted timetableFirst State.reset.params.highWater .inbound State.reset ∧
      0 = byteAt timetableFirst 12 ∧ 1 = byteAt timetableFirst 13 ∧ LowestVacant State.reset 0 8 0 ∧
      false = (State.reset.clock.valid && decide (State.reset.clock.minute / 15 % 1 = 0)) := by
  unfold TableSound Admitted VesselOk NoDuplicate DuplicateAt LowestVacant
  and_intros <;> decide +kernel

/-- A posting of class 7, outbound. -/
def posting : List Byte := vessel ++ [1, 0, 100, 7]

/-- Power-on with an arrival filter. -/
def filtering (x : BitVec 10) : State :=
  { State.reset with params := { State.reset.params with arrivalFilter := x } }

theorem witness_PostArrivalStores :
    decoded (.postArrival .harbour posting) State.reset = true ∧
      Admitted posting State.reset.water.effective .outbound State.reset ∧
      State.reset.params.arrivalFilter.getLsbD (byteAt posting 11) = false ∧
      State.reset.params.arrivalFilter.getLsbD 9 = true ∧ TableSound State.reset ∧
      LowestVacant State.reset 40 64 40 := by
  unfold TableSound Admitted VesselOk NoDuplicate DuplicateAt LowestVacant
  decide +kernel

theorem witness_PostArrivalStores_filtered :
    decoded (.postArrival .harbour posting) (filtering 0x380) = true ∧
      Admitted posting (filtering 0x380).water.effective .outbound (filtering 0x380) ∧
      (filtering 0x380).params.arrivalFilter.getLsbD (byteAt posting 11) = true ∧
      decoded (.postArrival .harbour posting) (filtering 0x100) = true ∧
      Admitted posting (filtering 0x100).water.effective .outbound (filtering 0x100) ∧
      (filtering 0x100).params.arrivalFilter.getLsbD 9 = false := by
  unfold Admitted VesselOk NoDuplicate DuplicateAt
  decide +kernel

theorem witness_TagRefusals :
    requestRow (.lookUp .control [64, 0]) = some (.control, ⟨8, true, true, .both, 2⟩) ∧
      decoded (.lookUp .control [64, 0]) State.reset = true ∧ TableSound State.reset ∧ 64 ≤ byteAt [64, 0] 0 ∧
      decoded (.lookUp .control [63, 15]) State.reset = true ∧ byteAt [63, 15] 0 < 64 ∧ byteAt [63, 15] 1 < 16 ∧
      (generationAt State.reset (byteAt [63, 15] 0)).value.toNat ≠ byteAt [63, 15] 1 ∧
      decoded (.lookUp .control [0, 0]) State.reset = true ∧
      (generationAt State.reset (byteAt [0, 0] 0)).value.toNat = byteAt [0, 0] 1 ∧
      (entryAt State.reset (byteAt [0, 0] 0)).state = .vacant := by
  unfold TableSound
  decide +kernel

/-- An AMEND of entry 8: air draft 2000, class 7, E 1439, Z one minute later. -/
def amendAll : List Byte := [8, 0, 1, 0x07, 0xD0, 1, 7, 1, 0x05, 0x9F, 1, 0, 0]

/-- An AMEND of entry 8 that names nothing. -/
def amendNothing : List Byte := [8, 0, 0, 0, 0, 0, 0, 0, 0, 0, 0, 0, 0]

theorem witness_AmendStores (st : EntryState) (h : st = .pending ∨ st = .due) :
    decoded (.amend .harbour amendAll) (holding 8 (entryIn st) State.reset) = true ∧
      TableSound (holding 8 (entryIn st) State.reset) ∧ 8 = byteAt amendAll 0 ∧
      Names (holding 8 (entryIn st) State.reset) 8 (byteAt amendAll 1) ∧
      ¬ (Port.harbour = .harbour ∧ 8 < (holding 8 (entryIn st) State.reset).table.tb) ∧
      (entryAt (holding 8 (entryIn st) State.reset) 8).state = st ∧
      amendFields amendAll = some (some 2000, some 7, some (1439, some 0)) ∧
      (holding 8 (entryIn st) State.reset).table.tb ≤ 8 ∧ 8 < (holding 8 (entryIn st) State.reset).table.qb ∧
      tooTall (holding 8 (entryIn st) State.reset).params 2000 = false ∧
      fitsUnder (holding 8 (entryIn st) State.reset).params 2000
        (holding 8 (entryIn st) State.reset).water.effective = false ∧
      decoded (.amend .harbour amendNothing) (holding 8 (entryIn st) State.reset) = true ∧
      8 = byteAt amendNothing 0 ∧ amendFields amendNothing = some (none, none, none) ∧
      tooTall (holding 8 (entryIn st) State.reset).params 1500 = false ∧
      fitsUnder (holding 8 (entryIn st) State.reset).params 1500
        (holding 8 (entryIn st) State.reset).water.effective = false := by
  unfold TableSound Names
  rcases h with rfl | rfl <;> and_intros <;> decide +kernel

theorem witness_AmendStores_refused (st : EntryState) (h : st ≠ .vacant) :
    decoded (.amend .harbour amendAll) (holding 8 (entryIn st) State.reset) = true ∧
      TableSound (holding 8 (entryIn st) State.reset) ∧
      Names (holding 8 (entryIn st) State.reset) 8 (byteAt amendAll 1) ∧
      (entryAt (holding 8 (entryIn st) State.reset) 8).state = st := by
  unfold TableSound Names
  cases st <;> first | exact absurd rfl h | decide +kernel

/-- An opening whose one slot is entry 9's, and that entry ASSIGNED. -/
def assigned : State := holding 9 (entryIn .assigned) (openedWith [slotIn .waiting (some 9)] none .raised)

theorem witness_WithdrawConcludes (st : EntryState) (h : st ≠ .vacant) :
    decoded (.withdraw .harbour [8, 0]) (holding 8 (entryIn st) State.reset) = true ∧
      TableSound (holding 8 (entryIn st) State.reset) ∧ 8 = byteAt [8, 0] 0 ∧
      Names (holding 8 (entryIn st) State.reset) 8 (byteAt [8, 0] 1) ∧
      ¬ (Port.harbour = .harbour ∧ 8 < (holding 8 (entryIn st) State.reset).table.tb) ∧
      (entryAt (holding 8 (entryIn st) State.reset) 8).state = st ∧
      (holding 8 (entryIn st) State.reset).table.tb ≤ 8 := by
  unfold TableSound Names
  cases st <;> first | exact absurd rfl h | decide +kernel

theorem witness_WithdrawConcludes_timetable (st : EntryState) (h : st = .pending ∨ st = .due) :
    decoded (.withdraw .control [7, 0]) (holding 7 (entryIn st) State.reset) = true ∧
      TableSound (holding 7 (entryIn st) State.reset) ∧ 7 = byteAt [7, 0] 0 ∧
      Names (holding 7 (entryIn st) State.reset) 7 (byteAt [7, 0] 1) ∧
      ¬ (Port.control = .harbour ∧ 7 < (holding 7 (entryIn st) State.reset).table.tb) ∧
      (entryAt (holding 7 (entryIn st) State.reset) 7).state = st ∧
      7 < (holding 7 (entryIn st) State.reset).table.tb := by
  unfold TableSound Names
  rcases h with rfl | rfl <;> decide +kernel

theorem witness_WithdrawConcludes_assigned :
    decoded (.withdraw .control [9, 0]) assigned = true ∧ TableSound assigned ∧ 9 = byteAt [9, 0] 0 ∧
      Names assigned 9 (byteAt [9, 0] 1) ∧ (entryAt assigned 9).state = .assigned ∧ assigned.table.tb ≤ 9 ∧
      assigned.seq.opening = some (openingOf [slotIn .waiting (some 9)] none) ∧
      (openingOf [slotIn .waiting (some 9)] none).slots.find? (fun y => y.entry == some 9 && y.state != .done) =
        some (slotIn .waiting (some 9)) := by
  unfold TableSound Names
  decide +kernel

theorem witness_EntriesRetired_release (st : EntryState) (h : st ≠ .vacant) :
    decoded (.release .harbour [8, 0]) (holding 8 (entryIn st) State.reset) = true ∧
      TableSound (holding 8 (entryIn st) State.reset) ∧ 8 = byteAt [8, 0] 0 ∧
      Names (holding 8 (entryIn st) State.reset) 8 (byteAt [8, 0] 1) ∧
      ¬ (Port.harbour = .harbour ∧ 8 < (holding 8 (entryIn st) State.reset).table.tb) ∧
      (entryAt (holding 8 (entryIn st) State.reset) 8).state = st := by
  unfold TableSound Names
  cases st <;> first | exact absurd rfl h | decide +kernel

theorem witness_EntriesRetired_release_not_permitted :
    decoded (.release .harbour [7, 0]) (holding 7 (entryIn .pending) State.reset) = true ∧
      TableSound (holding 7 (entryIn .pending) State.reset) ∧ 7 = byteAt [7, 0] 0 ∧
      Names (holding 7 (entryIn .pending) State.reset) 7 (byteAt [7, 0] 1) ∧
      7 < (holding 7 (entryIn .pending) State.reset).table.tb := by
  unfold TableSound Names
  decide +kernel

theorem witness_EntriesRetired_delete (st : EntryState) (h : st ≠ .vacant) :
    decoded (.deleteTimetable .control [7, 0]) (holding 7 (entryIn st) State.reset) = true ∧
      decoded (.release .control [7, 0]) (holding 7 (entryIn st) State.reset) = true ∧
      TableSound (holding 7 (entryIn st) State.reset) ∧ 7 = byteAt [7, 0] 0 ∧
      Names (holding 7 (entryIn st) State.reset) 7 (byteAt [7, 0] 1) ∧
      7 < (holding 7 (entryIn st) State.reset).table.tb ∧
      (entryAt (holding 7 (entryIn st) State.reset) 7).state = st := by
  unfold TableSound Names
  cases st <;> first | exact absurd rfl h | decide +kernel

theorem witness_EntriesRetired_delete_booked :
    decoded (.deleteTimetable .control [8, 0]) (holding 8 (entryIn .pending) State.reset) = true ∧
      TableSound (holding 8 (entryIn .pending) State.reset) ∧
      Names (holding 8 (entryIn .pending) State.reset) 8 (byteAt [8, 0] 1) ∧
      (holding 8 (entryIn .pending) State.reset).table.tb ≤ 8 := by
  unfold TableSound Names
  decide +kernel

theorem witness_TableReadsAnswer (st : EntryState) (h : st = .pending ∨ st = .damaged) :
    decoded (.lookUp .harbour [8, 0]) (holding 8 (entryIn st) State.reset) = true ∧
      TableSound (holding 8 (entryIn st) State.reset) ∧ 8 = byteAt [8, 0] 0 ∧
      Names (holding 8 (entryIn st) State.reset) 8 (byteAt [8, 0] 1) ∧
      (entryAt (holding 8 (entryIn st) State.reset) 8).identity.length = 8 ∧
      (entryAt (holding 8 (entryIn st) State.reset) 8).state = st ∧
      decoded (.find .harbour vessel) (holding 8 (entryIn st) State.reset) = true ∧
      identityOk (identityAt vessel 0) = true ∧
      decoded (.list .harbour [255, 63]) (holding 8 (entryIn st) State.reset) = true ∧ byteAt [255, 63] 1 < 64 ∧
      decoded (.list .harbour [0, 0]) (holding 8 (entryIn st) State.reset) = true ∧
      decoded (.listDue .harbour [255]) (holding 8 (entryIn st) State.reset) = true := by
  unfold TableSound Names
  rcases h with rfl | rfl <;> decide +kernel

theorem witness_WholeTableRequests :
    decoded (.clearDamage .control []) State.reset = true ∧ decoded (.clearTable .control []) State.reset = true ∧
      decoded (.setRegions .control [0, 0, 0, 0, 0, 0, 0, 65]) State.reset = true ∧
      64 < longAt [0, 0, 0, 0, 0, 0, 0, 65] 4 ∧
      decoded (.setRegions .control [0, 0, 0, 0, 0, 0, 0, 64]) State.reset = true ∧
      ((0 : Nat) : Int) = longAt [0, 0, 0, 0, 0, 0, 0, 64] 0 ∧
      ((64 : Nat) : Int) = longAt [0, 0, 0, 0, 0, 0, 0, 64] 4 ∧ TableSound State.reset ∧
      (∀ i, i < 64 → kindOf State.reset.table i ≠ kindOf { State.reset.table with tb := 0, qb := 64 } i →
        (entryAt State.reset i).state = .vacant) := by
  unfold TableSound
  decide +kernel

theorem witness_WholeTableRequests_in_use :
    decoded (.setRegions .control [0, 0, 0, 0, 0, 0, 0, 64]) (holding 7 (entryIn .pending) State.reset) = true ∧
      TableSound (holding 7 (entryIn .pending) State.reset) ∧
      ∃ i, i < 64 ∧ kindOf (holding 7 (entryIn .pending) State.reset).table i ≠
          kindOf { (holding 7 (entryIn .pending) State.reset).table with tb := 0, qb := 64 } i ∧
        (entryAt (holding 7 (entryIn .pending) State.reset) i).state ≠ .vacant := by
  refine ⟨by decide +kernel, by unfold TableSound; decide +kernel, 7, by decide +kernel⟩

theorem witness_RequiredLift :
    (-2280 : Int) = need { Parameters.default with margin := 20, closedClearance := 2000 } 100 (-400) 0 ∧
      7600 = need { Parameters.default with margin := 300, closedClearance := 200 } 6000 1400 100 ∧
      1 = need Parameters.default 550 1 0 ∧ (0 : Int) ≤ Parameters.default.maxLift ∧
      Parameters.default.maxLift % 100 = 0 := by decide +kernel

theorem witness_GaugeReadings_first :
    decoded (.waterLevel .harbour [0x7F, 0xFF]) State.reset = true ∧ signedAt [0x7F, 0xFF] 0 = 32767 ∧
      State.reset.water.accepted = none := by decide +kernel

theorem witness_GaugeReadings_near :
    decoded (.waterLevel .harbour [0, 150]) (gaugeAt 100 none .live) = true ∧
      (gaugeAt 100 none .live).water.accepted = some 100 ∧
      |max (-400) (min (signedAt [0, 150] 0) 1200) - 100| ≤ (gaugeAt 100 none .live).params.jumpLimit := by
  decide +kernel

theorem witness_GaugeReadings_confirmed :
    decoded (.waterLevel .harbour [0, 200]) (gaugeAt 100 (some 250) .stale) = true ∧
      (gaugeAt 100 (some 250) .stale).water.accepted = some 100 ∧
      (gaugeAt 100 (some 250) .stale).water.candidate = some 250 ∧
      |max (-400) (min (signedAt [0, 200] 0) 1200) - 250| ≤ (gaugeAt 100 (some 250) .stale).params.jumpLimit := by
  decide +kernel

theorem witness_GaugeReadings_held :
    decoded (.waterLevel .harbour [0, 151]) (gaugeAt 100 none .live) = true ∧
      (gaugeAt 100 none .live).water.accepted = some 100 ∧
      (¬ |max (-400) (min (signedAt [0, 151] 0) 1200) - 100| ≤ (gaugeAt 100 none .live).params.jumpLimit) ∧
      ∀ k, (gaugeAt 100 none .live).water.candidate = some k →
        ¬ |max (-400) (min (signedAt [0, 151] 0) 1200) - k| ≤ (gaugeAt 100 none .live).params.jumpLimit :=
  ⟨by decide +kernel, by decide +kernel, by decide +kernel, fun _ h => by cases h⟩

theorem witness_GaugeReadings_stale :
    (gaugeAt 1200 none .live).water.staleness = .running 0 120000 ∧
      State.reset.water.staleness.isRunning = false := by decide +kernel

/-- An opening in RAISED with one slot in a state. -/
def raisedWith (st : SlotState) (cause : Option ClosingCause) : State := openedWith [slotIn st none] cause .raised

theorem witness_CloseSpanSetsCall :
    portFree State.reset .control = true ∧ State.reset.mode = .configuring ∧
      portFree (serving .roadOpen) .control = true ∧ (serving .roadOpen).mode = .service ∧
      (serving .roadOpen).seq.opening = none ∧ portFree (raisedWith .waiting none) .control = true ∧
      (raisedWith .waiting none).mode = .service ∧
      (raisedWith .waiting none).seq.opening = some (openingOf [slotIn .waiting none] none) ∧
      (∃ y ∈ (openingOf [slotIn .waiting none] none).slots, y.state ≠ .done) ∧
      portFree (raisedWith .done none) .control = true ∧ (raisedWith .done none).mode = .service ∧
      (raisedWith .done none).seq.opening = some (openingOf [slotIn .done none] none) ∧
      (∀ y ∈ (openingOf [slotIn .done none] none).slots, y.state = .done) ∧
      portFree (raisedWith .done (some .wind)) .control = true ∧
      (raisedWith .done (some .wind)).seq.opening = some (openingOf [slotIn .done none] (some .wind)) ∧
      (openingOf [slotIn .done none] (some .wind)).closingCause.isSome = true := by decide +kernel

theorem witness_OpenNowStarts :
    decoded (.openNow .control []) (serving .roadOpen) = true ∧
      decoded (.openNow .control []) (serving .roadClosed) = true ∧
      decoded (.openNow .control []) (serving .positionLost) = true ∧
      (serving .roadOpen).planner.roadPriority = false := by decide +kernel

/-- Every state of the sequence but INACTIVE takes a request of SERVICE. -/
theorem witness_by_state (q : SeqState) :
    (serving q).seq.state = q ∧ decoded (.roadPriority .control []) (serving q) = true ∧
      decoded (.abandon .control []) (serving q) = true ∧ decoded (.closeRoad .control []) (serving q) = true ∧
      decoded (.reopenRoad .control []) (serving q) = true ∧ decoded (.stop .control []) (serving q) = true ∧
      decoded (.resume .control []) (serving q) = true ∧ decoded (.recoverSeat .control []) (serving q) = true ∧
      (serving q).seq.closureOrigin ≠ some .positionLost := by
  cases q <;> decide +kernel

/-- An operator closure from POSITION_LOST. -/
def closingFromLost (q : SeqState) : State :=
  { serving q with seq := { (serving q).seq with
      roadClosedByOperator := true, closureOrigin := some .positionLost } }

theorem witness_RoadPriorityByState_from_lost (q : SeqState) :
    decoded (.roadPriority .control []) (closingFromLost q) = true ∧ (closingFromLost q).seq.state = q ∧
      (closingFromLost q).seq.closureOrigin = some .positionLost := by
  cases q <;> decide +kernel

/-- The road-priority flag set with its timer. -/
def roadFirst : State :=
  { serving .roadOpen with planner :=
      { Planner.reset with roadPriority := true, roadPriorityTimer := .running 0 5, holdOff := .running 9 10 } }

theorem witness_RoadPriorityEnd_PlannerTimers :
    decoded (.roadPriorityEnd .control []) roadFirst = true ∧ roadFirst.planner.roadPriority = true ∧
      decoded (.roadPriorityEnd .control []) (serving .roadOpen) = true ∧
      (serving .roadOpen).planner.roadPriority = false ∧ roadFirst.planner.roadPriorityTimer = .running 0 5 ∧
      roadFirst.planner.holdOff = .running 9 10 ∧ (serving .roadOpen).planner.holdOff.isRunning = false ∧
      (serving .roadOpen).planner.roadPriorityTimer.isRunning = false ∧
      (serving .roadOpen).planner.maxRaised.isRunning = false := by decide +kernel

/-- An opening raised for a while. -/
def raisedLong : State :=
  { raisedWith .waiting none with planner := { Planner.reset with maxRaised := .running 0 25 } }

theorem witness_PlannerTimersExpire_max_raised :
    raisedLong.planner.maxRaised = .running 0 25 ∧
      raisedLong.seq.opening = some (openingOf [slotIn .waiting none] none) ∧
      (openingOf [slotIn .waiting none] none).closingCause = none := by decide +kernel

theorem witness_NavigationFlag :
    portFree State.reset .control = true ∧ State.reset.planner.navigationClosed = false ∧
      ({ State.reset with planner := { Planner.reset with navigationClosed :=
        true } } : State).planner.navigationClosed
        = true := by decide +kernel

theorem witness_AbandonByState_opening (q : SeqState) :
    decoded (.abandon .control []) (openedWith [slotIn .waiting none] none q) = true ∧
      (openedWith [slotIn .waiting none] none q).seq.state = q ∧
      (openedWith [slotIn .waiting none] none q).seq.closureOrigin ≠ some .positionLost ∧
      (openedWith [slotIn .waiting none] none q).seq.opening = some (openingOf [slotIn .waiting none] none) := by
  cases q <;> decide +kernel

/-- Both approaches dark. -/
def darkRoad (q : SeqState) : State := approachIn { ApproachRecord.reset with phase := .dark } (serving q)

theorem witness_RoadClosureRequests (a : Approach) :
    decoded (.closeRoad .control []) (darkRoad .roadOpen) = true ∧ (darkRoad .roadOpen).seq.state = .roadOpen ∧
      ((darkRoad .roadOpen).guard.approaches.get a).phase = .dark ∧
      ((serving .positionLost).guard.approaches.get a).phase = .red := by
  cases a <;> decide +kernel

/-- FAULT_HOLD over RAISED with causes, and the readings with the listed inputs made. -/
def holdingFault (causes : BitVec 10) (l : List Nat) : State :=
  reading l { serving .faultHold with seq :=
    { (serving .faultHold).seq with heldPhase := some .raised, causes := causes } }

/-- LEVEL is in the set and its condition does not hold while the level switch (input 46) is made. -/
theorem witness_ResumeByState_fault_hold :
    decoded (.resume .control []) (holdingFault 0x004 [46]) = true ∧
      (holdingFault 0x004 [46]).seq.state = .faultHold ∧ mayResume (holdingFault 0x004 [46]) = true ∧
      decoded (.resume .control []) (holdingFault 0x004 []) = true ∧
      (holdingFault 0x004 []).seq.state = .faultHold ∧ mayResume (holdingFault 0x004 []) = false := by
  decide +kernel

/-- HALTED over RAISED with causes, and the readings with the listed inputs made. -/
def haltedWith (causes : BitVec 10) (l : List Nat) : State :=
  reading l { serving .halted with seq :=
    { (serving .halted).seq with heldPhase := some .raised, causes := causes } }

theorem witness_ResumeByState_halted :
    decoded (.resume .control []) (haltedWith 0 [56]) = true ∧ (haltedWith 0 [56]).seq.state = .halted ∧
      RawInputs.emergencyStop (filtered (haltedWith 0 [56])) = true ∧
      decoded (.resume .control []) (haltedWith 0x200 []) = true ∧
      RawInputs.emergencyStop (filtered (haltedWith 0x200 [])) = false ∧ (haltedWith 0x200 []).seq.causes ≠ 0 ∧
      decoded (.resume .control []) (haltedWith 0 []) = true ∧
      RawInputs.emergencyStop (filtered (haltedWith 0 [])) = false ∧ (haltedWith 0 []).seq.causes = 0 ∧
      (haltedWith 0 []).seq.heldPhase = some .raised := by decide +kernel

/-- POSITION_LOST with every arm in service down. -/
def seatLost : State := reading [] (armsIn (armAtRest .down .down) (serving .positionLost))

theorem witness_SeatRecovery (a : Arm) :
    decoded (.recoverSeat .control []) seatLost = true ∧ seatLost.seq.state = .positionLost ∧
      (seatLost.guard.arms.get a).state = .down ∧ seatLost.channel.zoneCount = 0 ∧ beamsClear seatLost = true ∧
      ((serving .positionLost).guard.arms.get a).state = .fault := by
  cases a <;> decide +kernel

/-- An opening that waits for the wind. -/
def windy : State :=
  { openedWith [slotIn .waiting none] none .windWait with seq :=
    { (openedWith [slotIn .waiting none] none .windWait).seq with windWait := .running 5 600000 } }

theorem witness_WindWait :
    windy.seq.windWait = .running 5 600000 ∧
      windy.seq.opening = some (openingOf [slotIn .waiting none] none) ∧
      (openingOf [slotIn .waiting none] none).closingCause = none ∧
      State.reset.seq.windWait.isRunning = false := by decide +kernel

/-- An approach in amber with the warning command. -/
def amberRoad : State :=
  approachIn { ApproachRecord.reset with phase := .amber, command := true, amberTimer := .running 0 4000 }
    (serving .warning)

/-- An approach in red with a flasher. -/
def redRoad : State := approachIn { ApproachRecord.reset with flasher := .running 0 500 } (serving .warning)

theorem witness_ApproachTimers (a : Approach) :
    (amberRoad.guard.approaches.get a).amberTimer = .running 0 4000 ∧
      (amberRoad.guard.approaches.get a).command = true ∧ (amberRoad.guard.heads.get .n1).inService = true ∧
      (redRoad.guard.approaches.get a).flasher = .running 0 500 ∧ (redRoad.guard.approaches.get a).phase = .red ∧
      (State.reset.guard.approaches.get a).amberTimer.isRunning = false ∧
      (State.reset.guard.approaches.get a).flasher.isRunning = false ∧ Head.n1.approach = .north ∧
      Head.s1.approach = .south := by
  cases a <;> decide +kernel

/-- Head N1 with its lamps in a state, each on and under proof. -/
def proving (st other : LampState) (l : Lamp) : State :=
  let on : LampRecord := { state := st, output := true, proving := .running 0 100, offCheck := .stopped }
  let rest : LampRecord := { LampRecord.reset with state := other }
  { State.reset with guard := { State.reset.guard with heads := { State.reset.guard.heads with
      n1 := { HeadRecord.reset with lamps := PerLamp.set ⟨rest, rest, rest⟩ l on } } } }

theorem witness_LampProvedAndChecked (l : Lamp) :
    (((proving .unproven .failed l).guard.heads.get .n1).lamps.get l).proving = .running 0 100 ∧
      (((proving .unproven .failed l).guard.heads.get .n1).lamps.get l).state ≠ .failed ∧
      RawInputs.current (filtered (proving .unproven .failed l)) .n1 l = false ∧
      (l ≠ .ra → (((proving .unproven .failed l).guard.heads.get .n1).lamps.get .ra).state = .failed) ∧
      (l ≠ .rb → (((proving .unproven .proven l).guard.heads.get .n1).lamps.get .rb).state ≠ .failed) ∧
      ((State.reset.guard.heads.get .n1).lamps.get l).offCheck = .running 0 250 ∧
      (State.reset.guard.heads.get .n1).currentWhenOff = false ∧
      RawInputs.current (filtered (reading [12, 13, 14] State.reset)) .n1 l = true ∧
      ((State.reset.guard.heads.get .n1).lamps.get l).proving.isRunning = false ∧
      (((proving .unproven .failed l).guard.heads.get .n1).lamps.get l).offCheck.isRunning = false := by
  cases l <;> decide +kernel

/-- A warning count in a condition. -/
def counting (st : CountStatus) (q : SeqState) : State :=
  armsIn (armAtRest .up .up)
    (approachIn { ApproachRecord.reset with command := true, count := some ⟨st, 0, 12000, false⟩ } (serving q))

theorem witness_WarningCounts (a : Approach) (q : SeqState) :
    ((counting .running q).guard.approaches.get a).count = some ⟨.running, 0, 12000, false⟩ ∧
      (counting .running q).seq.state = q ∧ ((counting .running q).guard.arms.get a.entryArm).state = .up ∧
      decoded (.confirmUnwarned .control [1]) (counting .held q) = true ∧
      named allApproaches (byteAt [1] 0) = some .south ∧
      ((counting .held q).guard.approaches.get .south).count = some ⟨.held, 0, 12000, false⟩ ∧
      decoded (.confirmUnwarned .control [0]) (counting .running q) = true ∧
      named allApproaches (byteAt [0] 0) = some .north ∧ (countTimer a State.reset).isRunning = false := by
  cases a <;> cases q <;> decide +kernel

/-- Head S4 out of service. -/
def headOut : State :=
  { State.reset with guard := { State.reset.guard with heads := { State.reset.guard.heads with
      s4 := { HeadRecord.reset with inService := false } } } }

theorem witness_LampAndHeadRequests :
    decoded (.clearLamp .control [7, 3]) State.reset = true ∧ named allHeads (byteAt [7, 3] 0) = some .s4 ∧
      lampsOf (byteAt [7, 3] 1) = some [.amber, .ra, .rb] ∧ (State.reset.guard.heads.get .s4).inService = true ∧
      decoded (.clearLamp .control [7, 0]) headOut = true ∧ lampsOf (byteAt [7, 0] 1) = some [.amber] ∧
      (headOut.guard.heads.get .s4).inService = false ∧ decoded (.headService .control [7, 0]) headOut = true ∧
      byteAt [7, 0] 1 = false.toNat ∧ decoded (.headService .control [0, 1]) State.reset = true ∧
      named allHeads (byteAt [0, 1] 0) = some .n1 ∧ byteAt [0, 1] 1 = true.toNat ∧
      decoded (.clearRoadStatus .control [8, 15, 6, 1]) State.reset = true ∧ byteAt [8, 15, 6, 1] 0 ≤ 8 ∧
      byteAt [8, 15, 6, 1] 1 < 16 ∧ byteAt [8, 15, 6, 1] 2 ≤ 6 ∧ byteAt [8, 15, 6, 1] 3 < 2 := by
  and_intros <;> decide +kernel

/-- Every arm lowering, its travel timer running. -/
def armsLowering : State :=
  armsIn { armAtRest .lowering .down with travel := .running 0 10000 } (serving .entryClosing)

/-- Every arm up after a reversal, waiting to try again, with or without the permit. -/
def armsWaiting (permit : Bool) : State :=
  armsIn { armAtRest .up .down with retryWait := .running 0 5000, obstructions := 1 }
    (approachIn { ApproachRecord.reset with command := true, permit := permit } (serving .entryClosing))

/-- Every arm in FAULT on its way to an end, the span seated and locked, the approaches commanded and permitted. -/
def armsFaulty (e : ArmEnd) : State :=
  reading [42, 44] (boltsIn .driven (armsIn { ArmRecord.reset with commandedEnd := e, obstructions := 3 }
    (approachIn { ApproachRecord.reset with command := true, permit := true } (serving .roadOpen))))

theorem witness_ArmEvents_timers (a : Arm) :
    (armsLowering.guard.arms.get a).travel = .running 0 10000 ∧
      ((armsWaiting true).guard.arms.get a).retryWait = .running 0 5000 ∧
      ((armsWaiting true).guard.approaches.get a.approach).permit = true ∧
      ((armsWaiting false).guard.approaches.get a.approach).permit = false ∧
      Arm.nEntry.isEntry = true ∧ Arm.nExit.isEntry = false ∧
      ((armsWaiting false).guard.arms.get a).travel.isRunning = false ∧
      (armsLowering.guard.arms.get a).retryWait.isRunning = false := by
  cases a <;> decide +kernel

theorem witness_ArmEvents_retry :
    decoded (.armRetry .control [3]) (armsFaulty .up) = true ∧ named allArms (byteAt [3] 0) = some .sExit ∧
      retryRefused .sExit (armsFaulty .up) = false ∧ decoded (.armRetry .control [0]) (armsFaulty .down) = true ∧
      named allArms (byteAt [0] 0) = some .nEntry ∧ retryRefused .nEntry (armsFaulty .down) = false ∧
      decoded (.armRetry .control [0]) armsLowering = true ∧ retryRefused .nEntry armsLowering = true := by
  decide +kernel

/-- Every arm out of service, the listed inputs made. -/
def armsOut (l : List Nat) : State := reading l (armsIn (armAtRest .outOfService .up) (serving .roadOpen))

theorem witness_ArmEvents_service :
    decoded (.armService .control [3, 1]) (armsFaulty .up) = true ∧ named allArms (byteAt [3, 1] 0) = some .sExit ∧
      byteAt [3, 1] 1 = true.toNat ∧ ((armsFaulty .up).guard.arms.get .sExit).state = .fault ∧
      decoded (.armService .control [3, 1]) (armsOut []) = true ∧
      ((armsOut []).guard.arms.get .sExit).state = .outOfService ∧
      decoded (.armService .control [3, 0]) (armsOut []) = true ∧ byteAt [3, 0] 1 = false.toNat ∧
      (armsOut []).seq.state = .roadOpen ∧ restUp (filtered (armsOut [])) .sExit = false ∧
      decoded (.armService .control [3, 0]) (armsOut [9]) = true ∧
      restUp (filtered (armsOut [9])) .sExit = true := by decide +kernel

/-- A deck measurement under way in a state of the sequence. -/
def measuring (q : SeqState) : State :=
  { serving q with guard := { State.reset.guard with
      deck := { State.reset.guard.deck with
        measurement := some .running, clear := .running 0 8000, wait := .running 0 120000 },
      detectors := { State.reset.guard.detectors with
        d6 := { inService := true, occupiedLong := false, occupancy := .running 0 120000, spent := false } } } }

theorem witness_DeckEvents (q : SeqState) :
    (measuring q).guard.deck.clear = .running 0 8000 ∧ (measuring q).seq.state = q ∧
      (measuring q).guard.deck.wait = .running 0 120000 ∧
      ((measuring q).guard.detectors.get .d6).occupancy = .running 0 120000 ∧
      decoded (.detectorService .control [5, 1]) (measuring q) = true ∧
      named allDetectors (byteAt [5, 1] 0) = some .d6 ∧ byteAt [5, 1] 1 = true.toNat ∧
      ((measuring q).guard.detectors.get .d6).inService = true ∧
      decoded (.detectorService .control [0, 0]) (serving q) = true ∧
      named allDetectors (byteAt [0, 0] 0) = some .d1 ∧ byteAt [0, 0] 1 = false.toNat ∧
      (serving q).guard.deck.measurement ≠ some .running ∧ (serving q).guard.deck.clear.isRunning = false ∧
      (serving q).guard.deck.wait.isRunning = false ∧
      ((serving q).guard.detectors.get .d1).occupancy.isRunning = false := by
  cases q <;> decide +kernel

/-- A tower with a count and encoder levels, the positions valid in RAISED. -/
def encoderAt (c : Int) (a b : Bool) : State :=
  { serving .raised with drive := { Drive.reset with
      valid := true,
      towers := ⟨{ TowerRecord.reset with count := c, phaseA := a, phaseB := b }, .reset⟩ } }

theorem witness_EncoderEdgeCounts_limits :
    ((encoderAt 8388607 true false).drive.towers.get .w).count = 8388607 ∧
      phasePlace true false = 3 ∧ phasePlace false false = (3 + 1) % 4 ∧
      ((encoderAt (-8388608) false false).drive.towers.get .w).count = -8388608 ∧
      phasePlace true false = (0 + 3) % 4 ∧ phasePlace true true = (0 + 2) % 4 ∧
      (encoderAt 0 false false).drive.valid = true ∧ (encoderAt 0 false false).seq.state = .raised := by
  decide +kernel

/-- A lift under way towards a target, the span level. -/
def liftingTo (g : Int) : State :=
  reading [46] { serving .lifting with drive := { Drive.reset with
    valid := true, motion := .raise, phase := some .running, target := some g, profile := 100,
    towers := ⟨{ TowerRecord.reset with released := true, reference := 100 },
      { TowerRecord.reset with released := true, reference := 100 }⟩ } }

theorem witness_PositionSampleRaises (g : Int) (h : g = 1 ∨ g = 0) (k : Tower) :
    (liftingTo g).drive.motion = .raise ∧ (liftingTo g).drive.phase = some .running ∧
      (liftingTo g).drive.target = some g ∧ (liftingTo g).drive.stopAsked = false ∧
      RawInputs.level (filtered (liftingTo g)) = true ∧
      |skew (computePositions (liftingTo g))| < (liftingTo g).params.skewLimit ∧
      outOfRange (computePositions (liftingTo g)) = false ∧
      RawInputs.upperLimit (filtered (liftingTo g)) k = false ∧
      stalled (stepAnchor ((computePositions (liftingTo g)).drive.towers.get k)) = false ∧
      (g = 1 → spanPosition (computePositions (liftingTo g)) < g) ∧
      (g = 0 → g ≤ spanPosition (computePositions (liftingTo g))) ∧
      (0 : Int) ≤ (liftingTo g).params.trimGain ∧ ((liftingTo g).drive.towers.get k).stopped = false ∧
      (liftingTo g).drive.motion ≠ .lower ∧ (liftingTo g).drive.motion ≠ .descent := by
  rcases h with rfl | rfl <;> cases k <;> decide +kernel

/-- A motion that waits for its brakes. -/
def settling (m : Motion) : State :=
  { serving .lifting with drive := { Drive.reset with
      motion := m, phase := some .settling, settle := .running 0 400,
      jog := if m = .jog then some ⟨.e, .up, .running 0 500, false⟩ else none } }

theorem witness_DriveTimers (m : Motion) (b : Tower) :
    (settling m).drive.settle = .running 0 400 ∧ (settling m).drive.motion = m ∧
      (settling .jog).drive.jog = some ⟨.e, .up, .running 0 500, false⟩ ∧
      State.reset.drive.settle.isRunning = false ∧ (State.reset.drive.bolts.get b).travel.isRunning = false ∧
      State.reset.drive.jog = none := by
  cases m <;> cases b <;> decide +kernel

/-- Both bolts on their way, their timers running. -/
def boltsMoving (q : SeqState) : State :=
  { serving q with drive := { Drive.reset with
      bolts := ⟨⟨.withdrawing, none, .running 0 6000, false⟩, ⟨.withdrawing, none, .running 0 6000, false⟩⟩ } }

theorem witness_LockTravel (q : SeqState) (b : Tower) :
    ((boltsMoving q).drive.bolts.get b).travel = .running 0 6000 ∧ (boltsMoving q).seq.state = q := by
  cases q <;> cases b <;> decide +kernel

/-- POSITION_LOST with the arms down and the bolts out, and a jog in progress or none. -/
def jogging (j : Option Jog) : State :=
  let s := boltsIn .withdrawn seatLost
  { s with drive := { s.drive with jog := j, motion := if j.isSome then .jog else .none } }

/-- A jog of the east tower downwards. -/
def eastDown : Jog := ⟨.e, .down, .running 100 500, false⟩

theorem witness_JogAccepted :
    decoded (.jog .control [1, 1]) (jogging none) = true ∧ named allTowers (byteAt [1, 1] 0) = some .e ∧
      byteAt [1, 1] 1 = 1 ∧ jogState (jogging none) = true ∧ jogAllowed .e .down (jogging none) = true ∧
      (jogging none).drive.jog = none ∧ decoded (.jog .control [1, 1]) (jogging (some eastDown)) = true ∧
      jogAllowed .e .down (jogging (some eastDown)) = true ∧ (jogging (some eastDown)).drive.jog = some eastDown ∧
      eastDown.tower = .e ∧ eastDown.direction = .down ∧ (jogging (some eastDown)).drive.motion = .jog ∧
      eastDown.keepAlive = .running 100 500 := by decide +kernel

theorem witness_JogRefused :
    decoded (.jog .control [0, 0]) (serving .raised) = true ∧ named allTowers (byteAt [0, 0] 0) = some .w ∧
      byteAt [0, 0] 1 = 0 ∧ jogState (serving .raised) = false ∧ (serving .raised).drive.jog = none ∧
      decoded (.jog .control [1, 1]) (reading [44] (jogging (some eastDown))) = true ∧
      jogAllowed .e .down (reading [44] (jogging (some eastDown))) = false ∧
      (reading [44] (jogging (some eastDown))).drive.jog = some eastDown := by decide +kernel

theorem witness_ChannelCommands_zone :
    decoded (.zoneReset .control []) fullZone = true ∧ beamsClear fullZone = true ∧
      fullZone.channel.recognizers = ⟨none, none⟩ ∧
      decoded (.zoneReset .control []) (reading [54] fullZone) = true ∧
      beamsClear (reading [54] fullZone) = false := by
  decide +kernel

/-- A slot with its no-show timer running, its approach committed or not, the channel-clear timer running. -/
def noShowAt (committed : Bool) : State :=
  let s := openedWith [{ slotIn .proceedGiven none with noShow := .running 0 8 }] none .raised
  { s with channel := { s.channel with
      clearTimer := .running 0 30000, recognizers := ⟨none, if committed then some .outer else none⟩ } }

theorem witness_ChannelCommands_timers (c : Bool) :
    (noShowAt c).channel.clearTimer = .running 0 30000 ∧
      (slots (noShowAt c))[0]? = some { slotIn .proceedGiven none with noShow := .running 0 8 } ∧
      committed (noShowAt c) .inbound = c ∧
      findSlot 0 (noShowAt c) = some { slotIn .proceedGiven none with noShow := .running 0 8 } ∧
      State.reset.channel.clearTimer.isRunning = false ∧ (slots State.reset)[0]? = none := by
  cases c <;> decide +kernel

theorem witness_SamplerAndRecognizers_beams :
    (true || false) = true ∧ (false || true) = true ∧
        made [51] = filtered (takeReading (made [51]) State.reset) := by
  decide +kernel

theorem witness_SamplerAndRecognizers_filter :
    State.reset.inputs = none ∧ (reading [0] State.reset).inputs = some (made [0], made [0], made [0]) ∧
      RawInputs.emergencyStop (made [56]) = true := by decide +kernel

/-- The clock with a pulse reference and a lock. -/
def pulsed (lock : LockState) (ref : Option Nat) (run : Nat) : State :=
  { State.reset with clock := { State.reset.clock with
      lock := lock, reference := ref, recaptureRun := run, measuring := .running 0 300, sinceStep := some 0,
      supervision := if lock = .locked then .running 0 1200 else .stopped } }

theorem witness_ClockEvents_pulses :
    (pulsed .locked (some 0) 0).clock.reference = some 0 ∧ 0 + 799 < 800 ∧
      (pulsed .locked none 0).clock.lock = .locked ∧
      (∀ r, (pulsed .locked none 0).clock.reference = some r → 800 ≤ r + 0) ∧
      (∀ r, (pulsed .locked (some 0) 0).clock.reference = some r → 800 ≤ r + 800) ∧
      (∀ r, (pulsed .free (some 1) 0).clock.reference = some r → 1200 < r + 1200) ∧
      (pulsed .free (some 1) 0).clock.lock = .free ∧ (pulsed .free (some 0) 1).clock.reference = some 0 ∧
      800 ≤ 0 + 800 ∧ 0 + 1200 ≤ 1200 ∧ (pulsed .free (some 0) 1).clock.recaptureRun < 2 ∧
      2 ≤ (pulsed .free (some 0) 2).clock.recaptureRun ∧ (pulsed .free (some 0) 2).clock.lock = .free := by
  refine ⟨rfl, by decide, rfl, (fun _ h => by cases h), (fun _ h => by cases h; decide),
    (fun _ h => by cases h; decide), ?_⟩
  decide

theorem witness_ClockEvents_timers :
    (pulsed .locked (some 0) 0).clock.measuring = .running 0 300 ∧
      (pulsed .locked (some 0) 0).clock.supervision = .running 0 1200 ∧
      State.reset.clock.stepTimer = .running 0 1000 ∧ State.reset.clock.measuring.isRunning = false ∧
      State.reset.clock.supervision.isRunning = false ∧
      ({ State.reset with clock := { State.reset.clock with stepTimer := .stopped } } :
        State).clock.stepTimer.isRunning = false := by decide +kernel

theorem witness_ClockRequests_set :
    decoded (.setTime .control [0x05, 0xA0, 0, 0]) State.reset = true ∧ 1440 = wordAt [0x05, 0xA0, 0, 0] 0 ∧
      decoded (.setTime .control [0, 0, 60, 0]) State.reset = true ∧ 60 = byteAt [0, 0, 60, 0] 2 ∧
      decoded (.setTime .control [0, 0, 0, 2]) State.reset = true ∧ 2 = byteAt [0, 0, 0, 2] 3 ∧
      decoded (.setTime .control [0x05, 0x9F, 59, 1]) lastSecond = true ∧ 1439 = wordAt [0x05, 0x9F, 59, 1] 0 ∧
      59 = byteAt [0x05, 0x9F, 59, 1] 2 ∧ 1 = byteAt [0x05, 0x9F, 59, 1] 3 ∧ lastSecond.clock.minute < 1440 ∧
      (0 = if 1439 = lastSecond.clock.minute then (if lastSecond.clock.seconds ≤ 59 then 0 else 1440)
        else (1439 + 1440 - lastSecond.clock.minute) % 1440) ∧
      (clockAt 0).clock.valid = true ∧ decoded (.setTime .control [0, 0, 0, 1]) (clockAt 0) = true := by
  and_intros <;> decide +kernel

theorem witness_ClockRequests_status :
    decoded (.clockStatus .control [1]) (pulsed .free (some 65535) 0) = true ∧ byteAt [1] 0 = true.toNat ∧
      (∀ r, (pulsed .free (some 65535) 0).clock.reference = some r → r < 65536) ∧
      decoded (.clockStatus .control [0]) State.reset = true ∧ byteAt [0] 0 = false.toNat ∧
      ∀ r, State.reset.clock.reference = some r → r < 65536 :=
  ⟨by decide +kernel, by decide, (fun _ h => by cases h; decide), by decide +kernel, by decide,
    fun _ h => by cases h⟩

theorem witness_Configure (a : Arm) :
    decoded (.configure .control []) seatLost = true ∧ seatLost.seq.state = .positionLost ∧
      (seatLost.guard.arms.get a).state ≠ .lowering ∧ (seatLost.guard.arms.get a).state ≠ .raising ∧
      decoded (.configure .control []) (serving .raised) = true ∧ (serving .raised).seq.state ≠ .roadOpen ∧
      (serving .raised).seq.state ≠ .roadClosed ∧ (serving .raised).seq.state ≠ .positionLost := by
  cases a <;> decide +kernel

/-- Power-on with other parameters. -/
def tuned (p : Parameters) : State := { State.reset with params := p }

theorem witness_Commission_refused :
    decoded (.commission .control []) (tuned { Parameters.default with skewLimit := 20, trimBand := 20 }) = true ∧
      decoded (.commission .control []) (tuned
        { Parameters.default with creepSpeed := 201, travelSpeed := 200 }) = true ∧
      decoded (.commission .control []) (tuned { Parameters.default with maxLift := 1200 }) = true ∧
      (1200 : Int) ≤ 2 * (tuned { Parameters.default with maxLift := 1200 }).params.creepDistance ∧
      decoded (.commission .control []) (tuned
        { Parameters.default with warningTime := 6, amberTime := 7 }) = true := by
  decide +kernel

theorem witness_Commission_accepted :
    decoded (.commission .control []) State.reset = true ∧
      State.reset.params.trimBand < State.reset.params.skewLimit ∧
      State.reset.params.creepSpeed ≤ State.reset.params.travelSpeed ∧
      2 * State.reset.params.creepDistance < State.reset.params.maxLift ∧
      State.reset.params.amberTime ≤ State.reset.params.warningTime ∧ spanSecure State.reset = false ∧
      decoded (.commission .control [])
        (reading [42, 44] (boltsIn .driven (armsIn (armAtRest .up .up) State.reset))) = true ∧
      spanSecure (reading [42, 44] (boltsIn .driven (armsIn (armAtRest .up .up) State.reset))) = true := by
  decide +kernel

theorem witness_SetParameter :
    decoded (.setParameter .control [40, 0, 0, 0, 0]) State.reset = true ∧ 40 = byteAt [40, 0, 0, 0, 0] 0 ∧
      decoded (.setParameter .control [38, 0, 0, 0, 30]) State.reset = true ∧
      30 = longAt [38, 0, 0, 0, 30] 1 ∧ parameterTable[byteAt [38, 0, 0, 0, 30] 0]? = some (1, 30, 8, false) ∧
      decoded (.setParameter .control [38, 0, 0, 0, 30]) (serving .raised) = true ∧
      (serving .raised).mode = .service ∧
      decoded (.setParameter .control [6, 0, 0, 0x03, 0xE9]) State.reset = true ∧
      1001 = longAt [6, 0, 0, 0x03, 0xE9] 1 ∧
      decoded (.setParameter .control [2, 0, 0, 0, 1]) (serving .raised) = true ∧
      parameterTable[byteAt [2, 0, 0, 0, 1] 0]? = some (1, 120, 30, true) ∧
      decoded (.setParameter .control [2, 0, 0, 0, 121]) (serving .raised) = true ∧
      121 = longAt [2, 0, 0, 0, 121] 1 := by
  and_intros <;> decide +kernel

/-! ## Witnesses of the refusals of the create requests and of AMEND -/

/-- Every entry in one state, with an arrival order. -/
def tableOf (e : Entry) (order : List Nat) : State :=
  { State.reset with table := { State.reset.table with entries := List.replicate 64 e, arrivalOrder := order } }

/-- A vessel of an air draft, inbound, of class 2. -/
def named2 (air : Nat) : List Byte := vessel ++ [0] ++ put2 air ++ [2]

/-- Power-on with the road deck so high that a low vessel needs no opening. -/
def highDeck : State := tuned { Parameters.default with closedClearance := 2000 }

theorem witness_Create_vessel (d : Direction) :
    decoded (.createBooking .harbour (List.replicate 17 0)) State.reset = true ∧
      ¬ VesselOk (List.replicate 17 0) d ∧
      decoded (.createTimetable .control (List.replicate 14 0)) State.reset = true ∧
      ¬ VesselOk (List.replicate 14 0) d ∧
      decoded (.postArrival .harbour (List.replicate 12 0)) State.reset = true ∧
      ¬ VesselOk (List.replicate 12 0) d := by
  unfold VesselOk
  cases d <;> decide +kernel

theorem witness_Create_duplicate (j : Nat) (h : j = 0 ∨ j = 63) :
    decoded (.createBooking .harbour bookingPayload) (holding j (entryIn .due) State.reset) = true ∧
      decoded (.createTimetable .control timetableFirst) (holding j (entryIn .due) State.reset) = true ∧
      decoded (.postArrival .harbour (named2 1500)) (holding j (entryIn .due) State.reset) = true ∧
      VesselOk bookingPayload .inbound ∧ VesselOk timetableFirst .inbound ∧ VesselOk (named2 1500) .inbound ∧
      TableSound (holding j (entryIn .due) State.reset) ∧
      DuplicateAt bookingPayload .inbound (holding j (entryIn .due) State.reset) j ∧
      DuplicateAt timetableFirst .inbound (holding j (entryIn .due) State.reset) j ∧
      DuplicateAt (named2 1500) .inbound (holding j (entryIn .due) State.reset) j ∧
      (∀ k, k < j → ¬ DuplicateAt bookingPayload .inbound (holding j (entryIn .due) State.reset) k) ∧
      (holding j (entryIn .due) State.reset).params.arrivalFilter.getLsbD (byteAt (named2 1500) 11) = false ∧
      (holding j (entryIn .due) State.reset).params.arrivalFilter.getLsbD 8 = true := by
  unfold TableSound DuplicateAt VesselOk
  rcases h with rfl | rfl <;> and_intros <;> decide +kernel

theorem witness_Create_too_tall :
    decoded (.createBooking .harbour (named2 6000 ++ [0, 0, 0, 0, 0])) State.reset = true ∧
      VesselOk (named2 6000 ++ [0, 0, 0, 0, 0]) .inbound ∧ TableSound State.reset ∧
      NoDuplicate (named2 6000 ++ [0, 0, 0, 0, 0]) .inbound State.reset ∧
      tooTall State.reset.params (wordAt (named2 6000 ++ [0, 0, 0, 0, 0]) 9) = true ∧
      decoded (.createTimetable .control (named2 6000 ++ [0, 1])) State.reset = true ∧
      NoDuplicate (named2 6000 ++ [0, 1]) .inbound State.reset ∧
      decoded (.postArrival .harbour (named2 6000)) State.reset = true ∧
      NoDuplicate (named2 6000) .inbound State.reset := by
  unfold TableSound NoDuplicate DuplicateAt VesselOk
  and_intros <;> decide +kernel

theorem witness_Create_no_opening_needed :
    decoded (.createBooking .harbour (named2 100 ++ [0, 0, 0, 0, 0])) highDeck = true ∧ TableSound highDeck ∧
      NoDuplicate (named2 100 ++ [0, 0, 0, 0, 0]) .inbound highDeck ∧ tooTall highDeck.params 100 = false ∧
      wordAt (named2 100 ++ [0, 0, 0, 0, 0]) 9 = 100 ∧
      fitsUnder highDeck.params 100 highDeck.params.highWater = true ∧
      fitsUnder highDeck.params 100 highDeck.water.effective = true ∧
      decoded (.createTimetable .control (named2 100 ++ [0, 1])) highDeck = true ∧
      decoded (.postArrival .harbour (named2 100)) highDeck = true := by
  unfold TableSound NoDuplicate DuplicateAt
  and_intros <;> decide +kernel

/-- Nothing but concluded entries with an empty arrival order: no place is VACANT, and none is to be used again. -/
theorem witness_Create_full :
    decoded (.createBooking .harbour bookingPayload) (tableOf (entryIn .concluded) []) = true ∧
      TableSound (tableOf (entryIn .concluded) []) ∧
      Admitted bookingPayload (tableOf (entryIn .concluded) []).params.highWater .inbound
        (tableOf (entryIn .concluded) []) ∧
      Admitted timetableFirst (tableOf (entryIn .concluded) []).params.highWater .inbound
        (tableOf (entryIn .concluded) []) ∧
      Admitted posting (tableOf (entryIn .concluded) []).water.effective .outbound
        (tableOf (entryIn .concluded) []) ∧
      ∀ j, j < 64 → (entryAt (tableOf (entryIn .concluded) []) j).state ≠ .vacant := by
  unfold TableSound Admitted VesselOk NoDuplicate DuplicateAt
  and_intros <;> decide +kernel

theorem witness_Create_out_of_range :
    VesselOk (named2 1500 ++ [0x05, 0xA0, 0, 0, 0]) .inbound ∧
      1440 ≤ wordAt (named2 1500 ++ [0x05, 0xA0, 0, 0, 0]) 12 ∧
      2 ≤ byteAt (named2 1500 ++ [0, 0, 2, 0, 0]) 14 ∧ byteAt (named2 1500 ++ [0, 0, 1, 0, 0]) 14 = 1 ∧
      ¬ WindowInRange (wordAt (named2 1500 ++ [0, 0, 1, 0, 0]) 12) (wordAt (named2 1500 ++ [0, 0, 1, 0, 0]) 15) ∧
      ¬ WindowInRange 0 721 ∧ ¬ WindowInRange 1439 1440 ∧
      decoded (.createBooking .harbour (named2 1500 ++ [0, 0, 1, 0, 0])) State.reset = true ∧
      byteAt (named2 1500 ++ [0, 5]) 13 ∉ [1, 2, 3, 4, 6, 8, 12, 16, 24, 32, 48, 96] ∧
      byteAt (named2 1500 ++ [96, 96]) 13 ≤ byteAt (named2 1500 ++ [96, 96]) 12 ∧
      decoded (.createTimetable .control (named2 1500 ++ [96, 96])) State.reset = true := by
  unfold VesselOk WindowInRange
  and_intros <;> decide +kernel

/-- An arrival table with no place left: the entry used again is the one the arrival order names first. -/
theorem witness_PostArrivalStores_retired (st : EntryState) (h : st = .concluded ∨ st = .due) :
    decoded (.postArrival .harbour posting) (tableOf (entryIn st) [63, 40]) = true ∧
      Admitted posting (tableOf (entryIn st) [63, 40]).water.effective .outbound (tableOf (entryIn st) [63, 40]) ∧
      (tableOf (entryIn st) [63, 40]).params.arrivalFilter.getLsbD (byteAt posting 11) = false ∧
      (tableOf (entryIn st) [63, 40]).params.arrivalFilter.getLsbD 9 = true ∧
      TableSound (tableOf (entryIn st) [63, 40]) ∧
      (∀ j, 40 ≤ j → j < 64 → (entryAt (tableOf (entryIn st) [63, 40]) j).state ≠ .vacant) ∧
      (st = .due → ∀ j ∈ [63, 40], (entryAt (tableOf (entryIn st) [63, 40]) j).state ≠ .concluded) ∧
      (tableOf (entryIn st) [63, 40]).table.arrivalOrder.find?
        (fun j => (entryAt (tableOf (entryIn st) [63, 40]) j).state == st) = some 63 := by
  unfold TableSound Admitted VesselOk NoDuplicate DuplicateAt
  rcases h with rfl | rfl <;> and_intros <;> decide +kernel

theorem witness_TagRefusals_harbour (c : Instr)
    (h : c ∈ [Instr.amend .harbour (7 :: 0 :: List.replicate 11 0), .withdraw .harbour [7, 0],
        .release .harbour [7, 0]]) :
    decoded c (holding 7 (entryIn .due) State.reset) = true ∧ TableSound (holding 7 (entryIn .due) State.reset) ∧
      Names (holding 7 (entryIn .due) State.reset) 7 0 ∧ 7 < (holding 7 (entryIn .due) State.reset).table.tb ∧
      decoded (.lookUp .control [0, 16]) State.reset = true ∧ 16 ≤ byteAt [0, 16] 1 := by
  unfold TableSound Names
  simp only [List.mem_cons, List.not_mem_nil, or_false] at h
  rcases h with rfl | rfl | rfl <;> decide +kernel

/-- An AMEND of an entry that names an air draft, or a window. -/
def amendAir (i : Byte) (air : Nat) : List Byte := [i, 0, 1] ++ put2 air ++ [0, 0, 0, 0, 0, 0, 0, 0]

/-- An AMEND of an entry that names E = 0. -/
def amendWindow (i : Byte) : List Byte := [i, 0, 0, 0, 0, 0, 0, 1, 0, 0, 0, 0, 0]

theorem witness_AmendStores_out_of_range :
    AmendOutOfRange (amendAir 8 99) ∧ AmendOutOfRange (amendAir 8 6001) ∧
      AmendOutOfRange [8, 0, 0, 0, 0, 0, 0, 0, 0, 0, 1, 0, 5] ∧ ¬ AmendOutOfRange (amendAir 8 6000) ∧
      decoded (.amend .harbour (amendAir 8 99)) (holding 8 (entryIn .due) State.reset) = true ∧
      decoded (.amend .harbour (amendWindow 40)) (holding 40 (entryIn .due) State.reset) = true ∧
      ¬ AmendOutOfRange (amendWindow 40) ∧ byteAt (amendWindow 40) 7 = 1 ∧
      TableSound (holding 40 (entryIn .due) State.reset) ∧ Names (holding 40 (entryIn .due) State.reset) 40 0 ∧
      ¬ ((holding 40 (entryIn .due) State.reset).table.tb ≤ 40 ∧
        40 < (holding 40 (entryIn .due) State.reset).table.qb) := by
  unfold AmendOutOfRange WindowInRange TableSound Names
  and_intros <;> decide +kernel

theorem witness_AmendStores_tests (st : EntryState) (h : st = .pending ∨ st = .due) :
    decoded (.amend .control (amendAir 7 6000)) (holding 7 (entryIn st) State.reset) = true ∧
      tooTall (holding 7 (entryIn st) State.reset).params 6000 = true ∧
      ¬ AmendOutOfRange (amendAir 7 6000) ∧ byteAt (amendAir 7 6000) 7 = 0 ∧
      decoded (.amend .control (amendAir 7 100)) (holding 7 (entryIn st) highDeck) = true ∧
      TableSound (holding 7 (entryIn st) highDeck) ∧ Names (holding 7 (entryIn st) highDeck) 7 0 ∧
      (entryAt (holding 7 (entryIn st) highDeck) 7).state = st ∧ ¬ AmendOutOfRange (amendAir 7 100) ∧
      (100 : Int) = (if byteAt (amendAir 7 100) 2 = 1 then (wordAt (amendAir 7 100) 3 : Int)
        else (entryAt (holding 7 (entryIn st) highDeck) 7).airDraft) ∧
      tooTall (holding 7 (entryIn st) highDeck).params 100 = false ∧
      fitsUnder (holding 7 (entryIn st) highDeck).params 100 (holding 7 (entryIn st) highDeck).water.effective = true ∧
      decoded (.amend .harbour (amendAir 8 100)) (holding 8 (entryIn st) highDeck) = true := by
  unfold AmendOutOfRange WindowInRange TableSound Names
  rcases h with rfl | rfl <;> and_intros <;> decide +kernel

/-! ## Witnesses of the invariants -/

/-- A raise under way under the interlocks, and a lowering. -/
def commanded (v : Vertical) : State :=
  let s := armsIn (armAtRest .down .down) (boltsIn .withdrawn (liftingTo 100))
  { s with pending := [.positionSample], drive := { s.drive with direction := v } }

theorem witness_InterlocksKept (v : Vertical) :
    (∃ k, ((commanded v).drive.towers.get k).released = true) ∧ Interlocked (commanded v) ∧
      ∃ t, step (commanded v) = .next t := by
  refine ⟨⟨.w, by cases v <;> decide⟩, ?_, ⟨_, rfl⟩⟩
  intro _
  refine ⟨fun a => ?_, fun b => ?_, fun _ => ?_⟩
  · cases v <;> cases a <;> decide
  · cases v <;> cases b <;> decide
  · cases v <;> decide +kernel

/-- A booked and an arrival entry DUE, the elder first. -/
def twoOnList : State :=
  let e : Entry := { entryIn .due with dueStamp := some 0, tideHold := some false }
  let s := holding 8 e (holding 40 { e with dueStamp := some 1 } State.reset)
  { s with table := { s.table with dueList := [8, 40], arrivalOrder := [40], counter := 2 } }

theorem twoOnList_due : ∀ i, i < 64 → ((entryAt twoOnList i).state = .due ↔ i ∈ [8, 40]) := by decide +kernel

theorem twoOnList_arrived : ∀ i, i < 64 → (40 ≤ i ∧ (entryAt twoOnList i).state ≠ .vacant ↔ i ∈ [40]) := by
  decide +kernel

theorem twoOnList_stamped : ∀ i, i < 64 → (entryAt twoOnList i).state = .due ∨
    (entryAt twoOnList i).state.inOpening = true →
    (match (entryAt twoOnList i).dueStamp with | some x => x != twoOnList.table.counter | none => false) = true :=
        by
  decide +kernel

theorem witness_listed : ListsOrdered twoOnList := by
  refine ⟨by unfold TableShaped; decide, by decide, by decide, fun i => ⟨fun h => ?_, fun h => ?_⟩,
    fun i => ⟨fun h => ?_, fun h => ?_⟩, by decide +kernel, fun i hi h => ?_⟩
  · have hi : i < 64 := by
      change i ∈ [8, 40] at h
      simp only [List.mem_cons, List.not_mem_nil, or_false] at h
      omega
    exact ⟨hi, (twoOnList_due i hi).2 h⟩
  · exact (twoOnList_due i h.1).1 h.2
  · have hi : i < 64 := by
      change i ∈ [40] at h
      simp only [List.mem_cons, List.not_mem_nil, or_false] at h
      omega
    have := (twoOnList_arrived i hi).2 h
    exact ⟨this.1, hi, this.2⟩
  · exact (twoOnList_arrived i h.2.1).1 ⟨h.1, h.2.2⟩
  · have := twoOnList_stamped i hi h
    revert this
    cases (entryAt twoOnList i).dueStamp with
    | none => nofun
    | some x => exact fun k => ⟨x, rfl, by simpa using k⟩

theorem witness_ListsKept : ListsOrdered twoOnList ∧ step twoOnList = .next (elapse 1 twoOnList) :=
  ⟨witness_listed, rfl⟩

theorem entryAt_holding_ne (i j : Nat) (e : Entry) (s : State) (h : j ≠ i) :
    entryAt (holding i e s) j = entryAt s j := by
  simp [entryAt, holding, Ne.symm h, List.getD]

theorem entryAt_fresh (s : State) (j : Nat) (h : s.table = State.reset.table) : entryAt s j = Entry.vacant := by
  have he : s.table.entries = List.replicate 64 Entry.vacant := by rw [h]; rfl
  rw [entryAt, he, List.getD_eq_getElem?_getD, List.getElem?_replicate]
  split <;> rfl

theorem slots_matched (x : Slot) (q : SeqState) (i : Nat) (e : EntryState) (cause : Option ClosingCause)
    (hi : i < 64) (hx : x.serial = 0) (hs : x.state ≠ .done → e = x.state.entryState)
    (ho : e.inOpening = true → x.state ≠ .done) (hn : x.entry = some i) (hq : q.inOpening = true)
    (he : (entryAt (holding i (entryIn e) (openedWith [x] cause q)) i).state = e) :
    SlotsMatched (holding i (entryIn e) (openedWith [x] cause q)) := by
  refine ⟨⟨by simp [holding, openedWith, serving, State.reset, Table.reset], rfl, (by decide : 8 ≤ 40),
    (by decide : 40 ≤ 64)⟩, ?_, ?_⟩
  · intro j _ hj
    by_cases h : j = i
    · subst h
      exact ⟨openingOf [x] cause, x, rfl, by simp [openingOf], ho (he ▸ hj), hn⟩
    · rw [entryAt_holding_ne _ _ _ _ h, entryAt_fresh (openedWith [x] cause q) _ rfl] at hj
      cases hj
  intro o ho
  cases ho
  refine ⟨rfl, Or.inl hq, by simp [openingOf], by simp [openingOf], ?_, ?_, by simp [openingOf]⟩
  · simp [openingOf, hx]
  · intro y hy hd j hj
    simp only [openingOf, List.mem_singleton] at hy
    subst hy
    rw [hn] at hj
    cases hj
    exact ⟨hi, he.trans (hs hd)⟩

theorem witness_SlotsKept (st : SlotState) :
    SlotsMatched (holding 9 (entryIn st.entryState) (openedWith [slotIn st (some 9)] none .raised)) ∧
      ∃ t, step (holding 9 (entryIn st.entryState) (openedWith [slotIn st (some 9)] none .raised)) = .next t := by
  refine ⟨slots_matched _ _ 9 _ none (by decide) rfl (fun _ => rfl) ?_ rfl rfl ?_, ⟨_, rfl⟩⟩
  · cases st <;> decide
  · cases st <;> decide +kernel

/-! ## Witnesses of the field events and the clock -/

theorem witness_ArmEvents_service_refused :
    decoded (.armService .control [0, 1]) (armsIn (armAtRest .up .up) (serving .warning)) = true ∧
      byteAt [0, 1] 1 = true.toNat ∧ named allArms (byteAt [0, 1] 0) = some .nEntry ∧
      ((armsIn (armAtRest .up .up) (serving .warning)).guard.arms.get .nEntry).state = .up ∧
      (armsIn (armAtRest .up .up) (serving .warning)).seq.state = .warning ∧
      decoded (.armService .control [0, 0]) (armsIn (armAtRest .outOfService .up) (serving .raised)) = true ∧
      byteAt [0, 0] 1 = false.toNat ∧
      ((armsIn (armAtRest .outOfService .up) (serving .raised)).guard.arms.get .nEntry).state = .outOfService ∧
      decoded (.armService .control [0, 1]) (armsIn (armAtRest .up .up) (serving .roadOpen)) = true ∧
      (armsIn (armAtRest .up .up) (serving .roadOpen)).seq.state = .roadOpen := by
  decide +kernel

theorem witness_JogOther :
    decoded (.jog .control [1, 0]) (jogging (some eastDown)) = true ∧ named allTowers (byteAt [1, 0] 0) = some .e ∧
      byteAt [1, 0] 1 = 0 ∧ (jogging (some eastDown)).drive.jog = some eastDown ∧
      ¬ (eastDown.tower = .e ∧ eastDown.direction = .up) := by decide +kernel

/-- A CLEARED entry whose slot's no-show timer runs. -/
def noShowOf (i : Nat) : State :=
  holding i (entryIn .cleared)
    (openedWith [{ slotIn .proceedGiven (some i) with noShow := .running 0 8 }] none .raised)

theorem witness_ChannelCommands_entry (i : Nat) (h : i = 7 ∨ i = 8) :
    (slots (noShowOf i))[0]? = some { slotIn .proceedGiven (some i) with noShow := .running 0 8 } ∧
      committed (noShowOf i) .inbound = false ∧
      findSlot 0 (noShowOf i) = some { slotIn .proceedGiven (some i) with noShow := .running 0 8 } ∧
      (entryAt (noShowOf i) i).codeGood = true ∧ (entryAt (noShowOf i) i).state.inOpening = true ∧
      ((noShowOf i).table.tb ≤ i ↔ i = 8) := by
  rcases h with rfl | rfl <;> decide +kernel

/-- A clock whose only running timer is the supervision timer, or the oscillator at `step`. -/
def quiet (lock : LockState) (ref : Option Nat) (run step : Nat) (mark : Timer) : State :=
  { State.reset with clock := { State.reset.clock with
      lock := lock, reference := ref, recaptureRun := run, measuring := mark, sinceStep := some 499,
      stepTimer := if lock = .free then .running step 1000 else .stopped,
      supervision := if lock = .locked then .running 0 1200 else .stopped } }

theorem witness_ClockQuiet_locked (n : Nat) (h : n ≤ 1200) : ClockQuiet n (quiet .locked (some 0) 0 0 .stopped) :=
  ⟨nofun, nofun, fun _ _ _ => Or.inr ⟨0, rfl, by omega⟩⟩

theorem witness_ClockQuiet_first (n : Nat) (h : n < 1200) : ClockQuiet n (quiet .locked none 0 0 .stopped) :=
  ⟨nofun, nofun, fun k l e => Or.inl (by cases e; omega)⟩

theorem witness_ClockQuiet_free (n run : Nat) (ref : Option Nat) (h : n < 1000) :
    ClockQuiet n (quiet .free ref run 0 .stopped) :=
  ⟨nofun, fun k l e => by cases e; omega, nofun⟩

theorem witness_ClockEvents_taken :
    (∀ r, (quiet .locked none 0 0 .stopped).clock.reference = some r → 800 ≤ r + 0) ∧
      (∀ r, (quiet .locked (some 0) 0 0 .stopped).clock.reference = some r → 800 ≤ r + 800) ∧
      (quiet .locked (some 0) 0 0 .stopped).clock.lock = .locked ∧
      (∀ r, (quiet .free (some 800) 0 0 .stopped).clock.reference = some r → 1200 < r + 401) ∧
      (quiet .free (some 800) 0 0 .stopped).clock.lock = .free ∧
      (quiet .free (some 800) 1 0 .stopped).clock.reference = some 800 ∧ 800 ≤ 800 + 0 ∧ 800 + 400 ≤ 1200 ∧
      (quiet .free (some 800) 1 0 .stopped).clock.recaptureRun < 2 ∧
      2 ≤ (quiet .free (some 800) 2 0 .stopped).clock.recaptureRun ∧
      ((499 : Nat) ∈ (quiet .free (some 800) 2 0 .stopped).clock.sinceStep ∧ 499 + 0 < 500) := by
  refine ⟨nofun, fun r e => by cases e; decide, rfl, fun r e => by cases e; decide, ?_⟩
  decide

theorem witness_ClockEvents_on_the_way :
    (∀ r, (quiet .locked (some 0) 0 0 .stopped).clock.reference = some r → 1200 < r + 2199) ∧
      (quiet .locked (some 0) 0 0 .stopped).clock.supervision = .running 0 1200 ∧ 2199 < 1200 - 0 + 1000 ∧
      (quiet .locked (some 0) 0 0 .stopped).clock.measuring.isRunning = false ∧
      (quiet .locked (some 0) 0 0 .stopped).clock.stepTimer.isRunning = false ∧
      (∀ r, (quiet .free none 2 10 .stopped).clock.reference = some r → 1200 < r + 1989) ∧
      (quiet .free none 2 10 .stopped).clock.stepTimer = .running 10 1000 ∧ 1000 - 10 ≤ 990 ∧
      1989 < 1000 - 10 + 1000 ∧ (quiet .free none 2 10 .stopped).clock.supervision.isRunning = false ∧
      (quiet .locked (some 0) 0 0 (.running 0 300)).clock.measuring = .running 0 300 ∧ 300 - 0 ≤ 1200 ∧
      (quiet .locked (some 0) 0 0 (.running 0 300)).clock.reference = some 0 ∧
      (quiet .locked (some 0) 0 0 (.running 300 300)).clock.measuring = .running 300 300 :=
  ⟨fun _ e => by cases e; decide, rfl, by decide, rfl, rfl, nofun, rfl, by decide, by decide, rfl, rfl, by decide,
      rfl,
    rfl⟩

/-- The last second before a minute, with the oscillator at its limit. -/
def minuteDue : State :=
  { lastSecond with clock := { lastSecond.clock with valid := true, stepTimer := .running 1000 1000 } }

theorem witness_MinuteEvents_step :
    minuteDue.clock.stepTimer = .running 1000 1000 ∧ 59 ≤ minuteDue.clock.seconds ∧ TableSound minuteDue ∧
      TableShaped minuteDue := by
  unfold TableSound TableShaped
  decide +kernel

/-- The ages of R22 at the ends: kept, and released with the default hold time of 30. -/
theorem witness_MinuteEvents_ages :
    TableSound (holding 8 { entryIn .concluded with holdAge := some 28 } State.reset) ∧
      (entryAt (holding 8 { entryIn .concluded with holdAge := some 28 } State.reset) 8).state = .concluded ∧
      (29 = min ((some 28).getD 0 + 1) 120 ∧ 30 = min ((some 28).getD 0 + 2) 120) ∧
      29 < State.reset.params.conclusionHold ∧ State.reset.params.conclusionHold ≤ 30 ∧
      (entryAt State.reset 8).state ≠ .concluded := by
  unfold TableSound
  decide +kernel

theorem witness_MinuteEvents_set :
    decoded (.setTime .control [0, 0, 0, 0]) State.reset = true ∧ State.reset.clock.valid = false ∧
      byteAt [0, 0, 0, 0] 3 < 2 ∧ decoded (.setTime .control [0, 0, 0, 0]) minuteDue = true ∧
      minuteDue.clock.valid = true ∧ byteAt [0, 0, 0, 0] 3 = 0 ∧ minuteDue.clock.minute < 1440 ∧
      (0 + 1440 - minuteDue.clock.minute) % 1440 = 1 ∧ TableSound minuteDue ∧ TableShaped minuteDue := by
  unfold TableSound TableShaped
  decide +kernel

/-- Every state of an arm meets a sample: the first, and a later one with or without the switches and the edge. -/
theorem witness_ArmsAtSample (st : ArmState) (l : List Nat) (h : l ∈ [[], [0], [1], [2], [0, 1], [0, 2]]) :
    (armsIn { armAtRest st .down with reversal := some .final } (serving .roadOpen)).inputs = none ∧
      (reading l (armsIn { armAtRest st .down with reversal := some .final } (serving .roadOpen))).inputs ≠ none ∧
      RawInputs.emergencyStop (made l) = false ∧
      filtered (takeReading (made l) (reading l (serving .roadOpen))) = made l ∧
      RawInputs.armUp (made l) .nEntry = l.contains 0 ∧ RawInputs.armDown (made l) .nEntry = l.contains 1 ∧
      RawInputs.obstruction (made l) .nEntry = l.contains 2 ∧
      ((armsIn (armAtRest st .down) (serving .roadOpen)).guard.arms.get .nEntry).state = st := by
  simp only [List.mem_cons, List.not_mem_nil, or_false] at h
  rcases h with rfl | rfl | rfl | rfl | rfl | rfl <;> cases st <;> decide +kernel

/-- The span seated and locked before a sample, with arms that rise or lower. -/
def secureBefore (st : ArmState) : State :=
  let s := reading [42, 44, 48, 50] (boltsIn .driven (armsIn (armAtRest st .up) (serving .roadOpen)))
  { s with guard := { s.guard with seatedLocked := true } }

/-- A sample that finds the span seated still, and one that finds the seats gone. -/
theorem witness_ArmsAtSample_secure :
    spanSecure (after (exec (.inputSample (made [42, 44, 48, 50])) (secureBefore .lowering))) = true ∧
      spanSecure (after (exec (.inputSample (made [])) { secureBefore .raising with
        inputs := some (made [], made [], made []) })) = false ∧
      (secureBefore .raising).guard.seatedLocked = true ∧ (secureBefore .raising).seq.state ≠ .inactive ∧
      ((secureBefore .raising).guard.arms.get .sExit).state ≠ .down := by decide +kernel

theorem witness_BoltsAtSample (st : BoltState) (l : List Nat) (h : l ∈ [[], [47], [48], [47, 48]]) :
    ((boltsIn st (serving .roadOpen)).drive.bolts.get .w).state = st ∧ RawInputs.emergencyStop (made l) = false ∧
      filtered (takeReading (made l) (reading l (boltsIn st (serving .roadOpen)))) = made l ∧
      RawInputs.withdrawn (made l) .w = l.contains 47 ∧ RawInputs.driven (made l) .w = l.contains 48 ∧
      ((boltsIn st (serving .roadOpen)).drive.bolts.get .w).reason ≠ some .timeout := by
  simp only [List.mem_cons, List.not_mem_nil, or_false] at h
  rcases h with rfl | rfl | rfl | rfl <;> cases st <;> decide +kernel

theorem witness_BoltsAtSample_kept :
    (after (exec (.inputSample (made [])) (reading [] (boltsMoving .unlocking)))).seq.state = .unlocking ∧
      ((boltsMoving .unlocking).drive.bolts.get .e).state = .withdrawing := by decide +kernel

theorem witness_DeckAtSample (d : Detector) :
    (measuring .deckClearing).guard.deck.measurement = some .running ∧
      (measuring .deckClearing).guard.halted = false ∧ RawInputs.occupied (made []) d = false ∧
      ((measuring .deckClearing).guard.detectors.get .d6).inService = true ∧
      RawInputs.occupied (filtered (takeReading (made [41]) (reading [41] (measuring .deckClearing)))) .d6 = true ∧
      (serving .roadOpen).guard.deck.measurement ≠ some .running := by
  cases d <;> decide +kernel

/-! ## Witnesses of the crossings, the selection, serving and the position sample -/

/-- The raised phase with one slot of entry `i` in a state, and that entry as R73 has it. -/
def matched (i : Nat) (st : SlotState) (cause : Option ClosingCause) : State :=
  holding i (entryIn st.entryState) (openedWith [slotIn st (some i)] cause .raised)

theorem held_sound (i : Nat) (h : i = 7 ∨ i = 8) (st : EntryState) :
    TableSound (holding i (entryIn st) State.reset) := by
  unfold TableSound
  rcases h with rfl | rfl <;> cases st <;> decide +kernel

theorem matched_sound (i : Nat) (h : i = 7 ∨ i = 8) (st : SlotState) (cause : Option ClosingCause) :
    SlotsMatched (matched i st cause) ∧ TableSound (matched i st cause) :=
  ⟨slots_matched _ _ i _ cause (by omega) rfl (fun _ => rfl) (by cases st <;> simp [slotIn, SlotState.entryState, EntryState.inOpening]) rfl rfl
    (by rcases h with rfl | rfl <;> rfl),
    held_sound i h _⟩

/-- The same with the slot in the zone list. -/
def inZone (i : Nat) (cause : Option ClosingCause) : State :=
  let s := reading [] (matched i .inZone cause)
  { s with channel := { s.channel with zoneList := [0], zoneCount := 1 } }

/-- ENTER: a PROCEED_GIVEN slot of the direction; none, with serving the other way or not at all. -/
theorem witness_CrossingsMatched_enter (i : Nat) (h : i = 7 ∨ i = 8) :
    SlotsMatched (matched i .proceedGiven none) ∧ TableSound (matched i .proceedGiven none) ∧
      raisedPhase (matched i .proceedGiven none) = true ∧
      slotIn .proceedGiven (some i) ∈ slots (matched i .proceedGiven none) ∧
      (∀ y ∈ slots (matched i .proceedGiven none), y.direction = .inbound → y.state = .proceedGiven →
        y = slotIn .proceedGiven (some i) ∨ 0 < y.givenAt) ∧
      (∀ y ∈ slots (matched i .waiting none), ¬ (y.direction = .inbound ∧ y.state = .proceedGiven)) ∧
      raisedPhase (matched i .waiting none) = true ∧
      ¬ ((matched i .waiting none).channel.servingRuns = true ∧
        (matched i .waiting none).channel.serving = some Direction.inbound.opposite) := by
  refine ⟨(matched_sound i h _ _).1, (matched_sound i h _ _).2, ?_⟩
  rcases h with rfl | rfl <;> decide +kernel

/-- Serving runs outbound. -/
def servingOut : State :=
  let s := raisedWith .waiting none
  { s with channel := { s.channel with serving := some .outbound, servingRuns := true } }

theorem witness_CrossingsMatched_conflict :
    raisedPhase servingOut = true ∧ servingOut.channel.servingRuns = true ∧
      servingOut.channel.serving = some Direction.inbound.opposite ∧
      (∀ y ∈ slots servingOut, ¬ (y.direction = .inbound ∧ y.state = .proceedGiven)) ∧
      (∀ d, earliestInZone servingOut d = none) ∧ raisedPhase State.reset = false ∧
      State.reset.channel.zoneCount = 0 ∧ 8 ≤ fullZone.channel.zoneCount := by
  refine ⟨rfl, rfl, rfl, by decide +kernel, fun d => ?_, rfl, rfl, by decide⟩
  cases d <;> decide +kernel

/-- EXIT at the edge that leaves the slot's direction, and at the other, with and without the closing call. -/
theorem witness_CrossingsMatched_exit (i : Nat) (h : i = 7 ∨ i = 8) (cause : Option ClosingCause)
    (hc : cause = none ∨ cause = some .wind) :
    SlotsMatched (inZone i cause) ∧ TableSound (inZone i cause) ∧ raisedPhase (inZone i cause) = true ∧
      Direction.inbound = (Edge.arrivals (arrivalEdge .outbound)).opposite ∧
      Direction.outbound = (Edge.arrivals (arrivalEdge .inbound)).opposite ∧
      earliestInZone (inZone i cause) .inbound = some (slotIn .inZone (some i)) ∧
      earliestInZone (inZone i cause) .outbound = none ∧ closingCall (inZone i cause) = cause.isSome ∧
      (slotIn .inZone (some i)).state = .inZone := by
  refine ⟨(matched_sound i h .inZone cause).1, (matched_sound i h .inZone cause).2, ?_⟩
  rcases h with rfl | rfl <;> rcases hc with rfl | rfl <;> decide +kernel

/-- A kept or overdue slot whose approach clears. -/
def keptSlot (i : Nat) (overdue : Bool) (cause : Option ClosingCause) : State :=
  let x := { slotIn .proceedGiven (some i) with kept := !overdue, overdue := overdue }
  holding i (entryIn .cleared) (openedWith [x] cause .raised)

theorem witness_CrossingsMatched_cleared (i : Nat) (h : i = 7 ∨
    i = 8) (overdue : Bool) (cause : Option ClosingCause)
    (hc : cause = none ∨ cause = some .wind) :
    SlotsMatched (keptSlot i overdue cause) ∧ TableSound (keptSlot i overdue cause) ∧
      closingCall (keptSlot i overdue cause) = cause.isSome ∧
      (keptSlot i overdue cause).seq.opening = some (openingOf
        [{ slotIn .proceedGiven (some i) with kept := !overdue, overdue := overdue }] cause) ∧
      (∀ y ∈ slots (keptSlot i overdue cause), y.kept = true ∨ y.overdue = true) ∧
      (entryAt (keptSlot i overdue cause) i).lapseMark ≠ some true := by
  refine ⟨slots_matched _ _ i _ cause (by omega) rfl (fun _ => rfl) (by simp [slotIn]) rfl rfl
    (by rcases h with rfl | rfl <;> rfl),
    held_sound i h _, ?_⟩
  rcases h with rfl | rfl <;> rcases hc with rfl | rfl <;> cases overdue <;> decide +kernel

/-- A recognizer that clears, having been broken at one beam first. -/
theorem witness_CrossingsMatched_edge (e : Edge) (f : FirstBroken) :
    ({ State.reset with channel := { State.reset.channel with recognizers := ⟨some f, some f⟩ } } :
        State).channel.recognizers.get e = some f ∧
      RawInputs.outer (made []) e = false ∧ RawInputs.inner (made []) e = false ∧
      RawInputs.outer (made [52, 54]) e = false ∧ RawInputs.inner (made [52, 54]) e = true ∧
      RawInputs.outer (made [51, 53]) e = true ∧ RawInputs.inner (made [51, 53]) e = false ∧
      RawInputs.emergencyStop (made []) = false := by
  cases e <;> cases f <;> decide +kernel

/-- Two entries DUE in SERVICE, in a state from which an opening may start on hold-off. -/
def starting (q : SeqState) : State :=
  { twoOnList with
    mode := .service, seq := { twoOnList.seq with state := q },
    planner := { twoOnList.planner with holdOffElapsed := true } }

/-- The same with nothing but vessels that fit under. -/
def lowVessels : State :=
  let e : Entry := { entryIn .due with airDraft := 100, dueStamp := some 0, tideHold := some false }
  let s := holding 8 e (holding 40 { e with dueStamp := some 1 } (starting .roadOpen))
  { s with params := { s.params with closedClearance := 2000 } }

theorem starting_listed (q : SeqState) : ListsOrdered (starting q) := witness_listed

theorem witness_SelectionAndJoins_start :
    decoded (.openNow .control []) (starting .roadOpen) = true ∧ TableSound (starting .roadOpen) ∧
      ListsOrdered (starting .roadOpen) ∧ (starting .roadOpen).planner.roadPriority = false ∧
      startConditions (starting .roadOpen) = true ∧
      byClass (fun e => e.tideHold != some true && !fitsUnder (starting .roadOpen).params e.airDraft
        (starting .roadOpen).water.effective) (starting .roadOpen) = [8, 40] ∧
      startConditions lowVessels = true ∧ TableSound lowVessels ∧
      byClass (fun e => e.tideHold != some true && !fitsUnder lowVessels.params e.airDraft lowVessels.water.effective)
        lowVessels = [] := by
  refine ⟨by decide +kernel, ?_, starting_listed _, ?_⟩ <;>
  · unfold TableSound
    decide +kernel

/-- Two entries DUE beside an opening in progress. -/
def joining (cause : Option ClosingCause) : State :=
  { twoOnList with
    mode := .service
    seq := { (serving .raised).seq with opening := some (openingOf [slotIn .waiting none] cause) } }

theorem joining_listed (cause : Option ClosingCause) : ListsOrdered (joining cause) := witness_listed

theorem witness_SelectionAndJoins_join :
    TableSound (joining none) ∧ ListsOrdered (joining none) ∧
      (joining none).seq.opening = some (openingOf [slotIn .waiting none] none) ∧
      (byClass (fun e => e.tideHold != some true && !tideHeld (joining none) e.airDraft) (joining none)).filter
        (fun i => [8].contains i) = [8] ∧
      TableSound (joining (some .wind)) ∧
      (joining (some .wind)).seq.opening = some (openingOf [slotIn .waiting none] (some .wind)) ∧
      (joining none).seq.opening.isSome = true ∧ (starting .roadOpen).seq.opening = none := by
  refine ⟨?_, joining_listed _, by decide +kernel, by decide +kernel, ?_, by decide +kernel⟩ <;>
  · unfold TableSound
    decide +kernel

/-- The first WAITING slots of the two directions. -/
def facing (a b : Option Nat) (last : Option Direction) : State :=
  let slot (n : Nat) (d : Direction) (c : Nat) : Slot :=
    { slotIn .waiting none with serial := n, direction := d, cls := c }
  let s := openedWith ((a.toList.map (slot 0 .inbound)) ++ b.toList.map (slot 1 .outbound)) none .raised
  { s with channel := { s.channel with servedLast := last } }

theorem witness_ServingAndClearance_direction :
    firstWaiting (facing none none none) .inbound = none ∧ firstWaiting (facing none none none) .outbound = none ∧
      (firstWaiting (facing (some 7) none none) .inbound).isSome = true ∧
      (firstWaiting (facing none (some 7) none) .outbound).isSome = true ∧
      (firstWaiting (facing (some 0) (some 1) none) .inbound).map (·.cls) = some 0 ∧
      (firstWaiting (facing (some 0) (some 1) none) .outbound).map (·.cls) = some 1 ∧
      (firstWaiting (facing (some 1) (some 0) none) .outbound).map (·.cls) = some 0 ∧
      (facing (some 3) (some 3) (some .inbound)).channel.servedLast = some .inbound ∧
      (facing (some 3) (some 3) none).channel.servedLast = none ∧
      chooseDirection (facing (some 3) (some 3) (some .inbound)) = some .outbound := by decide +kernel

theorem witness_ServingAndClearance_proceed (i : Nat) (h : i = 7 ∨ i = 8) :
    SlotsMatched (matched i .waiting none) ∧ TableSound (matched i .waiting none) ∧
      (matched i .waiting none).seq.opening = some (openingOf [slotIn .waiting (some i)] none) ∧
      firstWaiting (matched i .waiting none) .inbound = some (slotIn .waiting (some i)) ∧
      SlotsMatched (matched i .proceedGiven none) ∧
      slotIn .proceedGiven (some i) ∈ slots (matched i .proceedGiven none) ∧
      committed (matched i .proceedGiven none) .inbound = false ∧ committed (noShowAt true) .inbound = true := by
  refine ⟨(matched_sound i h _ _).1, (matched_sound i h _ _).2, ?_, ?_, (matched_sound i h _ _).1, ?_⟩
  all_goals rcases h with rfl | rfl <;> decide +kernel

/-- An opening in RAISED that may be lifted again, its one slot short, every arm down. -/
def relifting (cause : Option ClosingCause) : State :=
  let s := reading [] <| armsIn (armAtRest .down .down) (openedWith [{ slotIn .waiting none with short := true }] cause .raised)
  { s with channel := { s.channel with reliftArmed := true, clearRun := true } }

theorem witness_ServingAndClearance_water :
    raisedPhase (matched 8 .waiting none) = true ∧ (matched 8 .waiting none).seq.opening.isSome = true ∧
      sufficient (matched 8 .waiting none) 1500 = false ∧
      raisedPhase (holding 8 (entryIn .assigned) (openedWith [slotIn .waiting (some 8)] none .lifting)) = false ∧
      SlotsMatched (holding 8 (entryIn .assigned) (openedWith [slotIn .waiting (some 8)] none .lifting)) ∧
      (∃ y ∈ slots (matched 8 .inZone none), y.state = .inZone ∧
      sufficient (matched 8 .inZone none) y.airDraft = false) :=
    by
  refine ⟨rfl, rfl, by decide +kernel, by decide +kernel, ?_, by decide +kernel⟩
  exact slots_matched _ _ 8 _ none (by decide) rfl (fun _ => rfl) (by decide) rfl rfl (by decide +kernel)

theorem witness_ServingAndClearance_relift :
    reliftDue (relifting none) = true ∧
      (relifting none).seq.opening = some (openingOf [{ slotIn .waiting none with short := true }] none) ∧
      requiredLift (relifting none) 1500 ≤ (relifting none).params.maxLift ∧
      requiredLift (relifting none) 1500 = 15800 ∧ allArmsDown (relifting none) = true ∧
      spanPosition (relifting none) < 15800 ∧ reliftDue (relifting (some .wind)) = true ∧
      (relifting (some .wind)).seq.opening.isSome = true := by decide +kernel

/-- A motion in a phase, the level switch and the listed inputs made. -/
def moving (m : Motion) (phase : MotionPhase) (count : Int) (l : List Nat) (q : SeqState) : State :=
  let r : TowerRecord := { TowerRecord.reset with released := true, reference := 100, count := count }
  reading (46 :: l) { serving q with drive := { Drive.reset with
    valid := true, motion := m, phase := some phase, direction := .down, profile := 100, towers := ⟨r, r⟩ } }

/-- A RUNNING LOWER with one seat made, with both, and below its seat. -/
theorem witness_PositionSampleLowers_lower (k : Tower) :
    (moving .lower .running 0 [42] .lowering).drive.stopAsked = false ∧
      RawInputs.level (filtered (moving .lower .running 0 [42] .lowering)) = true ∧
      |skew (computePositions (moving .lower .running 0 [42] .lowering))| < 60 ∧
      outOfRange (computePositions (moving .lower .running 0 [42] .lowering)) = false ∧
      RawInputs.upperLimit (filtered (moving .lower .running 0 [42] .lowering)) k = false ∧
      stalled (stepAnchor ((computePositions (moving .lower .running 0 [42] .lowering)).drive.towers.get k)) = false ∧
      -100 ≤ ((computePositions (moving .lower .running 0 [42] .lowering)).drive.towers.get k).position ∧
      ((moving .lower .running 0 [42] .lowering).drive.towers.get .e).stopped = false ∧
      RawInputs.seat (filtered (moving .lower .running 0 [42] .lowering)) .e = false ∧
      RawInputs.seat (filtered (moving .lower .running 0 [42] .lowering)) .w = true ∧
      RawInputs.seat (filtered (moving .lower .running 0 [42, 44] .lowering)) k = true ∧
      |skew (computePositions (moving .lower .running (-2000) [] .lowering))| < 60 ∧
      outOfRange (computePositions (moving .lower .running (-2000) [] .lowering)) = false ∧
      ((computePositions (moving .lower .running (-2000) [] .lowering)).drive.towers.get k).position < -100 ∧
      RawInputs.seat (filtered (moving .lower .running (-2000) [] .lowering)) k = false := by
  cases k <;> decide +kernel

/-- The faults, each present: SKEW, OVERTRAVEL, LEVEL, POSITION_RANGE and STALL. -/
theorem witness_PositionSampleLowers_faults :
    (moving .lower .running 0 [43] .lowering).seq.state ≠ .inactive ∧
      RawInputs.upperLimit (filtered (moving .lower .running 0 [43] .lowering)) .w = true ∧
      ((moving .lower .running 0 [43] .lowering).drive.towers.get .w).limitBefore = false ∧
      (60 : Int) ≤ |skew (computePositions { moving .raise .running 0 [] .lifting with drive :=
        { (moving .raise .running 0 [] .lifting).drive with towers :=
          ⟨{ TowerRecord.reset with count := 1000 }, TowerRecord.reset⟩ } })| ∧
      outOfRange (computePositions (moving .raise .running 8000000 [] .lifting)) = true ∧
      RawInputs.level (filtered (reading [] (moving .descent .running 0 [] .lowering))) = false ∧
      stalled (stepAnchor { TowerRecord.reset with anchor := some (0, 49) }) = true := by decide +kernel

/-- A jog under way in FAULT_HOLD, its level switch made before. -/
def jogMoving (phase : MotionPhase) (count : Int) (l : List Nat) (q : SeqState) : State :=
  let s := armsIn (armAtRest .down .down) (boltsIn .withdrawn (moving .jog phase count l q))
  { s with drive := { s.drive with jog := some ⟨.e, .up, .running 0 500, true⟩ } }

theorem witness_PositionSampleLowers_jog :
    (jogMoving .running 0 [] .faultHold).drive.jog = some ⟨.e, .up, .running 0 500, true⟩ ∧
      RawInputs.level (filtered (reading [] (jogMoving .running 0 [] .faultHold))) = false ∧
      outOfRange (computePositions (jogMoving .running 8000000 [] .faultHold)) = true ∧
      (jogMoving .running 0 [] .faultHold).drive.valid = true ∧
      (jogMoving .running 0 [] .positionLost).drive.stopAsked = false ∧
      jogState (computePositions (jogMoving .running 0 [] .positionLost)) = true ∧
      jogAllowed .e .up (computePositions (jogMoving .running 0 [] .positionLost)) = true ∧
      jogAllowed .e .up (computePositions (jogMoving .running 0 [] .faultHold)) = true ∧
      jogState (computePositions (jogMoving .settling 0 [] .halted)) = false := by decide +kernel

/-- A motion not RUNNING and a DESCENT in any phase, with one seat or both made. -/
theorem witness_PositionSampleLowers_waiting (m : Motion) (phase : MotionPhase) (k : Tower) :
    (moving m phase 0 [42] .recovering).drive.motion = m ∧
      (moving m phase 0 [42] .recovering).drive.phase = some phase ∧
      (moving m phase 0 [42] .recovering).drive.stopAsked = false ∧
      RawInputs.upperLimit (filtered (moving m phase 0 [42] .recovering)) k = false ∧
      RawInputs.level (filtered (moving m phase 0 [42] .recovering)) = true ∧
      ((moving m phase 0 [42] .recovering).drive.towers.get .e).stopped = false ∧
      RawInputs.seat (filtered (moving m phase 0 [42] .recovering)) .e = false ∧
      RawInputs.seat (filtered (moving m phase 0 [42, 44] .recovering)) k = true := by
  cases m <;> cases phase <;> cases k <;> decide +kernel

/-! ## Witnesses of the fault reports by state and of the clauses beside them -/

theorem witness_AbandonByState_from_lost (q : SeqState) :
    decoded (.abandon .control []) (closingFromLost q) = true ∧ (closingFromLost q).seq.state = q ∧
      (closingFromLost q).seq.closureOrigin = some .positionLost := by
  cases q <;> decide +kernel

/-- A measurement with D6 out of service, and the guard's timers stopped by HALTED or not. -/
def measuringFive (halted : Bool) (q : SeqState) : State :=
  let s := measuring q
  { s with guard := { s.guard with
      halted := halted, detectors := { s.guard.detectors with d6 := { s.guard.detectors.d6 with
        inService := false, occupancy := .stopped } } } }

/-- D6 taken out with D1 occupied or no other, and returned occupied or not. -/
theorem witness_DeckEvents_running (q : SeqState) :
    decoded (.detectorService .control [5, 1]) (reading [41] (measuring q)) = true ∧
      RawInputs.occupied (filtered (reading [41] (measuring q))) .d6 = true ∧
      RawInputs.occupied (filtered (reading [41] (measuring q))) .d1 = false ∧
      RawInputs.occupied (filtered (reading [36] (measuring q))) .d1 = true ∧
      ((measuring q).guard.detectors.get .d1).inService = true ∧
      decoded (.detectorService .control [5, 0]) (reading [41] (measuringFive false q)) = true ∧
      named allDetectors (byteAt [5, 0] 0) = some .d6 ∧ byteAt [5, 0] 1 = false.toNat ∧
      ((measuringFive false q).guard.detectors.get .d6).inService = false ∧
      (measuringFive false q).guard.deck.measurement = some .running ∧
      (measuringFive false q).guard.halted = false ∧ (measuringFive true q).guard.halted = true ∧
      (measuringFive true q).guard.deck.measurement = some .running := by
  cases q <;> decide +kernel

/-- The same tower in another state of the sequence, its positions valid or not. -/
def encoderIn (valid : Bool) (q : SeqState) : State :=
  let s := encoderAt 0 false false
  { s with seq := { s.seq with state := q }, drive := { s.drive with valid := valid } }

theorem witness_EncoderEdgeCounts_states (valid : Bool) (q : SeqState) :
    (encoderIn valid q).drive.valid = valid ∧ (encoderIn valid q).seq.state = q ∧
      phasePlace ((encoderIn valid q).drive.towers.get .w).phaseA ((encoderIn valid q).drive.towers.get .w).phaseB = 0 ∧
      phasePlace true true = (0 + 2) % 4 := by
  cases valid <;> cases q <;> decide +kernel

/-- An illegal transition is not reported in RECOVERING, and enters no cause in POSITION_LOST. -/
theorem test_encoder_reports :
    (after (exec (.encoderEdge .w true true) (encoderIn true .recovering))).seq.state = .recovering ∧
      (after (exec (.encoderEdge .w true true) (encoderIn true .positionLost))).seq.causes = 0 ∧
      (after (exec (.encoderEdge .w true true) (encoderIn true .positionLost))).ports.control.attention.getLsbD 1 =
        true ∧
      (after (exec (.encoderEdge .w true true) (encoderIn true .raised))).seq.state = .faultHold := by
  decide +kernel

/-- LEVEL in a RUNNING DESCENT brings RECOVERING back to POSITION_LOST without the cause (R95). -/
theorem test_level_in_recovery :
    (after (exec .positionSample (reading [] (moving .descent .running 0 [] .recovering)))).seq.state = .positionLost ∧
      (after (exec .positionSample (reading [] (moving .descent .running 0 [] .recovering)))).seq.causes = 0 := by
  decide +kernel

/-- A LOST slot in the zone list. -/
def inZoneLost : State :=
  let s := reading [] <| openedWith [slotIn .inZone none] none .raised
  { s with channel := { s.channel with zoneList := [0], zoneCount := 1 } }

theorem witness_ChannelCommands_zone_slots (i : Nat) (h : i = 7 ∨ i = 8) :
    decoded (.zoneReset .control []) (inZone i none) = true ∧ beamsClear (inZone i none) = true ∧
      (inZone i none).channel.recognizers = ⟨none, none⟩ ∧
      slotIn .inZone (some i) ∈ slots (inZone i none) ∧
      (slotIn .inZone (some i)).serial ∈ (inZone i none).channel.zoneList ∧
      (slotIn .inZone (some i)).state ≠ .done ∧ ((inZone i none).table.tb ≤ i ↔ i = 8) ∧
      decoded (.zoneReset .control []) inZoneLost = true ∧ slotIn .inZone none ∈ slots inZoneLost ∧
      (slotIn .inZone none).serial ∈ inZoneLost.channel.zoneList := by
  rcases h with rfl | rfl <;> decide +kernel

theorem witness_ChannelCommands_zone_sound (i : Nat) (h : i = 7 ∨ i = 8) :
    TableSound (inZone i none) ∧ SlotsMatched (inZone i none) :=
  ⟨(matched_sound i h .inZone none).2, (matched_sound i h .inZone none).1⟩

/-- The last second before a minute, locked with the supervision timer, or with a pulse being measured. -/
def lastLocked (mark : Timer) : State :=
  let s := quiet .locked (some 0) 0 0 mark
  { s with clock := { s.clock with seconds := 59 } }

theorem witness_MinuteEvents_ways (n : Nat) (h : n ≤ 1200) :
    ClockQuiet n (lastLocked .stopped) ∧ (lastLocked .stopped).clock.lock = .locked ∧
      (lastLocked .stopped).clock.reference = some 0 ∧ 59 ≤ (lastLocked .stopped).clock.seconds ∧
      (lastLocked .stopped).clock.supervision = .running 0 1200 ∧
      (lastLocked (.running 0 300)).clock.measuring = .running 0 300 ∧
      30 ≤ (lastLocked (.running 0 300)).clock.seconds :=
  ⟨⟨nofun, nofun, fun _ _ _ => Or.inr ⟨0, rfl, by omega⟩⟩, rfl, rfl, by decide, rfl, rfl, by decide⟩

/-- A sample with the emergency stop made that finds a DOWN arm lost and the span not secure, in RECOVERING. -/
theorem witness_ArmsAtSample_recovering :
    (reading [] (armsIn (armAtRest .down .down) (serving .recovering))).inputs ≠ none ∧
      RawInputs.emergencyStop (made [56]) = true ∧
      spanSecure (after (exec (.inputSample (made []))
        (reading [] (armsIn (armAtRest .down .down) (serving .recovering))))) = false ∧
      (after (exec (.inputSample (made []))
        (reading [] (armsIn (armAtRest .down .down) (serving .recovering))))).seq.state = .positionLost ∧
      (after (exec (.inputSample (made [56]))
        (reading [] (armsIn (armAtRest .down .down) (serving .recovering))))).seq.state = .halted := by
  decide +kernel

/-- A DUE arrival at the critical level 1, its stored code good or bad. -/
def criticalQueue (good : Bool) (qb : Nat) : State :=
  let e : Entry := { entryIn .due with identity := [33, 33, 33, 33, 33, 33, 33, 33], dueStamp := some 65535 }
  let s := tuned { Parameters.default with queueCriticalLevel := 1 }
  { s with
    table := { s.table with
      qb := qb, entries := s.table.entries.set 63 { e with codeGood := good }, dueList := [63], arrivalOrder := [63] },
    planner := { s.planner with queueCritical := true } }

/-- A damage found by the reads of a posting is reported before the posting: the flag falls and rises again (R55). -/
theorem test_queue_critical_rises_again :
    (after (exec (.postArrival .harbour posting) (criticalQueue false 40))).ports.control.attention.getLsbD 17 =
      true := by decide +kernel

/-- An overwrite and its posting leave the count as it was: QUEUE_CRITICAL is not raised again (11.3). -/
theorem test_overwrite_is_one_change :
    (after (exec (.postArrival .harbour posting) (criticalQueue true 63))).ports.control.attention.getLsbD 17 =
        false ∧
      (after (exec (.postArrival .harbour posting) (criticalQueue true 63))).ports.control.attention.getLsbD 18 =
        true := by decide +kernel

/-- The ageing of the CONCLUDED entries reads every entry (R22, R26). -/
theorem test_ageing_reads :
    (entryAt (ageConcluded 1 (criticalQueue false 40)) 63).state = .damaged := by decide +kernel

/-! ## Witnesses of the passing of time, the characters, the cleared table, the trim and the closure given up -/

/-- The timers' passage of time meets the four hypotheses on it. -/
theorem witness_EveryStepAnswers_elapse (n k l : Nat) :
    (Timer.running k l).advance n = .running (min (k + n) l) l ∧ (Timer.paused k l).advance n = .paused k l ∧
      (Timer.over k).advance n = .over (k + n) ∧ Timer.stopped.advance n = .stopped := ⟨rfl, rfl, rfl, rfl⟩

theorem test_wf_framing_error : (Instr.frameDiscarded .control (.framingError 0b01010000010)).wf = true := by decide
theorem test_wf_stop_at_mark : (Instr.frameDiscarded .control (.framingError 0b11010000010)).wf = false := by decide
theorem test_wf_no_start : (Instr.frameDiscarded .control (.framingError 0b01010000011)).wf = false := by decide

/-- The byte 41H as an address mark: start, 1000 0010, mark bit, stop (R207). -/
theorem test_character_levels :
    ({ data := 0x41, mark := true } : Character).levels = 0b11010000010#11 ∧
      ({ data := 0x41, mark := false } : Character).levels = 0b10010000010#11 ∧
      receivedCharacter 0b10010000010 = some ⟨0x41, false⟩ ∧ receivedCharacter 0b00010000010 = none := by
  decide +kernel

/-- A response of six characters is 66 levels on the line. -/
theorem test_response_levels :
    (transmitLevels ((after (exec (.closeSpan .control []) State.reset)).ports.control)).length = 66 := by
  decide +kernel

/-- The queue-critical flag falls with the table that it counted (R49, R55). -/
theorem witness_WholeTableRequests_critical :
    decoded (.clearTable .control []) (criticalQueue true 40) = true ∧
      (criticalQueue true 40).planner.queueCritical = true ∧
      1 ≤ (criticalQueue true 40).params.queueCriticalLevel ∧
      (after (exec (.clearTable .control []) (criticalQueue true 40))).planner.queueCritical = false := by
  decide +kernel

/-- An opening's closure under way, with the operator's flag or without it, the closing call set or clear. -/
def closureOf (operator : Bool) (cause : Option ClosingCause) (q : SeqState) : State :=
  let s := openedWith [slotIn .waiting none] cause q
  { s with seq := { s.seq with roadClosedByOperator := operator } }

theorem witness_RoadPriorityByState_opening (operator : Bool) (cause : Option ClosingCause) (q : SeqState)
    (hc : cause = none ∨ cause = some .closeSpan) :
    decoded (.roadPriority .control []) (closureOf operator cause q) = true ∧
      (closureOf operator cause q).seq.state = q ∧
      (closureOf operator cause q).seq.closureOrigin ≠ some .positionLost ∧
      (closureOf operator cause q).seq.opening = some (openingOf [slotIn .waiting none] cause) ∧
      (serving q).seq.opening = none := by
  rcases hc with rfl | rfl <;> cases operator <;> cases q <;> decide +kernel

/-- A closure given up ends with the cause ROAD_PRIORITY, or with the one it had (R92). -/
theorem test_given_up_cause :
    (after (exec (.roadPriority .control []) (closureOf false none .warning))).seq.summary.map (·.closingCause) =
        some (some .roadPriority) ∧
      (after (exec (.roadPriority .control []) (closureOf true (some .closeSpan) .entryClosing))).seq.summary.map
        (·.closingCause) = some (some .closeSpan) := by decide +kernel

/-- Every arm up on a secure span, waiting to lower again or at rest. -/
def armsUpSecure (wait : Timer) : State :=
  reading [42, 44] (boltsIn .driven (armsIn { armAtRest .up .down with retryWait := wait, obstructions := 2 }
    (serving .entryClosing)))

theorem witness_ArmEvents_raise (a : Arm) (wait : Timer) (h : wait = .running 0 5000 ∨ wait = .paused 1 5000) :
    ((armsUpSecure wait).guard.arms.get a).state = .up ∧
      ((armsUpSecure wait).guard.arms.get a).retryWait ≠ .stopped ∧ spanSecure (armsUpSecure wait) = true ∧
      ((armsUpSecure .stopped).guard.arms.get a).retryWait = .stopped := by
  rcases h with rfl | rfl <;> cases a <;> decide +kernel

/-- A closure given up while arms wait to lower again leaves none waiting, and no obstruction counted (R120, R131). -/
theorem test_given_up_cancels_waits (a : Arm) :
    ((after (exec (.abandon .control []) (armsUpSecure (.running 0 5000)))).guard.arms.get a).retryWait = .stopped ∧
      ((after (exec (.abandon .control []) (armsUpSecure (.running 0 5000)))).guard.arms.get a).obstructions = 0 := by
  cases a <;> decide +kernel

/-- R156 by figures, with Bt 15 and g 20: inside the band, past it, at the cap, and a LOWER's lower tower. -/
theorem test_trim (k : Tower) :
    trimReference true 800 15 20 15 ⟨false, false⟩ k = 800 ∧
      trimReference true 800 15 20 27 ⟨false, false⟩ k = (match k with | .w => 608 | .e => 800) ∧
      trimReference true 800 15 20 55 ⟨false, false⟩ k = (match k with | .w => 200 | .e => 800) ∧
      trimReference false 100 15 20 (-20) ⟨false, false⟩ k = (match k with | .w => 90 | .e => 100) ∧
      trimReference false 100 15 20 (-20) ⟨false, true⟩ k = (match k with | .w => 100 | .e => 0) := by
  cases k <;> decide +kernel

/-- A RUNNING lift with the west tower 27 mm ahead. -/
def leaningLift : State :=
  let s := boltsIn .withdrawn (armsIn (armAtRest .down .down) (liftingTo 10000))
  { s with
    params := { s.params with scaleWhole := ⟨16, 16⟩, scaleSixteenths := ⟨0, 0⟩ },
    drive := { s.drive with towers := ⟨{ s.drive.towers.w with count := 432 }, s.drive.towers.e⟩ } }

/-- The tower ahead runs slower by ⌊120 × 12 × 20 / 1000⌋. -/
theorem test_trimmed_lift :
    (after (exec .positionSample leaningLift)).drive.profile = 120 ∧
      (after (exec .positionSample leaningLift)).drive.towers.w.reference = 92 ∧
      (after (exec .positionSample leaningLift)).drive.towers.e.reference = 120 := by decide +kernel

/-- Both seats made, a bolt waiting in a state. -/
def boltsWaiting (st : BoltState) : State :=
  reading [42, 44] { serving .locking with drive := { Drive.reset with
    bolts := ⟨⟨st, none, .stopped, true⟩, ⟨st, none, .stopped, false⟩⟩ } }

theorem witness_BoltsAtSample_waiting (st : BoltState) :
    boltsWait (boltsWaiting st) = true ∧ seated (boltsWaiting st) = true ∧
      ((boltsWaiting st).drive.bolts.get .w).waiting = true ∧
      ((boltsWaiting st).drive.bolts.get .e).waiting = false := by
  cases st <;> decide +kernel

/-- Serving runs inbound with a slot WAITING and none PROCEED_GIVEN, or with one given. -/
def servingIn (st : SlotState) : State :=
  let s := raisedWith st none
  { s with channel := { s.channel with serving := some .inbound, servingRuns := true } }

theorem witness_ServingAndClearance_owed :
    servingOwes (servingIn .waiting) = true ∧ servingOwes (servingIn .proceedGiven) = false ∧
      (servingIn .waiting).channel.serving = some .inbound := by decide +kernel

/-- Arms down and both seats made, after a motion upwards. -/
def seatedDown : State :=
  reading [42, 44] (armsIn (armAtRest .down .down) (serving .lowering))

theorem witness_PositionSampleLowers_seated :
    allArmsDown seatedDown = true ∧ seated seatedDown = true ∧ seatedDown.drive.direction = .up := by decide +kernel

/-- The road closed by the operator in POSITION_LOST before the first input sample: the masts stay FAULT (R195). -/
theorem test_masts_before_sample :
    (after (exec (.closeRoad .control []) (serving .positionLost))).seq.state = .warning ∧
      (after (exec (.closeRoad .control []) (serving .positionLost))).channel.masts = ⟨.fault, .fault⟩ := by
  decide +kernel

/-- Before the first input sample no seat recovery starts: no reading finds the beams clear (log 45). -/
theorem test_no_recovery_before_sample :
    responseAt .control (exec (.recoverSeat .control []) (armsIn (armAtRest .down .down) (serving .positionLost))) =
      some (30, .notReady, []) := by decide +kernel

/-- D3 occupied past T_deck_max in a RUNNING measurement, its timer counting on. -/
def occupiedLong (ms : Nat) : State :=
  let s := reading [38] (measuring .deckClearing)
  { s with guard := { s.guard with detectors := { s.guard.detectors with d3 :=
    { s.guard.detectors.d3 with occupiedLong := true, occupancy := .over ms, spent := true } } } }

/-- The timer counts on past its limit and stops with the occupancy (R137). -/
theorem test_occupancy_counts_on :
    (elapse 5000 (occupiedLong 120000)).guard.detectors.d3.occupancy = .over 125000 ∧
      (after (exec (.inputSample (made [38])) (occupiedLong 125000))).guard.detectors.d3.occupancy = .over 125000 ∧
      (after (exec (.inputSample (made [])) { occupiedLong 125000 with
        inputs := some (made [], made [], made [38]) })).guard.detectors.d3.occupancy = .stopped := by decide +kernel

/-- ROAD_STATUS sends the time counted past the limit, present, in tenths of a second: detector 3 of the layout. -/
theorem test_road_status_sends_it :
    putDetector (occupiedLong 125000) .d3 = [0, 1, 1, 1] ++ put2 1250 := by decide +kernel

theorem witness_StatusRequestsOnlyAnswer_road (ms : Nat) (h : ms = 6553599 ∨ ms = 6553600) :
    decoded (.roadStatus .control []) (occupiedLong ms) = true ∧
      ((occupiedLong ms).guard.detectors.get .d3).occupancy.running? = some ms ∧
      longOccupied (occupiedLong ms) = decide (6553600 ≤ ms) := by
  rcases h with rfl | rfl <;> decide +kernel

end Sys2Proof.Tests
end

section
/-!
The passage records (chapter 1): on a sound table the check of a tag changes nothing, what a retirement leaves, and
the two requests that retire an entry by its tag.
-/

namespace Sys2Proof.Machine

/-! ## Requests that name a tag, on a sound table -/

/-- The tag of an entry that is not VACANT passes the check of R4, whose reads change nothing. -/
theorem checkTag_of_names {s : State} {i g : Nat} (hs : TableSound s) (hn : Names s i g) :
    checkTag i g s = (s, none) := by
  obtain ⟨hi, hg, hv⟩ := hn
  have hindex : ¬ Config.entryCount ≤ i := Nat.not_le.mpr hi
  have hgeneration : ¬ 16 ≤ g := Nat.not_le.mpr (hg ▸ (generationAt s i).value.isLt)
  simp [checkTag, hindex, hgeneration, verifyGeneration_good i s (generationAt_good hs i),
    verifyEntry_good i s (entryAt_good hs i), hg, hv]

/-- The kind of an index is timetable exactly below TB (R1). -/
theorem kindOf_eq_timetable_iff (t : Table) (i : Nat) : kindOf t i = .timetable ↔ i < t.tb := by
  unfold kindOf
  split
  · simp [*]
  · split <;> simp [*]

/-- A timetable entry named from the harbour port is refused, but for LOOK_UP (R15). -/
theorem withTag_not_permitted {x : List Byte} (owner : Nat → State → State × Answer) {s : State}
    (hs : TableSound s) (hn : Names s (byteAt x 0) (byteAt x 1)) (ht : byteAt x 0 < s.table.tb) :
    withTag .harbour false x owner s = (settle s, refuse .notPermitted) := by
  simp [withTag, checkTag_of_names hs hn, (kindOf_eq_timetable_iff s.table _).mpr ht]

/-- An entry that its port may name is handed to the owner. -/
theorem withTag_permitted {p : Port} {x : List Byte} (lookUpOnly : Bool) (owner : Nat → State → State × Answer)
    {s : State} (hs : TableSound s) (hn : Names s (byteAt x 0) (byteAt x 1))
    (hp : ¬ (p = .harbour ∧ byteAt x 0 < s.table.tb)) :
    withTag p lookUpOnly x owner s = (settle (owner (byteAt x 0) s).1, (owner (byteAt x 0) s).2) := by
  have hbar : ¬ (p = .harbour ∧ kindOf s.table (byteAt x 0) = .timetable) := by
    rwa [kindOf_eq_timetable_iff]
  unfold withTag
  simp only [checkTag_of_names hs hn]
  rw [if_neg]
  simp only [Bool.and_eq_true, beq_iff_eq]
  exact fun ⟨⟨hh, _⟩, hk⟩ => hbar ⟨hh, hk⟩

/-! ## Retirement -/

/-- What the retirement of an entry leaves (R4, R21). -/
def Retired (i : Nat) (s u : State) : Prop :=
  entryAt u i = Entry.vacant ∧ (generationAt u i).value = (generationAt s i).value + 1 ∧ i ∉ u.table.dueList ∧
    i ∉ u.table.arrivalOrder ∧ (∀ j, j ≠ i → entryAt u j = entryAt s j) ∧
    u.table.firstDamaged = s.table.firstDamaged ∧ u.table.moreDamaged = s.table.moreDamaged

/-- The whole effect of a retirement on the table: both lists lose the entry, which is rewritten VACANT under its next
generation. -/
theorem retireEntry_table (i : Nat) (s : State) :
    (retireEntry i s).table = { s.table with
      dueList := s.table.dueList.filter (· != i),
      arrivalOrder := s.table.arrivalOrder.filter (· != i),
      entries := s.table.entries.set i Entry.vacant,
      generations := s.table.generations.set i ⟨(generationAt s i).value + 1, true⟩ } := by
  have hg : generationAt (leaveDue i s) i = generationAt s i := by simp [generationAt]
  simp only [retireEntry, vacateEntry, hg, writeGeneration, writeEntry, leaveArrivals, mapTable, leaveDue_table]
  rfl

/-- An entry of a sound table that is retired is `Retired`. -/
theorem retireEntry_retired {s : State} {i : Nat} (hs : TableSound s) (hi : i < 64) :
    Retired i s (retireEntry i s) := by
  obtain ⟨hentries, hgenerations, -, -⟩ := hs
  refine ⟨?vacant, ?generation, ?due, ?arrivals, fun j hj => ?others, ?first, ?more⟩
  case vacant => simp [entryAt, retireEntry_table, hentries, hi]
  case generation => simp [generationAt, retireEntry_table, hgenerations, hi]
  case due => simp [retireEntry_table]
  case arrivals => simp [retireEntry_table]
  case others => simp [entryAt, retireEntry_table, Ne.symm hj, List.getD]
  case first => simp [retireEntry_table]
  case more => simp [retireEntry_table]

/-! ## RELEASE -/

theorem ownRelease_retires {i : Nat} {s : State}
    (h : (entryAt s i).state = .concluded ∨ (entryAt s i).state = .damaged) :
    ownRelease i s = (retireEntry i s, accept []) := by
  simp [ownRelease, h]

theorem ownRelease_refuses {i : Nat} {s : State} (hc : (entryAt s i).state ≠ .concluded)
    (hd : (entryAt s i).state ≠ .damaged) : ownRelease i s = (s, refuse .notConcluded) := by
  simp [ownRelease, hc, hd]

/-- A decoded RELEASE answers what its tag check and owner give. -/
theorem exec_release_of_decoded {p : Port} {x : List Byte} {s u : State} {a : Answer}
    (hd : decoded (.release p x) s = true) (h : withTag p false x ownRelease (taken p 6 x s) = (u, a)) :
    exec (.release p x) s = .next (answered p 6 a.status a.payload u) := by
  have hr := request_of_decoded (row := ⟨6, true, true, .both, 2⟩) (withTag p false x ownRelease) rfl rfl hd
    (by decide)
  rw [h] at hr
  exact congrArg _ hr

/-- RELEASE of a CONCLUDED or DAMAGED entry that its port may name retires it (R21). -/
theorem exec_release_retires {p : Port} {x : List Byte} {s : State} (hd : decoded (.release p x) s = true)
    (hs : TableSound s) (hn : Names s (byteAt x 0) (byteAt x 1)) (hp : ¬ (p = .harbour ∧ byteAt x 0 < s.table.tb))
    (hst : (entryAt s (byteAt x 0)).state = .concluded ∨ (entryAt s (byteAt x 0)).state = .damaged) :
    ∃ u, exec (.release p x) s = .next (answered p 6 .ok [] (settle u)) ∧ Retired (byteAt x 0) s u := by
  have hw := withTag_permitted (s := taken p 6 x s) false ownRelease hs hn hp
  rw [ownRelease_retires (s := taken p 6 x s) hst] at hw
  exact ⟨_, exec_release_of_decoded hd hw, retireEntry_retired (s := taken p 6 x s) hs hn.1⟩

/-! ## DELETE_TIMETABLE -/

theorem ownDeleteTimetable_out_of_range {i : Nat} {s : State} (h : s.table.tb ≤ i) :
    ownDeleteTimetable i s = (s, refuse .outOfRange) := by
  simp [ownDeleteTimetable, kindOf_eq_timetable_iff, h]

theorem ownDeleteTimetable_retires {i : Nat} {s : State} (h : i < s.table.tb)
    (hst : (entryAt s i).state = .pending ∨ (entryAt s i).state = .due) :
    ownDeleteTimetable i s = (retireEntry i s, accept []) := by
  simp [ownDeleteTimetable, (kindOf_eq_timetable_iff s.table i).mpr h, hst]

theorem ownDeleteTimetable_frozen {i : Nat} {s : State} (h : i < s.table.tb) (hp : (entryAt s i).state ≠ .pending)
    (hd : (entryAt s i).state ≠ .due) : ownDeleteTimetable i s = (s, refuse .frozen) := by
  simp [ownDeleteTimetable, (kindOf_eq_timetable_iff s.table i).mpr h, hp, hd]

/-- DELETE_TIMETABLE is decoded at the control port alone, where RELEASE is decoded with the same payload: the two
requests have one form (R214, R215). -/
theorem release_decoded_of_deleteTimetable {p : Port} {x : List Byte} {s : State}
    (h : decoded (.deleteTimetable p x) s = true) : p = .control ∧ decoded (.release p x) s = true := by
  cases p with
  | control => exact ⟨rfl, h⟩
  | harbour => simp [decoded, requestRow, Instr.requestPayload, CatalogueRow.held] at h

/-- A decoded DELETE_TIMETABLE that names an entry answers what its owner gives. -/
theorem exec_deleteTimetable_of_owner {p : Port} {x : List Byte} {s u : State} {a : Answer}
    (hd : decoded (.deleteTimetable p x) s = true) (hs : TableSound s) (hn : Names s (byteAt x 0) (byteAt x 1))
    (h : ownDeleteTimetable (byteAt x 0) (taken p 7 x s) = (u, a)) :
    exec (.deleteTimetable p x) s = .next (answered p 7 a.status a.payload (settle u)) := by
  obtain ⟨rfl, -⟩ := release_decoded_of_deleteTimetable hd
  have hr := request_of_decoded (row := ⟨7, false, true, .both, 2⟩) (withTag .control false x ownDeleteTimetable)
    rfl rfl hd (by decide)
  rw [withTag_permitted (s := taken .control 7 x s) false ownDeleteTimetable hs hn (by simp), h] at hr
  exact congrArg _ hr

/-! ## The statement -/

/-- Settles O25: each clause is the tag check of a sound table, the owner's case for the entry's state, and, where the
owner retires the entry, what a retirement leaves. -/
theorem entriesRetired : Obligations.EntriesRetired := by
  unfold Obligations.EntriesRetired
  constructor
  · rintro p x s _ hd hs rfl hn
    refine ⟨?harbour, exec_release_retires hd hs hn, ?other⟩
    case harbour =>
      rintro ⟨rfl, ht⟩
      exact exec_release_of_decoded hd (withTag_not_permitted (s := taken .harbour 6 x s) ownRelease hs hn ht)
    case other =>
      intro hp hconcluded hdamaged
      have hw := withTag_permitted (s := taken p 6 x s) false ownRelease hs hn hp
      rw [ownRelease_refuses (s := taken p 6 x s) hconcluded hdamaged] at hw
      exact exec_release_of_decoded hd hw
  · rintro p x s _ hd hs rfl hn
    refine ⟨fun h => ?outside, fun h hst => ?live, fun h hpending hdue => ?other, fun _ hst => ?damaged⟩
    case outside =>
      exact exec_deleteTimetable_of_owner hd hs hn (ownDeleteTimetable_out_of_range (s := taken p 7 x s) h)
    case live =>
      exact ⟨_, exec_deleteTimetable_of_owner hd hs hn (ownDeleteTimetable_retires (s := taken p 7 x s) h hst),
        retireEntry_retired (s := taken p 7 x s) hs hn.1⟩
    case other =>
      exact exec_deleteTimetable_of_owner hd hs hn
        (ownDeleteTimetable_frozen (s := taken p 7 x s) h hpending hdue)
    case damaged =>
      obtain ⟨rfl, hrelease⟩ := release_decoded_of_deleteTimetable hd
      obtain ⟨u, hexec, hvacant, -⟩ := exec_release_retires hrelease hs hn (by simp) (.inr hst)
      exact ⟨u, hexec, hvacant⟩

end Sys2Proof.Machine
end

section
/-!
The need and the required lift (R39): the lift of a need is 0 up to 0 and the least step of 100 mm that covers it
above, and it passes a whole step exactly when the need does.
-/

namespace Sys2Proof.Machine

theorem liftOfNeed_of_nonpos {n : Int} (h : n ≤ 0) : liftOfNeed n = 0 := if_pos h

theorem liftOfNeed_of_pos {n : Int} (h : 0 < n) : liftOfNeed n = 100 * ((n + 9) / 10) := if_neg (by omega)

theorem liftOfNeed_nonneg (n : Int) : 0 ≤ liftOfNeed n := by
  obtain h | h := le_or_gt n 0
  · rw [liftOfNeed_of_nonpos h]
  · rw [liftOfNeed_of_pos h]
    omega

/-- A step of 100 mm covers a need, ten centimetres to the step, exactly when it is at least the required lift. -/
theorem liftOfNeed_le_step_iff {n k : Int} (hk : 0 ≤ k) : liftOfNeed n ≤ 100 * k ↔ n ≤ 10 * k := by
  obtain h | h := le_or_gt n 0
  · rw [liftOfNeed_of_nonpos h]
    omega
  · rw [liftOfNeed_of_pos h]
    omega

/-- A positive need lies within the last step of its lift. -/
theorem liftOfNeed_least_step {n : Int} (h : 0 < n) :
    ∃ k, liftOfNeed n = 100 * k ∧ 10 * (k - 1) < n ∧ n ≤ 10 * k :=
  ⟨(n + 9) / 10, liftOfNeed_of_pos h, by omega, by omega⟩

/-- The two forms of the test against Hmax, a multiple of 100 mm. -/
theorem lt_liftOfNeed_iff {maxLift n : Int} (hnonneg : 0 ≤ maxLift) (hstep : maxLift % 100 = 0) :
    maxLift < liftOfNeed n ↔ maxLift / 10 < n := by
  obtain ⟨k, rfl⟩ := Int.dvd_of_emod_eq_zero hstep
  have hcovered : liftOfNeed n ≤ 100 * k ↔ n ≤ 10 * k := liftOfNeed_le_step_iff (by omega)
  omega

/-! ## The statement -/

/-- Settles O28: the least step gives the lift's form, the comparison at a whole step gives both the test against Hmax
and, at step 760, the bound of the lift; the need's own bounds are linear in its terms. -/
theorem needAndRequiredLift : Obligations.RequiredLift := by
  unfold Obligations.RequiredLift
  intro p a x l n hn
  have hneed : n = a + p.margin + x + l - p.closedClearance := by rw [hn, need]
  refine ⟨hneed, liftOfNeed_of_nonpos, liftOfNeed_least_step, lt_liftOfNeed_iff, ?ranges⟩
  case ranges =>
    intros
    have hlow : -2280 ≤ n := by omega
    have hhigh : n ≤ 7600 := by omega
    exact ⟨hlow, hhigh, liftOfNeed_nonneg n, (liftOfNeed_le_step_iff (k := 760) (by decide)).mpr hhigh⟩

end Sys2Proof.Machine
end

section
/-!
The opening planner's requests (chapter 3): CLOSE_SPAN, whose closing call finds every slot DONE and so returns and
keeps none (R66, R69), and the two requests of the navigation-closed flag (R54).
-/

namespace Sys2Proof.Machine

/-- A decoded request leaves and answers what its owner gives for the taken frame. -/
theorem request_of_owner {c : Instr} {p : Port} {row : CatalogueRow} {payload : List Byte}
    {owner : State → State × Answer} {s u : State} {a : Answer} (hr : requestRow c = some (p, row))
    (hp : c.requestPayload = some payload) (hd : decoded c s = true) (hl : row.length ≤ payloadLimit)
    (h : owner (taken p row.code payload s) = (u, a)) :
    request p row payload owner s = answered p row.code a.status a.payload u := by
  rw [request_of_decoded owner hr hp hd hl, h]

/-! ## The closing call where every slot is DONE -/

/-- No slot is open exactly where the opening's slots are all DONE. -/
theorem openSlots_eq_nil_iff {s : State} {o : Opening} (ho : s.seq.opening = some o) :
    openSlots s = [] ↔ ∀ y ∈ o.slots, y.state = .done := by
  simp [openSlots, slots, ho]

theorem closingCall_of_opening {s : State} {o : Opening} (ho : s.seq.opening = some o) :
    closingCall s = o.closingCause.isSome := by
  simp [closingCall, ho]

theorem foldl_closeSlot_done (l : List Slot) (s : State) (h : ∀ x ∈ l, x.state = .done) :
    l.foldl closeSlot s = s := by
  induction l with
  | nil => rfl
  | cons x l ih =>
    have hx : closeSlot s x = s := by simp [closeSlot, h x (by simp)]
    rw [List.foldl_cons, hx]
    exact ih fun y hy => h y (by simp [hy])

/-- A first closing call on slots that are all DONE records its cause and leaves the slots (R66 to R68). -/
theorem setClosingCall_of_done (cause : ClosingCause) {s : State} {o : Opening}
    (ho : s.seq.opening = some o) (hdone : ∀ y ∈ o.slots, y.state = .done) (hclear : o.closingCause = none) :
    (setClosingCall cause s).seq = { s.seq with opening := some { o with closingCause := some cause } } ∧
      (setClosingCall cause s).planner = { s.planner with maxRaised := .stopped } := by
  simp [setClosingCall, ho, hclear, foldl_closeSlot_done _ _ hdone, dropServing, mapOpening]

/-! ## CLOSE_SPAN -/

theorem ownCloseSpan_no_opening {s : State} (h : s.seq.opening = none) :
    ownCloseSpan s = (s, refuse .notReady) := by
  simp [ownCloseSpan, h]

theorem ownCloseSpan_open_slot {s : State} {o : Opening} (ho : s.seq.opening = some o)
    (h : ∃ y ∈ o.slots, y.state ≠ .done) : ownCloseSpan s = (s, refuse .notReady) := by
  obtain ⟨y, hy, hstate⟩ := h
  have hopen : openSlots s ≠ [] := fun hnil => hstate ((openSlots_eq_nil_iff ho).mp hnil y hy)
  simp [ownCloseSpan, ho, hopen]

theorem ownCloseSpan_already_set {s : State} {o : Opening} (ho : s.seq.opening = some o)
    (hdone : ∀ y ∈ o.slots, y.state = .done) (hset : o.closingCause.isSome = true) :
    ownCloseSpan s = (s, accept []) := by
  simp [ownCloseSpan, ho, (openSlots_eq_nil_iff ho).mpr hdone, closingCall_of_opening ho, hset]

theorem ownCloseSpan_first_call {s : State} {o : Opening} (ho : s.seq.opening = some o)
    (hdone : ∀ y ∈ o.slots, y.state = .done) (hclear : o.closingCause = none) :
    ownCloseSpan s = (settle (setClosingCall .closeSpan s), accept []) := by
  simp [ownCloseSpan, ho, (openSlots_eq_nil_iff ho).mpr hdone, closingCall_of_opening ho, hclear]

theorem decoded_closeSpan {s : State} (hf : portFree s .control = true) (hm : s.mode = .service) :
    decoded (.closeSpan .control []) s = true := by
  simp [decoded, requestRow, Instr.requestPayload, CatalogueRow.held, Modes.admits, hf, hm]

/-- A CLOSE_SPAN in SERVICE answers what its owner gives. -/
theorem exec_closeSpan_of_owner {s u : State} {a : Answer} (hf : portFree s .control = true)
    (hm : s.mode = .service) (h : ownCloseSpan (taken .control 20 [] s) = (u, a)) :
    exec (.closeSpan .control []) s = .next (answered .control 20 a.status a.payload u) :=
  congrArg _ (request_of_owner (row := ⟨20, false, true, .serviceOnly, 0⟩) rfl rfl (decoded_closeSpan hf hm)
    (by decide) h)

theorem exec_closeSpan_configuring {s : State} (hf : portFree s .control = true) (hm : s.mode = .configuring) :
    exec (.closeSpan .control []) s = .next (answered .control 20 .wrongMode [] (taken .control 20 [] s)) :=
  congrArg _ (request_refused .control ⟨20, false, true, .serviceOnly, 0⟩ [] ownCloseSpan s .wrongMode hf
    (by decide) (by simp [decodeRefusal, CatalogueRow.held, Modes.admits, hm]))

/-- Settles O30: the mode is decoding's case, the others are the owner's, and a first closing call finds nothing to
return. -/
theorem closeSpanSetsCall : Obligations.CloseSpanSetsCall := by
  unfold Obligations.CloseSpanSetsCall
  rintro x s hf rfl
  refine ⟨exec_closeSpan_configuring hf, fun hm ho => ?noOpening, fun o hm ho =>
    ⟨fun h => ?openSlot, fun hdone hset => ?alreadySet, fun hdone hclear => ?firstCall⟩⟩
  case noOpening => exact exec_closeSpan_of_owner hf hm (ownCloseSpan_no_opening (s := taken .control 20 [] s) ho)
  case openSlot => exact exec_closeSpan_of_owner hf hm (ownCloseSpan_open_slot (s := taken .control 20 [] s) ho h)
  case alreadySet =>
    exact exec_closeSpan_of_owner hf hm (ownCloseSpan_already_set (s := taken .control 20 [] s) ho hdone hset)
  case firstCall =>
    have hown := ownCloseSpan_first_call (s := taken .control 20 [] s) ho hdone hclear
    obtain ⟨hseq, hplanner⟩ :=
      setClosingCall_of_done .closeSpan (s := taken .control 20 [] s) ho hdone hclear
    exact ⟨_, { o with closingCause := some .closeSpan }, exec_closeSpan_of_owner hf hm hown, by rw [hseq], rfl, rfl,
      by rw [hplanner], by rw [hseq]; rfl⟩

/-! ## The navigation-closed flag -/

/-- CLOSE_NAVIGATION and OPEN_NAVIGATION are decoded at the control port in both modes (R54, R215). -/
theorem decoded_navigation {c : Instr} {s : State} (hf : portFree s .control = true)
    (hc : c = .closeNavigation .control [] ∨ c = .openNavigation .control []) : decoded c s = true := by
  obtain rfl | rfl := hc <;>
    simp [decoded, requestRow, Instr.requestPayload, CatalogueRow.held, Modes.admits, hf]

theorem exec_closeNavigation {s : State} (hf : portFree s .control = true) :
    exec (.closeNavigation .control []) s = .next (answered .control 24 .ok []
      { taken .control 24 [] s with planner := { s.planner with navigationClosed := true } }) :=
  congrArg _ (request_of_owner (row := ⟨24, false, true, .both, 0⟩) (owner := ownCloseNavigation) rfl rfl
    (decoded_navigation hf (.inl rfl)) (by decide) rfl)

theorem exec_openNavigation {s u : State} (hf : portFree s .control = true)
    (hu : u = { taken .control 25 [] s with planner := { s.planner with navigationClosed := false } }) :
    exec (.openNavigation .control []) s = .next (answered .control 25 .ok []
      (settle (if s.seq.opening.isSome then u else evaluateStart u))) := by
  subst hu
  exact congrArg _ (request_of_owner (row := ⟨25, false, true, .both, 0⟩) (owner := ownOpenNavigation) rfl rfl
    (decoded_navigation hf (.inr rfl)) (by decide) rfl)

/-- Start condition (a) (R54, R56). -/
theorem startOnHoldOff_iff (s : State) :
    startOnHoldOff s = true ↔
      (s.planner.navigationClosed = false ∧ s.planner.holdOffElapsed = true) ∨ s.seq.state = .roadClosed := by
  simp [startOnHoldOff]

theorem startOnQueue_of_closed {s : State} (h : s.planner.navigationClosed = true) : startOnQueue s = false := by
  simp [startOnQueue, h]

theorem startOnQueue_of_open {s : State} (h : s.planner.navigationClosed = false) :
    startOnQueue s = s.planner.queueCritical := by
  simp [startOnQueue, h]

/-- Start condition (b) reads the table alone. -/
theorem startOnClass_planner (s : State) (x : Planner) : startOnClass { s with planner := x } = startOnClass s := rfl

/-- Settles O33: each request is its owner's one change, and the flag stands in two of the three start conditions. -/
theorem navigationFlag : Obligations.NavigationFlag := by
  unfold Obligations.NavigationFlag
  refine ⟨?close, ?opened, fun s h => ⟨?holdOff, startOnQueue_of_closed h, (startOnClass_planner s _).symm⟩,
    fun s h => ⟨?holdOffOpen, startOnQueue_of_open h⟩⟩
  case close =>
    rintro x s hf rfl
    exact exec_closeNavigation hf
  case opened =>
    rintro x s hf rfl
    exact ⟨_, rfl, exec_openNavigation hf rfl⟩
  case holdOff => simp [startOnHoldOff_iff, h]
  case holdOffOpen => simp [startOnHoldOff_iff, h]

end Sys2Proof.Machine
end

section
/-!
The attention requests (chapter 10): which source FETCH_ATTENTION takes and what it leaves pending (R223, R224), which
set SET_ATTENTION_ENABLE accepts (R222), and the attention line after each (R221).
-/

namespace Sys2Proof.Machine

/-! ## The source of highest priority -/

theorem lowestPlace_eq_zero {x : BitVec 24} {k n : Nat} (h : ∀ j, k ≤ j → j < k + n → x.getLsbD j = false) :
    lowestPlace x k n = 0 := by
  induction n generalizing k with
  | zero => rfl
  | succ n ih =>
    have hk : x.getLsbD k = false := h k (by omega) (by omega)
    have hrest : lowestPlace x (k + 1) n = 0 := ih fun j hj hn => h j (by omega) (by omega)
    simp [lowestPlace, hk, hrest]

/-- The lowest set bit among those looked at is the one found. -/
theorem lowestPlace_eq_succ {x : BitVec 24} {i k n : Nat} (hk : k ≤ i) (hn : i < k + n) (hi : x.getLsbD i = true)
    (hlow : ∀ j, k ≤ j → j < i → x.getLsbD j = false) : lowestPlace x k n = i + 1 := by
  induction n generalizing k with
  | zero => omega
  | succ n ih =>
    obtain rfl | hlt := Nat.eq_or_lt_of_le hk
    · simp [lowestPlace, hi]
    · have hclear : x.getLsbD k = false := hlow k (Nat.le_refl k) hlt
      have hrest : lowestPlace x (k + 1) n = i + 1 := ih hlt (by omega) fun j hj => hlow j (by omega)
      simp [lowestPlace, hclear, hrest]

theorem fetchPlace_eq_zero {r : PortRecord} (h : r.attention &&& r.enable = 0) : fetchPlace r = 0 :=
  lowestPlace_eq_zero fun j _ _ => by simp [h]

theorem fetchPlace_eq_succ {r : PortRecord} {k : Nat} (hk : k < 24)
    (hset : (r.attention &&& r.enable).getLsbD k = true)
    (hlow : ∀ j, j < k → (r.attention &&& r.enable).getLsbD j = false) : fetchPlace r = k + 1 :=
  lowestPlace_eq_succ (Nat.zero_le k) (by omega) hset fun j _ => hlow j

/-- A set of sources without the one at place k + 1 (R223). -/
def withoutSource (k : Nat) (x : BitVec 24) : BitVec 24 := x &&& ~~~(1#24 <<< k)

theorem getLsbD_withoutSource {k j : Nat} (x : BitVec 24) (hj : j < 24) :
    (withoutSource k x).getLsbD j = (x.getLsbD j && j != k) := by
  have hbit : (1#24 <<< k).getLsbD j = decide (j = k) := by
    rw [BitVec.getLsbD_shiftLeft, BitVec.getLsbD_one, Bool.eq_iff_iff]
    simp only [Bool.and_eq_true, Bool.not_eq_true', decide_eq_true_eq, decide_eq_false_iff_not]
    omega
  rw [withoutSource, BitVec.getLsbD_and, BitVec.getLsbD_not, hbit, Bool.eq_iff_iff]
  simp [hj]

/-! ## The attention line -/

theorem setPort_get (p : Port) (s : State) : setPort p (s.ports.get p) s = s := by
  cases p <;> rfl

theorem attentionLine_iff (s : State) (p : Port) :
    attentionLine s p = true ↔ (s.ports.get p).attention &&& (s.ports.get p).enable ≠ 0 := bne_iff_ne

@[simp] theorem answered_attention (p : Port) (n : Nat) (x : Status) (l : List Byte) (u : State) :
    ((answered p n x l u).ports.get p).attention = (u.ports.get p).attention := by
  simp [answered, respond]

@[simp] theorem answered_enable (p : Port) (n : Nat) (x : Status) (l : List Byte) (u : State) :
    ((answered p n x l u).ports.get p).enable = (u.ports.get p).enable := by
  simp [answered, respond]

/-! ## FETCH_ATTENTION -/

theorem ownFetchAttention_none {p : Port} {s : State}
    (h : (s.ports.get p).attention &&& (s.ports.get p).enable = 0) :
    ownFetchAttention p s = (s, accept ([0, 0] ++ putSources p (s.ports.get p).attention)) := by
  have hcount : countBits 0#24 = 0 := by decide
  simpa [ownFetchAttention, fetchPlace_eq_zero h, h, hcount, put1] using setPort_get p s

theorem ownFetchAttention_of_place {p : Port} {s : State} {k : Nat} {left : BitVec 24}
    (h : fetchPlace (s.ports.get p) = k + 1) (hleft : left = withoutSource k (s.ports.get p).attention) :
    ownFetchAttention p s =
      (setPort p { s.ports.get p with attention := left } s,
        accept ([BitVec.ofNat 8 (k + 1), BitVec.ofNat 8 (countBits (left &&& (s.ports.get p).enable))] ++
          putSources p left)) := by
  simp [ownFetchAttention, h, hleft, withoutSource, put1]

theorem exec_fetchAttention_of_owner {p : Port} {x : List Byte} {s u : State} {a : Answer}
    (hd : decoded (.fetchAttention p x) s = true) (h : ownFetchAttention p (taken p 50 x s) = (u, a)) :
    exec (.fetchAttention p x) s = .next (answered p 50 a.status a.payload u) :=
  congrArg _ (request_of_owner (row := ⟨50, true, true, .both, 0⟩) rfl rfl hd (by decide) h)

/-! ## SET_ATTENTION_ENABLE -/

theorem ownSetAttentionEnable_out_of_range {p : Port} {x : List Byte} {s : State}
    (h : 2 ^ sourceCount p ≤ sourcesAt p x) : ownSetAttentionEnable p x s = (s, refuse .outOfRange) := by
  simp [ownSetAttentionEnable, h]

theorem ownSetAttentionEnable_accepts {p : Port} {x : List Byte} {s : State}
    (h : sourcesAt p x < 2 ^ sourceCount p) :
    ownSetAttentionEnable p x s =
      (setPort p { s.ports.get p with enable := BitVec.ofNat 24 (sourcesAt p x) } s,
        accept (putSources p (s.ports.get p).attention)) := by
  simp [ownSetAttentionEnable, Nat.not_le.mpr h]

theorem exec_setAttentionEnable_of_owner {p : Port} {x : List Byte} {s u : State} {a : Answer}
    (hd : decoded (.setAttentionEnable p x) s = true)
    (h : ownSetAttentionEnable p x (taken p 51 x s) = (u, a)) :
    exec (.setAttentionEnable p x) s = .next (answered p 51 a.status a.payload u) := by
  have hlength : enableLength p ≤ payloadLimit := by cases p <;> decide
  exact congrArg _ (request_of_owner (row := ⟨51, true, true, .both, enableLength p⟩)
    (by cases p <;> rfl) rfl hd hlength h)

/-- A set of the port's sources replaces the enable set, and the line follows it (R221, R222). -/
theorem exec_setAttentionEnable_accepts {p : Port} {x : List Byte} {s : State}
    (hd : decoded (.setAttentionEnable p x) s = true) (h : sourcesAt p x < 2 ^ sourceCount p) :
    ∃ t, exec (.setAttentionEnable p x) s = .next t ∧
      t = answered p 51 .ok (putSources p (s.ports.get p).attention)
        (setPort p { (taken p 51 x s).ports.get p with enable := BitVec.ofNat 24 (sourcesAt p x) }
          (taken p 51 x s)) ∧
      (t.ports.get p).attention = (s.ports.get p).attention ∧
      (attentionLine t p = true ↔ (s.ports.get p).attention &&& BitVec.ofNat 24 (sourcesAt p x) ≠ 0) := by
  have hown := ownSetAttentionEnable_accepts (s := taken p 51 x s) h
  rw [taken_attention] at hown
  exact ⟨_, exec_setAttentionEnable_of_owner hd hown, rfl, by simp, by simp [attentionLine_iff]⟩

/-! ## The statement -/

/-- Settles O6: a fetch takes the place found by the search for the lowest set bit, an accepted enable set is the
payload's number, and the answer leaves both sets, so that the line is read off the record the owner wrote. -/
theorem attentionRequests : Obligations.AttentionRequests := by
  unfold Obligations.AttentionRequests
  constructor
  · intro p payload s hd
    constructor
    · intro hnone
      have hown := ownFetchAttention_none (p := p) (s := taken p 50 payload s) (by simpa using hnone)
      rw [taken_attention] at hown
      exact exec_fetchAttention_of_owner hd hown
    · intro k hk hset hlow
      have hplace : fetchPlace ((taken p 50 payload s).ports.get p) = k + 1 :=
        fetchPlace_eq_succ hk (by simpa using hset) (by simpa using hlow)
      have hown := ownFetchAttention_of_place hplace rfl
      rw [taken_attention, taken_enable] at hown
      exact ⟨_, _, exec_fetchAttention_of_owner hd hown, fun j => getLsbD_withoutSource _, rfl,
        by simp [attentionLine_iff]⟩
  · intro p payload s x hd hx
    have hsources : x = sourcesAt p payload := by
      cases p <;> simp [hx, sourcesAt, wordAt, Nat.add_assoc]
    subst hsources
    have hrefused := fun hout : 2 ^ sourceCount p ≤ sourcesAt p payload =>
      exec_setAttentionEnable_of_owner hd (ownSetAttentionEnable_out_of_range hout)
    have haccepted := fun hin : sourcesAt p payload < 2 ^ sourceCount p =>
      exec_setAttentionEnable_accepts hd hin
    cases p <;> exact ⟨hrefused, haccepted⟩

end Sys2Proof.Machine
end

section
/-!
What each command may change of the settings, the levels, the clock's face, the readings and the zone: `held` gathers
what neither the passage of time nor the traffic of a port changes, and `Held.owned` names the commands that own a part
of it.
-/

namespace Sys2Proof.Machine

/-! ## What time and the ports' traffic leave alone -/

/-- The water levels (R31), with whether the staleness timer runs, without the times. -/
def Water.levels (w : Water) : Option Int × Option Int × GaugeStatus × Int × Bool :=
  (w.accepted, w.candidate, w.gauge, w.effective, w.staleness.isRunning)

/-- The clock's face and lock (R198), without the times. -/
def Clock.face (c : Clock) : Nat × Nat × Bool × LockState × Nat × Bool × Option Mark :=
  (c.minute, c.seconds, c.valid, c.lock, c.recaptureRun, c.early, c.lastMark)

/-- What time leaves alone, with what passes at the two ports. -/
structure Held where
  pending : List Instr
  mode : Mode
  straps : (BitVec 7 × Baud) × (BitVec 7 × Baud)
  enables : BitVec 24 × BitVec 24
  params : Parameters
  size : Nat × Nat × Nat × Nat
  levels : Option Int × Option Int × GaugeStatus × Int × Bool
  face : Nat × Nat × Bool × LockState × Nat × Bool × Option Mark
  inputs : Option (RawInputs × RawInputs × RawInputs)
  zoneCount : Nat
  recognizers : PerEdge (Option FirstBroken)
  links : (Receiver × Option Response) × (Receiver × Option Response)

/-- What of the outer part time leaves alone. -/
def Outer.held (o : Outer) : Held :=
  { pending := o.pending, mode := o.mode,
    straps := ((o.control.station, o.control.baud), (o.harbour.station, o.harbour.baud)),
    enables := (o.control.enable, o.harbour.enable), params := o.params, size := o.tableSize,
    levels := o.water.levels, face := o.clock.face, inputs := o.inputs, zoneCount := o.zoneCount,
    recognizers := o.recognizers,
    links := ((o.control.receiver, o.control.response), (o.harbour.receiver, o.harbour.response)) }

/-- What time leaves alone of a state. -/
def held (s : State) : Held := (outer s).held

theorem held_of_outer {s t : State} (h : outer t = outer s) : held t = held s := congrArg Outer.held h

theorem isRunning_advance (n : Nat) (t : Timer) : (t.advance n).isRunning = t.isRunning := by
  cases t <;> rfl

@[simp] theorem held_elapse (n : Nat) (s : State) : held (elapse n s) = held s := by
  have levels : (s.water.advance n).levels = s.water.levels := by
    simp [Water.levels, Water.advance, isRunning_advance]
  have rest : { held (elapse n s) with levels := s.water.levels } = held s := rfl
  rw [← rest]
  exact congrArg (fun l => { held (elapse n s) with levels := l }) levels

@[simp] theorem held_freeCount (s : State) (n : Nat) : held { s with freeCount := n } = held s := rfl

@[simp] theorem held_raiseControl (x : ControlSource) (s : State) : held (raiseControl x s) = held s := rfl

@[simp] theorem held_settle (s : State) : held (settle s) = held s := held_of_outer (outer_settle s)

/-- What the ports' traffic leaves alone too. -/
def Held.linkless (x : Held) : Held := { x with links := ((.ignoring, none), (.ignoring, none)) }

/-- A new record of a port that keeps its straps and its enable set. -/
theorem linkless_setPort {p : Port} {r : PortRecord} {s : State} (hs : r.station = (s.ports.get p).station)
    (hb : r.baud = (s.ports.get p).baud) (he : r.enable = (s.ports.get p).enable) :
    (held (setPort p r s)).linkless = (held s).linkless := by
  cases p <;> simp only [PerPort.get] at hs hb he <;>
    simp [held, outer, Outer.held, Held.linkless, PortRecord.quiet, setPort, PerPort.set, hs, hb, he]

@[simp] theorem linkless_takeFrame (p : Port) (body : List Byte) (s : State) :
    (held (takeFrame p body s)).linkless = (held s).linkless :=
  linkless_setPort rfl rfl rfl

@[simp] theorem linkless_respond (p : Port) (n : Nat) (a : Answer) (s : State) :
    (held (respond p n a s)).linkless = (held s).linkless :=
  linkless_setPort rfl rfl rfl

@[simp] theorem linkless_discardFrame (p : Port) (s : State) :
    (held (discardFrame p s)).linkless = (held s).linkless :=
  linkless_setPort rfl rfl rfl

/-- A request leaves alone what its owner leaves alone, the ports' traffic aside; `π` picks the part in question. -/
theorem held_request {π : Held → Held} (hπ : ∀ x, (π x).linkless = π x.linkless) {owner : State → State × Answer}
    (h : ∀ s, π (held (owner s).1) = π (held s)) (p : Port) (row : CatalogueRow) (payload : List Byte) (s : State) :
    π (held (request p row payload owner s)).linkless = π (held s).linkless := by
  refine request_cases (P := fun t => π (held t).linkless = π (held s).linkless) p row payload owner s rfl ?_ ?_ ?_
  · rw [linkless_discardFrame]
  · intro x
    rw [linkless_respond, linkless_takeFrame]
  · rw [linkless_respond, ← hπ, h, hπ, linkless_takeFrame]

theorem held_expire {α : Type} (π : Held → α) {act : State → State} (h : ∀ s, π (held (act s)) = π (held s))
    (t : Timer) (s : State) : π (held (expire t act s)) = π (held s) := by
  cases t <;> simp [h]

theorem held_expireMinutes {act : State → State} (h : ∀ s, held (act s) = held s) (t : Timer) (s : State) :
    held (expireMinutes t act s) = held s := by
  cases t <;> simp [h]

/-! ## The clock's commands change the clock's face alone -/

/-- All but the clock's face. -/
def Held.faceless (x : Held) : Held := { x with face := Clock.reset.face }

theorem faceless_of_outer {s t : State} (h : outer t = outer s) : (held t).faceless = (held s).faceless :=
  congrArg (fun o => o.held.faceless) h

@[simp] theorem faceless_mapClock (f : Clock → Clock) (s : State) :
    (held (mapClock f s)).faceless = (held s).faceless := rfl

@[simp] theorem faceless_advanceMinute (s : State) : (held (advanceMinute s)).faceless = (held s).faceless :=
  (faceless_of_outer (outer_minuteEvent _)).trans (faceless_mapClock _ s)

@[simp] theorem faceless_secondStep (s : State) : (held (secondStep s)).faceless = (held s).faceless := by
  unfold secondStep
  split <;> simp

@[simp] theorem faceless_loseLock (s : State) : (held (loseLock s)).faceless = (held s).faceless := by
  simp [loseLock]

@[simp] theorem faceless_oscillatorStep (s : State) : (held (oscillatorStep s)).faceless = (held s).faceless := by
  simp [oscillatorStep]

@[simp] theorem faceless_minuteMark (s : State) : (held (minuteMark s)).faceless = (held s).faceless := by
  unfold minuteMark
  dsimp only
  (repeat' split) <;> simp

@[simp] theorem faceless_relock (s : State) : (held (relock s)).faceless = (held s).faceless := by
  unfold relock
  dsimp only
  (repeat' split) <;> simp

@[simp] theorem faceless_actOnPulse (inWindow : Bool) (s : State) :
    (held (actOnPulse inWindow s)).faceless = (held s).faceless := by
  unfold actOnPulse
  (repeat' split) <;> simp

@[simp] theorem faceless_pulseEdge (s : State) : (held (pulseEdge s)).faceless = (held s).faceless := by
  unfold pulseEdge
  split
  · simp [takePulse]
  · split <;> simp [earlyPulse, takePulse]

/-- Every expiry that the clock may meet on the way to a pulse changes its face alone. -/
theorem faceless_clockTimers {ms : Nat} {s t : State} {x : Timer × (State → State)} (h : x ∈ clockTimers ms s) :
    (held (x.2 t)).faceless = (held t).faceless := by
  unfold clockTimers at h
  split at h <;> simp at h
  · obtain rfl | rfl := h <;> simp
  · obtain rfl | rfl | rfl := h <;> simp

@[simp] theorem faceless_clockExpiry (ms : Nat) (s : State) :
    (held (clockExpiry ms s)).faceless = (held s).faceless := by
  have member : ∀ x ∈ (clockTimers ms s).filter (fun x => x.1.expired), x ∈ clockTimers ms s :=
    fun x hx => (List.mem_filter.mp hx).1
  unfold clockExpiry
  split
  · rfl
  · rename_i x hx
    exact faceless_clockTimers (member x (by simp [hx]))
  · rename_i x rest _ hx
    rw [hx] at member
    rw [List.getD_eq_getElem _ _ (by simpa using Nat.mod_lt _ (Nat.succ_pos _))]
    exact faceless_clockTimers (member _ (List.getElem_mem _))

@[simp] theorem faceless_runClock (n ms : Nat) (s : State) : (held (runClock n ms s)).faceless = (held s).faceless := by
  induction n generalizing ms s with
  | zero => simp [runClock]
  | succ n ih =>
    unfold runClock
    split
    · simp
    · split
      · simp
      · simp [ih]

@[simp] theorem faceless_settle_dueEvent (l : List Nat) (s : State) :
    (held (settle (dueEvent l s))).faceless = (held s).faceless := faceless_of_outer (by simp)

theorem outer_visitMinutes (k old : Nat) (s : State) : outer (visitMinutes k old s) = outer s := by
  induction k generalizing old s with
  | zero => rfl
  | succ k ih => simp [visitMinutes, ih]

@[simp] theorem faceless_ownSetTime (p : List Byte) (s : State) :
    (held (ownSetTime p s).1).faceless = (held s).faceless := by
  unfold ownSetTime
  dsimp only
  (repeat' split)
  · rfl
  · exact (faceless_of_outer (s := setClock (wordAt p 0) (byteAt p 2) s) (by simp [withDueEvent])).trans
      (faceless_mapClock _ s)
  · exact faceless_mapClock _ s
  · exact faceless_mapClock _ s
  · exact (faceless_of_outer (s := setClock (wordAt p 0) (byteAt p 2) s)
      (by simp [withDueEvent, forwardTable, outer_visitMinutes])).trans (faceless_mapClock _ s)

@[simp] theorem faceless_ownClockStatus (p : List Byte) (s : State) :
    (held (ownClockStatus p s).1).faceless = (held s).faceless := by
  unfold ownClockStatus
  dsimp only
  (repeat' split) <;> rfl

/-! ## The part of `held` that a command owns -/

/-- All but the water levels. -/
def Held.levelless (x : Held) : Held := { x with levels := Water.reset.levels }

/-- All but the readings, the zone count and the recognizers. -/
def Held.fieldless (x : Held) : Held := { x with inputs := none, zoneCount := 0, recognizers := ⟨none, none⟩ }

/-- All but the parameters and what follows them, the water levels. -/
def Held.paramless (x : Held) : Held := { x.levelless with params := .default }

/-- All but the boundaries of the table's regions. -/
def Held.boundless (x : Held) : Held := { x with size := (0, 0, x.size.2.2) }

/-- All but the numbers of the table's entries and generations. -/
def Held.lengthless (x : Held) : Held := { x with size := (x.size.1, x.size.2.1, 0, 0) }

/-- All but the mode. -/
def Held.modeless (x : Held) : Held := { x with mode := .service }

/-- All but the zone count. -/
def Held.countless (x : Held) : Held := { x with zoneCount := 0 }

/-- All but the enable sets. -/
def Held.enableless (x : Held) : Held := { x with enables := (0, 0) }

/-- What a command does not own: the rest is its own to change. -/
def Held.unowned (c : Instr) (x : Held) : Held :=
  match c with
  | .powerOn _ => { (held State.reset) with pending := x.pending }
  | .inputSample _ => x.fieldless
  | .timePulseLeadingEdge _ | .secondMark | .minuteMarkCorrection | .supervisionTimerExpiry | .oscillatorStep
  | .setTime _ _ | .clockStatus _ _ => x.faceless
  | .waterLevel _ _ | .stalenessTimerExpiry => x.levelless
  | .setParameter _ _ => x.paramless
  | .setRegions _ _ => x.boundless
  | .clearTable _ _ => x.lengthless
  | .configure _ _ | .commission _ _ => x.modeless
  | .zoneReset _ _ => x.countless
  | .setAttentionEnable _ _ => x.enableless
  | _ => x

theorem fieldless_countEnter (s : State) : (held (countEnter s)).fieldless = (held s).fieldless := by
  unfold countEnter
  split <;> rfl

theorem fieldless_countExit (s : State) : (held (countExit s)).fieldless = (held s).fieldless := by
  unfold countExit
  split <;> rfl

@[simp] theorem outer_revertTurned (serial : Nat) (s : State) : outer (revertTurned serial s) = outer s :=
  outer_withAsked _ _ _ (fun s => by simp) s

/-- A crossing that enters changes no more of the outer part than its count. -/
theorem outer_enterCrossing (d : Direction) (s : State) : outer (enterCrossing d s) = outer (countEnter s) := by
  unfold enterCrossing
  dsimp only
  split
  · rfl
  · split
    · exact outer_withAsked _ _ _ (fun s => by simp) _
    · split <;> simp

/-- A crossing that leaves changes no more of the outer part than its count. -/
theorem outer_exitCrossing (e : Edge) (s : State) : outer (exitCrossing e s) = outer (countExit s) := by
  unfold exitCrossing
  dsimp only
  (repeat' split) <;> simp

@[simp] theorem outer_clearedSlot (s : State) (x : Slot) : outer (clearedSlot s x) = outer s := by
  unfold clearedSlot
  (repeat' split)
  · exact outer_withAsked _ _ _ (fun s => by simp) s
  all_goals simp

@[simp] theorem outer_approachCleared (d : Direction) (s : State) : outer (approachCleared d s) = outer s := by
  simp [approachCleared]

/-- An edge's sample writes its recognizer, may raise EDGE_AMBIGUOUS, may count a crossing, and may clear the approach
(R174, R175, R189). -/
theorem edgeSample_keeps {P : State → Prop} {before now : RawInputs} {e : Edge} {s : State}
    (read : ∀ r, P (mapChannel (fun c => { c with recognizers := c.recognizers.set e r }) s))
    (raise : ∀ t, P t → P (raiseControl .edgeAmbiguous t)) (enter : ∀ d t, P t → P (enterCrossing d t))
    (leave : ∀ t, P t → P (exitCrossing e t)) (clear : ∀ d t, P t → P (approachCleared d t)) :
    P (edgeSample before now e s) := by
  unfold edgeSample
  dsimp only
  generalize recognize _ _ _ _ _ = found
  obtain ⟨r, crossing, ambiguous⟩ := found
  dsimp only
  generalize ht : (if ambiguous then _ else _ : State) = t
  have known : P t := by
    subst ht
    split
    · exact raise _ (read r)
    · exact read r
  have crossed : P (match crossing with
      | some .inward => enterCrossing (Edge.arrivals e) t
      | some .outward => exitCrossing e t
      | none => t) := by
    split
    · exact enter _ t known
    · exact leave t known
    · exact known
  split
  · exact clear _ _ crossed
  · exact crossed

/-- The stages of an input sample (log 9). -/
theorem inputSample_keeps {P : State → Prop} {raw : RawInputs} {s : State} (reading : P (takeReading raw s))
    (bolts : ∀ t, P t → P (sampleBolts t)) (secure : ∀ t, P t → P (followSecure t))
    (arms : ∀ first t, P t → P (sampleArms first t)) (phases : ∀ t, P t → P (firstPhases t))
    (deck : ∀ x y t, P t → P (deckSample x y t)) (edge : ∀ x y e t, P t → P (edgeSample x y e t))
    (halt : ∀ t, P t → P (demandHalt t)) : P (inputSample raw s) := by
  unfold inputSample
  dsimp only
  generalize takeReading raw s = s1 at reading ⊢
  have bolted := bolts s1 reading
  generalize sampleBolts s1 = s2 at bolted ⊢
  have secured : P (if spanSecure s2 != s2.guard.seatedLocked then followSecure s2 else s2) := by
    split
    · exact secure s2 bolted
    · exact bolted
  generalize (if spanSecure s2 != s2.guard.seatedLocked then followSecure s2 else s2) = s3 at secured ⊢
  have armed := arms s.inputs.isNone s3 secured
  generalize sampleArms s.inputs.isNone s3 = s4 at armed ⊢
  have phased : P (if s.inputs.isNone then firstPhases s4 else s4) := by
    split
    · exact phases s4 armed
    · exact armed
  generalize (if s.inputs.isNone then firstPhases s4 else s4) = s5 at phased ⊢
  have crossed := edge (filtered s) (filtered s1) .d _
    (edge (filtered s) (filtered s1) .u _ (deck (filtered s) (filtered s1) s5 phased))
  split
  · exact halt _ crossed
  · exact crossed

theorem fieldless_edgeSample (before now : RawInputs) (e : Edge) (s : State) :
    (held (edgeSample before now e s)).fieldless = (held s).fieldless := by
  have same : ∀ {t u : State}, outer u = outer t → (held u).fieldless = (held t).fieldless :=
    fun h => congrArg Held.fieldless (held_of_outer h)
  exact edgeSample_keeps (P := fun t => (held t).fieldless = (held s).fieldless) (fun _ => rfl) (fun _ h => h)
    (fun d t h => (same (outer_enterCrossing d t)).trans ((fieldless_countEnter t).trans h))
    (fun t h => (same (outer_exitCrossing e t)).trans ((fieldless_countExit t).trans h))
    (fun d t h => (same (outer_approachCleared d t)).trans h)

theorem fieldless_inputSample (raw : RawInputs) (s : State) :
    (held (inputSample raw s)).fieldless = (held s).fieldless := by
  have same : ∀ {t u : State}, outer u = outer t → (held t).fieldless = (held s).fieldless →
      (held u).fieldless = (held s).fieldless :=
    fun h ht => (congrArg Held.fieldless (held_of_outer h)).trans ht
  exact inputSample_keeps (P := fun t => (held t).fieldless = (held s).fieldless) rfl
    (fun t => same (outer_sampleBolts t)) (fun t => same (outer_followSecure t)) (fun _ t => same (outer_sampleArms _ t))
    (fun t => same (outer_firstPhases t)) (fun _ _ t => same (outer_deckSample _ _ t))
    (fun x y e t h => (fieldless_edgeSample x y e t).trans h) (fun t => same (outer_demandHalt t))

theorem levelless_takeReadingOf (v : Int) (s : State) :
    (held (takeReadingOf v s)).levelless = (held s).levelless := by
  unfold takeReadingOf
  split
  · unfold holdReading
    dsimp only
    split <;> rfl
  · rw [held_settle, held_of_outer (outer_waterEvent _)]
    rfl

theorem levelless_ownWaterLevel (p : List Byte) (s : State) :
    (held (ownWaterLevel p s).1).levelless = (held s).levelless := by
  unfold ownWaterLevel
  dsimp only
  rw [levelless_takeReadingOf]
  split <;> rfl

theorem levelless_goStale (s : State) : (held (goStale s)).levelless = (held s).levelless := by
  unfold goStale
  dsimp only
  rw [held_of_outer (outer_waterEvent _)]
  rfl

theorem faceless_execSecondMark (s : State) :
    ∃ t, execSecondMark s = .next t ∧ (held t).faceless = (held s).faceless := by
  refine ⟨_, rfl, ?_⟩
  split <;> rfl

theorem boundless_setBounds (tb qb : Nat) (s : State) :
    (held (mapTable (fun t => { t with tb := tb, qb := qb }) s)).boundless = (held s).boundless := rfl

theorem boundless_ownSetRegions (p : List Byte) (s : State) :
    (held (ownSetRegions p s).1).boundless = (held s).boundless := by
  unfold ownSetRegions
  dsimp only
  split
  · rfl
  · split
    · rw [held_settle, held_of_outer (outer_verifyEntries _ _)]
    · rw [held_settle, boundless_setBounds, held_of_outer (outer_verifyEntries _ _)]

theorem lengthless_ownClearTable (s : State) : (held (ownClearTable s).1).lengthless = (held s).lengthless := by
  unfold ownClearTable
  rw [held_settle, held_of_outer (outer_refreshQueueCritical _)]
  rfl

theorem modeless_ownConfigure (s : State) :
    (held (ownConfigure s).1).modeless = (held s).modeless := by
  unfold ownConfigure
  split
  · rw [held_settle, held_of_outer (t := configure s) (s := { s with mode := .configuring }) (by simp [configure])]
    rfl
  · rfl

theorem modeless_ownCommission (s : State) :
    (held (ownCommission s).1).modeless = (held s).modeless := by
  have commissioned : ∀ t : State, outer t = outer s → ∀ st,
      (held (setSeq st { t with mode := .service })).modeless = (held s).modeless := by
    intro t ht st
    rw [held_of_outer (outer_setSeq _ _), ← held_of_outer ht]
    rfl
  unfold ownCommission
  split
  · rfl
  · rw [held_settle]
    unfold commission
    dsimp only
    (repeat' split) <;>
      simp only [held_of_outer (outer_enterHalted _), held_of_outer (outer_tellPlanner _ _)] <;>
      exact commissioned _ (by simp) _

theorem countless_ownZoneReset (s : State) :
    (held (ownZoneReset s).1).countless = (held s).countless := by
  unfold ownZoneReset
  split
  · rw [held_settle, ← held_of_outer (t := s.channel.zoneList.foldl resetSlot s) (s := s) (by simp)]
    rfl
  · rfl

theorem levelless_applyParameter (n : ParameterName) (old v : Int) (s : State) :
    (held (applyParameter n old v s)).levelless = (held s).levelless := by
  have water : ∀ t, (held (waterEvent (recomputeLevel t))).levelless = (held t).levelless := fun t =>
    (congrArg (fun o => o.held.levelless) (outer_waterEvent _)).trans rfl
  unfold applyParameter
  split
  · split
    · exact congrArg (fun o => o.held.levelless) (outer_ageConcluded _ _)
    · rfl
  all_goals first
    | exact water s
    | exact congrArg (fun o => o.held.levelless) (outer_applyHoldOff _)
    | exact congrArg (fun o => o.held.levelless) (outer_refreshQueueCritical _)
    | rfl

theorem paramless_ownSetParameter (p : List Byte) (s : State) :
    (held (ownSetParameter p s).1).paramless = (held s).paramless := by
  unfold ownSetParameter
  split
  · rfl
  · dsimp only
    (repeat' split)
    · rfl
    · rfl
    · rfl
    · rw [Held.paramless, storeParameter, held_settle, levelless_applyParameter]
      rfl

theorem linkless_addressMark (p : Port) (value : Byte) (s : State) :
    (held (addressMark p value s)).linkless = (held s).linkless := by
  unfold addressMark
  dsimp only
  (repeat' split)
  · rfl
  · exact linkless_setPort rfl rfl rfl
  · exact linkless_setPort rfl rfl rfl

theorem linkless_frameDiscarded (p : Port) (cause : DiscardCause) (s : State) :
    (held (frameDiscarded p cause s)).linkless = (held s).linkless := by
  unfold frameDiscarded
  dsimp only
  (repeat' split) <;> simp [linkless_addressMark]

theorem linkless_unknownRequest (p : Port) (code : Byte) (payload : List Byte) (s : State) :
    (held (unknownRequest p code payload s)).linkless = (held s).linkless := by
  unfold unknownRequest
  (repeat' split) <;> simp

theorem linkless_responseSent (p : Port) (s : State) :
    (held (responseSent p s)).linkless = (held s).linkless := by
  unfold responseSent
  dsimp only
  split
  · rfl
  · exact linkless_setPort rfl rfl rfl

theorem held_ownFetchAttention (p : Port) (s : State) : held (ownFetchAttention p s).1 = held s := by
  cases p <;> rfl

theorem enableless_ownSetAttentionEnable (p : Port) (payload : List Byte) (s : State) :
    (held (ownSetAttentionEnable p payload s).1).enableless = (held s).enableless := by
  unfold ownSetAttentionEnable
  dsimp only
  split
  · rfl
  · cases p <;> rfl

/-! ## Every command answers, and changes no more of `held` than it owns -/

theorem held_expire_of_outer {act : State → State} (h : ∀ s, outer (act s) = outer s) (t : Timer) (s : State) :
    held (expire t act s) = held s :=
  held_expire id (fun s => held_of_outer (h s)) t s

theorem held_expireMinutes_of_outer {act : State → State} (h : ∀ s, outer (act s) = outer s) (t : Timer) (s : State) :
    held (expireMinutes t act s) = held s :=
  held_expireMinutes (fun s => held_of_outer (h s)) t s

theorem outer_withTag {owner : Nat → State → State × Answer} (h : ∀ i s, outer (owner i s).1 = outer s) (port : Port)
    (lookUpOnly : Bool) (p : List Byte) (s : State) : outer (withTag port lookUpOnly p owner s).1 = outer s := by
  have checked := outer_checkTag (byteAt p 0) (byteAt p 1) s
  unfold withTag
  dsimp only
  generalize checkTag (byteAt p 0) (byteAt p 1) s = found at checked ⊢
  obtain ⟨s1, _ | x⟩ := found
  · dsimp only at checked ⊢
    split <;> simp [h, checked]
  · simpa using checked

theorem linkless_unowned (c : Instr) (x : Held) : (x.unowned c).linkless = x.linkless.unowned c := by
  cases c <;> rfl

/-- A catalogued request is its row's request of an owner that changes no more than the command owns. -/
theorem exec_request {c : Instr} {p : Port} {row : CatalogueRow} {payload : List Byte}
    (hr : requestRow c = some (p, row)) (hp : c.requestPayload = some payload) :
    ∃ owner : State → State × Answer, (∀ s, exec c s = .next (request p row payload owner s)) ∧
      ∀ s, (held (owner s).1).unowned c = (held s).unowned c := by
  cases c <;> cases hr <;> cases hp
  case setTime => exact ⟨_, fun _ => rfl, faceless_ownSetTime _⟩
  case clockStatus => exact ⟨_, fun _ => rfl, faceless_ownClockStatus _⟩
  case waterLevel => exact ⟨_, fun _ => rfl, levelless_ownWaterLevel _⟩
  case setParameter => exact ⟨_, fun _ => rfl, paramless_ownSetParameter _⟩
  case setRegions => exact ⟨_, fun _ => rfl, boundless_ownSetRegions _⟩
  case clearTable => exact ⟨_, fun _ => rfl, lengthless_ownClearTable⟩
  case configure => exact ⟨_, fun _ => rfl, modeless_ownConfigure⟩
  case commission => exact ⟨_, fun _ => rfl, modeless_ownCommission⟩
  case zoneReset => exact ⟨_, fun _ => rfl, countless_ownZoneReset⟩
  case setAttentionEnable => exact ⟨_, fun _ => rfl, enableless_ownSetAttentionEnable p _⟩
  case fetchAttention => exact ⟨_, fun _ => rfl, held_ownFetchAttention p⟩
  case roadStatus => exact ⟨_, fun _ => rfl, fun s => (congrArg Outer.held (outer_ownRoadStatus s)).trans rfl⟩
  case release => exact ⟨_, fun _ => rfl, fun s => held_of_outer (outer_withTag outer_ownRelease p _ _ s)⟩
  case deleteTimetable =>
    exact ⟨_, fun _ => rfl, fun s => held_of_outer (outer_withTag outer_ownDeleteTimetable p _ _ s)⟩
  case lookUp => exact ⟨_, fun _ => rfl, fun s => held_of_outer (outer_withTag outer_ownLookUp p _ _ s)⟩
  all_goals exact ⟨_, fun _ => rfl, fun s => held_of_outer (by simp)⟩

/-- The events of the ports' lines. -/
def ofLine : Instr → Bool
  | .lineBreak _ | .frameDiscarded _ _ | .unknownRequest _ _ _ | .responseSent _ | .addressMark _ _ => true
  | _ => false

/-- A command of the block's own, no request and no event of a line, changes no more than it owns. -/
theorem exec_event {c : Instr} (hr : requestRow c = none) (hl : ofLine c = false) (s : State) :
    ∃ t, exec c s = .next t ∧ (held t).unowned c = (held s).unowned c := by
  cases c <;> cases hr <;> cases hl
  case powerOn x => exact ⟨_, rfl, rfl⟩
  case inputSample raw => exact ⟨_, rfl, (congrArg Held.fieldless (held_settle _)).trans (fieldless_inputSample raw s)⟩
  case positionSample | encoderEdge => exact ⟨_, rfl, held_of_outer (by simp)⟩
  case timePulseLeadingEdge ms =>
    have kept : (held (settle (pulseEdge (runClock (clockFuel ms) ms s)))).faceless = (held s).faceless := by simp
    exact ⟨_, rfl, kept⟩
  case secondMark => exact faceless_execSecondMark s
  case minuteMarkCorrection | supervisionTimerExpiry | oscillatorStep =>
    exact ⟨_, rfl, held_expire Held.faceless (fun s => by simp) _ s⟩
  case stalenessTimerExpiry =>
    exact ⟨_, rfl, held_expire Held.levelless (fun s => by rw [held_settle, levelless_goStale]) _ s⟩
  case roadHoldOffExpiry | roadPriorityTimerExpiry | maxRaisedTimerExpiry =>
    exact ⟨_, rfl, held_expireMinutes_of_outer (fun s => by simp) _ s⟩
  case flasherHalf a => exact ⟨_, rfl, held_expire_of_outer (outer_nextHalf a) _ s⟩
  case lampProving h l => exact ⟨_, rfl, held_expire_of_outer (outer_proveLamp h l) _ s⟩
  case offCheck h l => exact ⟨_, rfl, held_expire_of_outer (outer_checkOff h l) _ s⟩
  case deckWaitExpiry => exact ⟨_, rfl, held_expire_of_outer outer_deckWaitOver _ s⟩
  case occupancyTimerExpiry d => exact ⟨_, rfl, held_expire_of_outer (outer_occupiedTooLong d) _ s⟩
  all_goals exact ⟨_, rfl, held_expire_of_outer (fun s => by simp) _ s⟩

/-- An event of a line changes no more than the line's traffic. -/
theorem exec_line {c : Instr} (hl : ofLine c = true) (s : State) :
    ∃ t, exec c s = .next t ∧ (held t).linkless = (held s).linkless := by
  cases c <;> cases hl
  case lineBreak p => exact ⟨_, rfl, linkless_discardFrame p s⟩
  case frameDiscarded p x => exact ⟨_, rfl, linkless_frameDiscarded p x s⟩
  case unknownRequest p k q => exact ⟨_, rfl, linkless_unknownRequest p k q s⟩
  case responseSent p => exact ⟨_, rfl, linkless_responseSent p s⟩
  case addressMark p v => exact ⟨_, rfl, linkless_addressMark p v s⟩

theorem payload_of_row {c : Instr} {p : Port} {row : CatalogueRow} (h : requestRow c = some (p, row)) :
    ∃ payload, c.requestPayload = some payload := by
  cases c <;> first | exact ⟨_, rfl⟩ | cases h

/-- A command answers with a state in which all that it does not own stands as before, the ports' traffic aside. -/
theorem exec_held (c : Instr) (s : State) :
    ∃ t, exec c s = .next t ∧ (held t).linkless.unowned c = (held s).linkless.unowned c := by
  match hr : requestRow c with
  | some (p, row) =>
    obtain ⟨payload, hp⟩ := payload_of_row hr
    obtain ⟨owner, run, own⟩ := exec_request hr hp
    exact ⟨_, run s, held_request (π := Held.unowned c) (linkless_unowned c) own p row payload s⟩
  | none =>
    match hl : ofLine c with
    | false =>
      obtain ⟨t, run, kept⟩ := exec_event hr hl s
      exact ⟨t, run, by rw [← linkless_unowned, kept, linkless_unowned]⟩
    | true =>
      obtain ⟨t, run, kept⟩ := exec_line hl s
      exact ⟨t, run, by rw [kept]⟩

end Sys2Proof.Machine
end

section
/-!
The settlements that follow from what each command may change of `held`, and what a step is.
-/

namespace Sys2Proof.Machine

/-- Settles O1: a step takes the command at the front of the queue. -/
theorem stepRunsFront : Obligations.StepRunsFront := by
  unfold Obligations.StepRunsFront
  intro c rest s
  rfl

/-! ## The settings and the field state -/

/-- What `exec_held` says of a given outcome. -/
theorem unowned_of_exec {c : Instr} {s t : State} (h : exec c s = .next t) :
    (held t).linkless.unowned c = (held s).linkless.unowned c := by
  obtain ⟨u, hu, kept⟩ := exec_held c s
  obtain rfl : u = t := by simpa using hu.symm.trans h
  exact kept

theorem unowned_pending (c : Instr) (x : Held) : (x.linkless.unowned c).pending = x.pending := by
  cases c <;> rfl

section
variable {c : Instr} (hp : ∀ x, c ≠ .powerOn x)
include hp

theorem unowned_params (h : ∀ p x, c ≠ .setParameter p x) (x : Held) : (x.linkless.unowned c).params = x.params := by
  cases c
  case powerOn => exact absurd rfl (hp _)
  case setParameter => exact absurd rfl (h _ _)
  all_goals rfl

theorem unowned_mode (h1 : ∀ p x, c ≠ .configure p x) (h2 : ∀ p x, c ≠ .commission p x) (x : Held) :
    (x.linkless.unowned c).mode = x.mode := by
  cases c
  case powerOn => exact absurd rfl (hp _)
  case configure => exact absurd rfl (h1 _ _)
  case commission => exact absurd rfl (h2 _ _)
  all_goals rfl

theorem unowned_straps (x : Held) : (x.linkless.unowned c).straps = x.straps := by
  cases c
  case powerOn => exact absurd rfl (hp _)
  all_goals rfl

theorem unowned_enables (h : ∀ p x, c ≠ .setAttentionEnable p x) (x : Held) : (x.linkless.unowned c).enables = x.enables := by
  cases c
  case powerOn => exact absurd rfl (hp _)
  case setAttentionEnable => exact absurd rfl (h _ _)
  all_goals rfl

theorem unowned_face (h1 : ∀ n, c ≠ .timePulseLeadingEdge n) (h2 : c ≠ .secondMark) (h3 : c ≠ .minuteMarkCorrection)
    (h4 : c ≠ .supervisionTimerExpiry) (h5 : c ≠ .oscillatorStep) (h6 : ∀ p x, c ≠ .setTime p x)
    (h7 : ∀ p x, c ≠ .clockStatus p x) (x : Held) : (x.linkless.unowned c).face = x.face := by
  cases c
  case powerOn => exact absurd rfl (hp _)
  case timePulseLeadingEdge => exact absurd rfl (h1 _)
  case secondMark => exact absurd rfl h2
  case minuteMarkCorrection => exact absurd rfl h3
  case supervisionTimerExpiry => exact absurd rfl h4
  case oscillatorStep => exact absurd rfl h5
  case setTime => exact absurd rfl (h6 _ _)
  case clockStatus => exact absurd rfl (h7 _ _)
  all_goals rfl

theorem unowned_levels (h1 : ∀ p x, c ≠ .waterLevel p x) (h2 : c ≠ .stalenessTimerExpiry)
    (h3 : ∀ p x, c ≠ .setParameter p x) (x : Held) : (x.linkless.unowned c).levels = x.levels := by
  cases c
  case powerOn => exact absurd rfl (hp _)
  case waterLevel => exact absurd rfl (h1 _ _)
  case stalenessTimerExpiry => exact absurd rfl h2
  case setParameter => exact absurd rfl (h3 _ _)
  all_goals rfl

theorem unowned_inputs (h : ∀ x, c ≠ .inputSample x) (x : Held) : (x.linkless.unowned c).inputs = x.inputs := by
  cases c
  case powerOn => exact absurd rfl (hp _)
  case inputSample => exact absurd rfl (h _)
  all_goals rfl

theorem unowned_recognizers (h : ∀ x, c ≠ .inputSample x) (x : Held) : (x.linkless.unowned c).recognizers = x.recognizers := by
  cases c
  case powerOn => exact absurd rfl (hp _)
  case inputSample => exact absurd rfl (h _)
  all_goals rfl

theorem unowned_bounds (h : ∀ p x, c ≠ .setRegions p x) (x : Held) :
    ((x.linkless.unowned c).size.1, (x.linkless.unowned c).size.2.1) = (x.size.1, x.size.2.1) := by
  cases c
  case powerOn => exact absurd rfl (hp _)
  case setRegions => exact absurd rfl (h _ _)
  all_goals rfl

theorem unowned_zoneCount (h1 : ∀ x, c ≠ .inputSample x) (h2 : ∀ p x, c ≠ .zoneReset p x) (x : Held) :
    (x.linkless.unowned c).zoneCount = x.zoneCount := by
  cases c
  case powerOn => exact absurd rfl (hp _)
  case inputSample => exact absurd rfl (h1 _)
  case zoneReset => exact absurd rfl (h2 _ _)
  all_goals rfl

end

/-- What a projection that a command does not own reads before it and after it. -/
theorem kept_of_unowned {α : Type} {c : Instr} {s t : State} (π : Held → α) (h : exec c s = .next t)
    (own : ∀ x : Held, π (x.linkless.unowned c) = π x) : π (held t) = π (held s) := by
  rw [← own, unowned_of_exec h, own]

/-- Settles O14: a command that does not own a setting leaves it. -/
theorem settingsKept : Obligations.SettingsKept := by
  unfold Obligations.SettingsKept
  intro c s t h hp
  refine ⟨fun h1 => kept_of_unowned Held.params h (unowned_params hp h1),
    fun h1 h2 => kept_of_unowned Held.mode h (unowned_mode hp h1 h2), fun h1 => ?_, fun q => ?_⟩
  · have size := kept_of_unowned (fun x => (x.size.1, x.size.2.1)) h (unowned_bounds hp h1)
    exact ⟨congrArg Prod.fst size, congrArg Prod.snd size⟩
  · have straps := kept_of_unowned Held.straps h (unowned_straps hp)
    have enables := fun h1 => kept_of_unowned Held.enables h (unowned_enables hp h1)
    cases q
    · exact ⟨congrArg (·.1.1) straps, congrArg (·.1.2) straps, fun h1 => congrArg (·.1) (enables h1)⟩
    · exact ⟨congrArg (·.2.1) straps, congrArg (·.2.2) straps, fun h1 => congrArg (·.2) (enables h1)⟩

/-- Settles O15: a command that does not own a part of the field's state leaves it. -/
theorem fieldStateKept : Obligations.FieldStateKept := by
  unfold Obligations.FieldStateKept
  intro c s t h hp
  refine ⟨fun h1 h2 h3 h4 h5 h6 h7 => ?_, fun h1 h2 h3 => ?_,
    fun h1 => kept_of_unowned Held.inputs h (unowned_inputs hp h1),
    fun h1 => kept_of_unowned Held.recognizers h (unowned_recognizers hp h1),
    fun h1 h2 => kept_of_unowned Held.zoneCount h (unowned_zoneCount hp h1 h2)⟩
  · have face := kept_of_unowned Held.face h (unowned_face hp h1 h2 h3 h4 h5 h6 h7)
    exact ⟨congrArg (·.1) face, congrArg (·.2.1) face, congrArg (·.2.2.1) face, congrArg (·.2.2.2.1) face,
      congrArg (·.2.2.2.2.1) face, congrArg (·.2.2.2.2.2.1) face, congrArg (·.2.2.2.2.2.2) face⟩
  · have levels := kept_of_unowned Held.levels h (unowned_levels hp h1 h2 h3)
    exact ⟨congrArg (·.1) levels, congrArg (·.2.1) levels, congrArg (·.2.2.1) levels, congrArg (·.2.2.2.1) levels⟩

/-! ## Every step answers -/

theorem advance_of_table {n : Nat} {T : Timer → Timer} (hr : ∀ k l, T (.running k l) = .running (min (k + n) l) l)
    (hp : ∀ k l, T (.paused k l) = .paused k l) (ho : ∀ k, T (.over k) = .over (k + n)) (hs : T .stopped = .stopped) :
    T = Timer.advance n := by
  funext t
  match t with
  | .running k l => exact hr k l
  | .paused k l => exact hp k l
  | .over k => exact ho k
  | .stopped => exact hs

theorem count_advance (n : Nat) : WarningCount.advance n = fun c =>
    if c.status = .running then { c with counted := min (c.counted + n) (if c.doubled then 2 * c.base else c.base) }
    else c := by
  funext c
  unfold WarningCount.advance
  cases hc : c.status <;> simp [WarningCount.required]

/-- On an empty queue with no expiry due a step is the passing of a millisecond. -/
theorem step_of_none {s : State} (hq : s.pending = []) (hd : dueCommands s = []) : step s = .next (elapse 1 s) := by
  simp [step, hq, idle, hd]

theorem step_of_one {s : State} {c : Instr} (hq : s.pending = []) (hd : dueCommands s = [c]) : step s = exec c s := by
  simp [step, hq, idle, hd]

theorem step_of_several {s : State} (hq : s.pending = []) (hd : 2 ≤ (dueCommands s).length) :
    ∃ c ∈ dueCommands s, step s = exec c { s with freeCount := s.freeCount + 1 } := by
  match hl : dueCommands s, hd with
  | c :: d :: rest, _ =>
    have bound : Config.dueChoice s.freeCount % ((d :: rest).length + 1) < (c :: d :: rest).length :=
      Nat.mod_lt _ (Nat.succ_pos _)
    refine ⟨(c :: d :: rest).getD (Config.dueChoice s.freeCount % ((d :: rest).length + 1)) c, ?_, ?_⟩
    · rw [List.getD_eq_getElem _ _ bound]
      exact List.getElem_mem _
    · simp only [step, hq, idle, hl]

/-- Settles O2: every command answers, an empty queue waits for the next expiry, and time advances every timer. -/
theorem everyStepAnswers : Obligations.EveryStepAnswers := by
  unfold Obligations.EveryStepAnswers
  refine ⟨fun c s => ?_, fun s hq => ⟨step_of_none hq, fun c hd => step_of_one hq hd, step_of_several hq⟩,
    fun n T s hr hp ho hs => ?_⟩
  · obtain ⟨t, ht, kept⟩ := exec_held c s
    refine ⟨t, ht, ?_⟩
    have pending := congrArg Held.pending kept
    rwa [unowned_pending, unowned_pending] at pending
  · obtain rfl := advance_of_table hr hp ho hs
    simp only [elapse, Guard.advance, ApproachRecord.advance, count_advance]
    rfl

end Sys2Proof.Machine
end

section
/-!
O13: the ranges of the clock, the zone count and the table's size, and a response at every BUSY port.
-/

namespace Sys2Proof.Machine

/-! ## What holds after every command holds after every step -/

/-- A predicate that the queue and the count of free choices do not enter, that a millisecond keeps and that every command
keeps, is kept by every step. -/
theorem step_keeps {I : State → Prop} (plain : ∀ s q n, I s → I { s with pending := q, freeCount := n })
    (waits : ∀ s, I s → I (elapse 1 s)) (acts : ∀ c s t, exec c s = .next t → I s → I t) {s t : State}
    (h : step s = .next t) (hs : I s) : I t := by
  match hq : s.pending with
  | c :: rest =>
    simp only [step, hq] at h
    exact acts c _ t h (plain s rest s.freeCount hs)
  | [] =>
    match hd : dueCommands s with
    | [] =>
      obtain rfl : elapse 1 s = t := by simpa [step_of_none hq hd] using h
      exact waits s hs
    | [c] => exact acts c s t (step_of_one hq hd ▸ h) hs
    | c :: d :: rest =>
      obtain ⟨x, -, hx⟩ := step_of_several hq (s := s) (by simp [hd])
      exact acts x _ t (hx ▸ h) (plain s s.pending (s.freeCount + 1) hs)

/-- A predicate about `held` that every command leaves it by what it does not own is kept by a request whose owner keeps
it. -/
theorem request_keeps {I : State → Prop} (port : ∀ p r s, I s → I (setPort p r s)) {owner : State → State × Answer}
    (own : ∀ s, I s → I (owner s).1) {p : Port} {row : CatalogueRow} {payload : List Byte} {s : State} (hs : I s) :
    I (request p row payload owner s) :=
  request_cases (P := I) p row payload owner s hs (port _ _ _ hs) (fun _ => port _ _ _ (port _ _ _ hs))
    (port _ _ _ (own _ (port _ _ _ hs)))

theorem expire_keeps {I : State → Prop} (waits : ∀ n s, I s → I (elapse n s)) {act : State → State}
    (acts : ∀ s, I s → I (act s)) {t : Timer} {s : State} (hs : I s) : I (expire t act s) := by
  cases t
  case running k l => exact acts _ (waits _ _ hs)
  all_goals exact hs

/-! ## The clock's range -/

theorem inRange_of_face {s t : State} (h : (held t).face = (held s).face) : ClockInRange s → ClockInRange t := by
  intro ⟨hm, hs⟩
  exact ⟨(congrArg (·.1) h).trans_lt hm, (congrArg (·.2.1) h).trans_lt hs⟩

theorem inRange_of_outer {s t : State} (h : outer t = outer s) : ClockInRange s → ClockInRange t :=
  inRange_of_face (congrArg Held.face (held_of_outer h))

theorem inRange_settle {s : State} : ClockInRange s → ClockInRange (settle s) := inRange_of_outer (outer_settle s)

theorem inRange_advanceMinute (s : State) : ClockInRange (advanceMinute s) :=
  inRange_of_outer (outer_minuteEvent _)
    ⟨Nat.mod_lt (s.clock.minute + 1) (by decide : 0 < Config.dayMinutes), (by decide : 0 < 60)⟩

theorem inRange_secondStep {s : State} (h : ClockInRange s) : ClockInRange (secondStep s) := by
  unfold secondStep
  split
  · exact inRange_advanceMinute s
  · next hlt => exact ⟨h.1, show s.clock.seconds + 1 < 60 by omega⟩

theorem inRange_loseLock {s : State} (h : ClockInRange s) : ClockInRange (loseLock s) :=
  inRange_secondStep (s := raiseControl _ (mapClock _ s)) h

theorem inRange_oscillatorStep {s : State} (h : ClockInRange s) : ClockInRange (oscillatorStep s) :=
  inRange_secondStep (s := mapClock _ s) h

theorem inRange_minuteMark {s : State} (h : ClockInRange s) : ClockInRange (minuteMark s) := by
  unfold minuteMark
  dsimp only
  split
  · exact h
  · split
    · exact ⟨h.1, show 0 < 60 by decide⟩
    · exact inRange_advanceMinute _

theorem inRange_relock {s : State} (h : ClockInRange s) : ClockInRange (relock s) := by
  unfold relock
  dsimp only
  generalize hu : mapClock _ s = u
  have set : ClockInRange u := hu ▸ h
  have stepped := inRange_secondStep set
  split
  · split <;> assumption
  · split <;> assumption

theorem inRange_actOnPulse {s : State} (inWindow : Bool) (h : ClockInRange s) :
    ClockInRange (actOnPulse inWindow s) := by
  unfold actOnPulse
  split
  · exact inRange_secondStep (s := mapClock _ s) h
  · split
    · exact h
    · split
      · exact inRange_relock h
      · exact h

theorem inRange_pulseEdge {s : State} (h : ClockInRange s) : ClockInRange (pulseEdge s) := by
  unfold pulseEdge
  split
  · exact inRange_actOnPulse (s := takePulse s) _ h
  · split
    · exact h
    · exact inRange_actOnPulse (s := takePulse s) _ h

theorem inRange_clockTimers {ms : Nat} {s t : State} {x : Timer × (State → State)} (hx : x ∈ clockTimers ms s)
    (h : ClockInRange t) : ClockInRange (x.2 t) := by
  have cases : x.2 = minuteMark ∨ x.2 = oscillatorStep ∨ x.2 = loseLock := by
    unfold clockTimers at hx
    split at hx <;> simp at hx
    · obtain rfl | rfl := hx <;> simp
    · obtain rfl | rfl | rfl := hx <;> simp
  obtain e | e | e := cases <;> rw [e]
  · exact inRange_minuteMark h
  · exact inRange_oscillatorStep h
  · exact inRange_loseLock h

/-- An expiry of the clock is nothing, or one of the clock's expiries, the count of free choices aside. -/
theorem clockExpiry_cases (ms : Nat) (s : State) :
    clockExpiry ms s = s ∨ ∃ x ∈ clockTimers ms s, ∃ n, clockExpiry ms s = x.2 { s with freeCount := n } := by
  have member : ∀ x ∈ (clockTimers ms s).filter (fun x => x.1.expired), x ∈ clockTimers ms s :=
    fun x hx => (List.mem_filter.mp hx).1
  unfold clockExpiry
  split
  · exact .inl rfl
  · rename_i x hx
    exact .inr ⟨x, member x (by simp [hx]), s.freeCount, rfl⟩
  · rename_i x rest _ hx
    rw [hx] at member
    refine .inr ⟨_, member _ ?_, _, rfl⟩
    rw [List.getD_eq_getElem _ _ (by simpa using Nat.mod_lt _ (Nat.succ_pos _))]
    exact List.getElem_mem _

theorem inRange_clockExpiry {ms : Nat} {s : State} (h : ClockInRange s) : ClockInRange (clockExpiry ms s) := by
  obtain e | ⟨x, hx, n, e⟩ := clockExpiry_cases ms s <;> rw [e]
  · exact h
  · exact inRange_clockTimers (t := { s with freeCount := n }) hx h

theorem inRange_runClock (n ms : Nat) {s : State} (h : ClockInRange s) : ClockInRange (runClock n ms s) := by
  induction n generalizing ms s with
  | zero => exact h
  | succ n ih =>
    unfold runClock
    split
    · exact h
    · split
      · exact h
      · exact ih _ (inRange_settle (inRange_clockExpiry (s := elapse _ s) h))

theorem inRange_ownSetTime (p : List Byte) {s : State} (h : ClockInRange s) : ClockInRange (ownSetTime p s).1 := by
  unfold ownSetTime
  dsimp only
  split
  · exact h
  · next hin =>
    simp only [Bool.or_eq_true, decide_eq_true_eq, not_or, Nat.not_le] at hin
    have set : ClockInRange (setClock (wordAt p 0) (byteAt p 2) s) := ⟨hin.1.1, hin.1.2⟩
    split
    · exact inRange_of_outer (by simp [withDueEvent]) set
    · split
      · exact set
      · split
        · exact set
        · exact inRange_of_outer (by simp [withDueEvent, forwardTable, outer_visitMinutes]) set

theorem inRange_ownClockStatus (p : List Byte) {s : State} (h : ClockInRange s) :
    ClockInRange (ownClockStatus p s).1 := by
  unfold ownClockStatus
  dsimp only
  (repeat' split) <;> exact h

/-- The clock stays in range at every command. -/
theorem exec_keeps_inRange (c : Instr) (s t : State) (h : exec c s = .next t) (hs : ClockInRange s) :
    ClockInRange t := by
  cases c
  case powerOn x =>
    obtain rfl : powerOn x s = t := by simpa [exec, execPowerOn] using h
    exact ⟨show 0 < 1440 by decide, show 0 < 60 by decide⟩
  case timePulseLeadingEdge ms =>
    obtain rfl : settle (pulseEdge (runClock (clockFuel ms) ms s)) = t := by
      simpa [exec, execTimePulseLeadingEdge] using h
    exact inRange_settle (inRange_pulseEdge (inRange_runClock _ _ hs))
  case secondMark =>
    simp only [exec, execSecondMark] at h
    split at h <;> exact Host.Outcome.next.inj h ▸ hs
  case minuteMarkCorrection =>
    exact Host.Outcome.next.inj h ▸ expire_keeps (fun _ _ h => h) (fun s h => inRange_settle (inRange_minuteMark h)) hs
  case supervisionTimerExpiry =>
    exact Host.Outcome.next.inj h ▸ expire_keeps (fun _ _ h => h) (fun s h => inRange_settle (inRange_loseLock h)) hs
  case oscillatorStep =>
    exact Host.Outcome.next.inj h ▸ expire_keeps (fun _ _ h => h) (fun s h => inRange_settle (inRange_oscillatorStep h)) hs
  case setTime p x =>
    exact Host.Outcome.next.inj h ▸ request_keeps (I := ClockInRange) (fun _ _ _ h => h) (fun s => inRange_ownSetTime x) hs
  case clockStatus p x =>
    exact Host.Outcome.next.inj h ▸ request_keeps (I := ClockInRange) (fun _ _ _ h => h) (fun s => inRange_ownClockStatus x) hs
  all_goals exact inRange_of_face (kept_of_unowned Held.face h (fun _ => rfl)) hs

/-! ## The zone count -/

theorem zoneBounded_of_count {s t : State} (h : (held t).zoneCount = (held s).zoneCount) :
    ZoneBounded s → ZoneBounded t := fun hs => (show t.channel.zoneCount = s.channel.zoneCount from h).trans_le hs

theorem zoneBounded_of_outer {s t : State} (h : outer t = outer s) : ZoneBounded s → ZoneBounded t :=
  zoneBounded_of_count (congrArg Outer.zoneCount h)

theorem zoneBounded_countEnter {s : State} (h : ZoneBounded s) : ZoneBounded (countEnter s) := by
  unfold countEnter
  split
  · next hlt => exact (show s.channel.zoneCount + 1 ≤ 8 from hlt)
  · exact h

theorem zoneBounded_countExit {s : State} (h : ZoneBounded s) : ZoneBounded (countExit s) := by
  unfold countExit
  split
  · exact h
  · exact (Nat.sub_le s.channel.zoneCount 1).trans h

theorem zoneBounded_edgeSample (before now : RawInputs) (e : Edge) {s : State} (h : ZoneBounded s) :
    ZoneBounded (edgeSample before now e s) :=
  edgeSample_keeps (fun _ => h) (fun _ h => h)
    (fun d t h => zoneBounded_of_outer (outer_enterCrossing d t) (zoneBounded_countEnter h))
    (fun t h => zoneBounded_of_outer (outer_exitCrossing e t) (zoneBounded_countExit h))
    (fun d t h => zoneBounded_of_outer (outer_approachCleared d t) h)

theorem zoneBounded_inputSample (raw : RawInputs) {s : State} (h : ZoneBounded s) : ZoneBounded (inputSample raw s) :=
  inputSample_keeps (P := ZoneBounded) h (fun t => zoneBounded_of_outer (outer_sampleBolts t))
    (fun t => zoneBounded_of_outer (outer_followSecure t)) (fun _ t => zoneBounded_of_outer (outer_sampleArms _ t))
    (fun t => zoneBounded_of_outer (outer_firstPhases t)) (fun _ _ t => zoneBounded_of_outer (outer_deckSample _ _ t))
    (fun x y e _ => zoneBounded_edgeSample x y e) (fun t => zoneBounded_of_outer (outer_demandHalt t))

theorem zoneBounded_ownZoneReset {s : State} (h : ZoneBounded s) : ZoneBounded (ownZoneReset s).1 := by
  unfold ownZoneReset
  split
  · exact zoneBounded_of_outer (outer_settle _) (Nat.zero_le 8)
  · exact h

/-- The zone count stays within its bounds at every command. -/
theorem exec_keeps_zoneBounded (c : Instr) (s t : State) (h : exec c s = .next t) (hs : ZoneBounded s) :
    ZoneBounded t := by
  cases c
  case powerOn x =>
    exact Host.Outcome.next.inj h ▸ Nat.zero_le 8
  case inputSample raw =>
    exact Host.Outcome.next.inj h ▸ zoneBounded_of_outer (outer_settle _) (zoneBounded_inputSample raw hs)
  case zoneReset p x =>
    exact Host.Outcome.next.inj h ▸ request_keeps (I := ZoneBounded) (fun _ _ _ h => h)
      (fun s => zoneBounded_ownZoneReset) hs
  all_goals exact zoneBounded_of_count (kept_of_unowned Held.zoneCount h (fun _ => rfl)) hs

/-! ## The table's shape -/

theorem shaped_of_size {s t : State} (h : (held t).size = (held s).size) : TableShaped s → TableShaped t := by
  intro hs
  obtain ⟨htb, hqb, he, hg⟩ : t.table.tb = s.table.tb ∧ t.table.qb = s.table.qb ∧
      t.table.entries.length = s.table.entries.length ∧ t.table.generations.length = s.table.generations.length :=
    ⟨congrArg (·.1) h, congrArg (·.2.1) h, congrArg (·.2.2.1) h, congrArg (·.2.2.2) h⟩
  rwa [TableShaped, htb, hqb, he, hg]

theorem shaped_of_outer {s t : State} (h : outer t = outer s) : TableShaped s → TableShaped t :=
  shaped_of_size (congrArg Outer.tableSize h)

theorem shaped_ownSetRegions (p : List Byte) {s : State} (h : TableShaped s) : TableShaped (ownSetRegions p s).1 := by
  unfold ownSetRegions
  dsimp only
  split
  · exact h
  · next hin =>
    simp only [Bool.or_eq_true, decide_eq_true_eq, not_or, Int.not_lt] at hin
    obtain ⟨⟨⟨htb, -⟩, hqb⟩, hend⟩ := hin
    split
    · exact shaped_of_outer (by simp) h
    · refine shaped_of_outer (outer_settle _) ?_
      obtain ⟨he, hg, -⟩ := shaped_of_outer (outer_verifyEntries _ s) h
      exact ⟨he, hg, Int.toNat_le_toNat hqb, Int.toNat_le.mpr hend⟩

theorem shaped_ownClearTable {s : State} (h : TableShaped s) : TableShaped (ownClearTable s).1 := by
  refine shaped_of_outer (t := (ownClearTable s).1) (s := mapTable clearedTable s) (by simp [ownClearTable]) ?_
  exact ⟨rfl, rfl, h.2.2⟩

/-- The table keeps its shape at every command. -/
theorem exec_keeps_shaped (c : Instr) (s t : State) (h : exec c s = .next t) (hs : TableShaped s) : TableShaped t := by
  cases c
  case powerOn x =>
    exact Host.Outcome.next.inj h ▸ ⟨rfl, rfl, show 8 ≤ 40 by decide, show 40 ≤ 64 by decide⟩
  case setRegions p x =>
    exact Host.Outcome.next.inj h ▸ request_keeps (I := TableShaped) (fun _ _ _ h => h)
      (fun s => shaped_ownSetRegions x) hs
  case clearTable p x =>
    exact Host.Outcome.next.inj h ▸ request_keeps (I := TableShaped) (fun _ _ _ h => h)
      (fun s => shaped_ownClearTable) hs
  all_goals exact shaped_of_size (kept_of_unowned Held.size h (fun _ => rfl)) hs

/-! ## A response at every BUSY port -/

theorem busy_of_links {s t : State} (h : (held t).links = (held s).links) : BusyAnswers s → BusyAnswers t := by
  intro hs p
  have same : (t.ports.get p).receiver = (s.ports.get p).receiver ∧
      (t.ports.get p).response = (s.ports.get p).response := by
    cases p
    · exact ⟨congrArg (·.1.1) h, congrArg (·.1.2) h⟩
    · exact ⟨congrArg (·.2.1) h, congrArg (·.2.2) h⟩
  rw [same.1, same.2]
  exact hs p

/-- A new record of a port that is not BUSY, or has a response. -/
theorem busy_setPort {p : Port} {r : PortRecord} {s : State} (hr : r.receiver = .busy → r.response.isSome = true)
    (others : ∀ q, q ≠ p → (s.ports.get q).receiver = .busy → (s.ports.get q).response.isSome = true) :
    BusyAnswers (setPort p r s) := by
  intro q
  by_cases hq : q = p
  · subst hq
    rwa [setPort, PerPort.get_set]
  · rw [setPort, PerPort.get_set_ne _ _ hq]
    exact others q hq

theorem busy_respond {p : Port} {code : Nat} {a : Answer} {s : State}
    (others : ∀ q, q ≠ p → (s.ports.get q).receiver = .busy → (s.ports.get q).response.isSome = true) :
    BusyAnswers (respond p code a s) :=
  busy_setPort (fun _ => rfl) others

theorem busy_discardFrame {p : Port} {s : State} (h : BusyAnswers s) : BusyAnswers (discardFrame p s) :=
  busy_setPort (fun hb => nomatch hb) fun q _ => h q

/-- What an owner leaves of the other ports' traffic is what it found. -/
theorem busy_request {p : Port} {row : CatalogueRow} {payload : List Byte} {owner : State → State × Answer} {s : State}
    (own : ∀ t, (held (owner t).1).links = (held t).links) (h : BusyAnswers s) :
    BusyAnswers (request p row payload owner s) := by
  have other : ∀ t, t = takeFrame p (BitVec.ofNat 8 row.code :: payload) s → ∀ q, q ≠ p →
      (t.ports.get q).receiver = .busy → (t.ports.get q).response.isSome = true := by
    rintro t rfl q hq
    rw [takeFrame, setPort, PerPort.get_set_ne _ _ hq]
    exact h q
  refine request_cases (P := BusyAnswers) p row payload owner s h (busy_discardFrame h)
    (fun _ => busy_respond (other _ rfl)) (busy_respond ?_)
  intro q hq
  have same := own (takeFrame p (BitVec.ofNat 8 row.code :: payload) s)
  cases q
  · have receiver := congrArg (·.1.1) same
    have response := congrArg (·.1.2) same
    exact fun hb => (congrArg Option.isSome response).trans (other _ rfl .control hq (receiver.symm.trans hb))
  · have receiver := congrArg (·.2.1) same
    have response := congrArg (·.2.2) same
    exact fun hb => (congrArg Option.isSome response).trans (other _ rfl .harbour hq (receiver.symm.trans hb))

theorem busy_addressMark (p : Port) (value : Byte) {s : State} (h : BusyAnswers s) :
    BusyAnswers (addressMark p value s) := by
  unfold addressMark
  dsimp only
  (repeat' split)
  · exact h
  · exact busy_setPort (fun hb => nomatch hb) fun q _ => h q
  · exact busy_setPort (fun hb => nomatch hb) fun q _ => h q

/-- The events of a line keep a response at every BUSY port. -/
theorem line_keeps_busy {c : Instr} (hl : ofLine c = true) {s t : State} (h : exec c s = .next t)
    (hs : BusyAnswers s) : BusyAnswers t := by
  cases c <;> cases hl <;> obtain rfl := Host.Outcome.next.inj h
  case lineBreak p => exact busy_discardFrame hs
  case frameDiscarded p x =>
    unfold frameDiscarded
    dsimp only
    (repeat' split) <;> first | exact hs | exact busy_discardFrame hs | skip
    exact busy_addressMark _ _ (busy_discardFrame hs)
  case unknownRequest p k q =>
    unfold unknownRequest
    (repeat' split)
    · exact hs
    · exact busy_discardFrame hs
    · refine busy_respond fun q hq => ?_
      rw [takeFrame, setPort, PerPort.get_set_ne _ _ hq]
      exact hs q
  case responseSent p =>
    unfold responseSent
    dsimp only
    split
    · exact hs
    · refine busy_setPort (fun hb => ?_) fun q _ => hs q
      dsimp only at hb
      split at hb
      · exact nomatch hb
      · next hr => exact absurd hb (by simpa using hr)
  case addressMark p v => exact busy_addressMark p v hs

/-- Every BUSY port has a response after every command. -/
theorem exec_keeps_busy (c : Instr) (s t : State) (h : exec c s = .next t) (hs : BusyAnswers s) : BusyAnswers t := by
  match hr : requestRow c with
  | some (p, row) =>
    obtain ⟨payload, hp⟩ := payload_of_row hr
    obtain ⟨owner, run, own⟩ := exec_request hr hp
    rw [run] at h
    refine Host.Outcome.next.inj h ▸ busy_request (fun u => ?_) hs
    have links := congrArg Held.links (own u)
    cases c
    case powerOn => exact nomatch hr
    all_goals exact links
  | none =>
    match hl : ofLine c with
    | false =>
      obtain ⟨u, run, kept⟩ := exec_event hr hl s
      obtain rfl : u = t := by simpa using run.symm.trans h
      by_cases hp : ∃ x, c = .powerOn x
      · obtain ⟨x, rfl⟩ := hp
        obtain rfl := Host.Outcome.next.inj h
        intro p hb
        cases p <;> exact nomatch hb
      · have links := congrArg Held.links kept
        refine busy_of_links ?_ hs
        cases c
        case powerOn x => exact absurd ⟨x, rfl⟩ hp
        all_goals exact links
    | true => exact line_keeps_busy hl h hs

/-- Settles O13: each of the four holds after every step where it held before it. -/
theorem boundsKept : Obligations.BoundsKept := by
  unfold Obligations.BoundsKept
  intro s t h
  exact ⟨step_keeps (fun _ _ _ h => h) (fun _ h => h) exec_keeps_inRange h,
    step_keeps (fun _ _ _ h => h) (fun _ h => h) exec_keeps_zoneBounded h,
    step_keeps (fun _ _ _ h => h) (fun _ h => h) exec_keeps_shaped h,
    step_keeps (fun _ _ _ h => h) (fun _ h => h) exec_keeps_busy h⟩

end Sys2Proof.Machine
end

section
/-!
O4, O7: power-on. O3, O5: the decoding of requests, the receivers and the frames of the responses.
-/

namespace Sys2Proof.Machine

/-! ## Power-on -/

theorem entryAt_reset {t : State} (h : t.table = Table.reset) (i : Nat) : entryAt t i = Entry.vacant := by
  unfold entryAt
  rw [h]
  rcases Nat.lt_or_ge i 64 with hi | hi
  · exact List.getD_replicate _ hi
  · exact List.getD_eq_default _ _ hi

theorem generationAt_reset {t : State} (h : t.table = Table.reset) (i : Nat) : (generationAt t i).value = 0 := by
  unfold generationAt
  rw [h]
  rcases Nat.lt_or_ge i 64 with hi | hi
  · rw [show Table.reset.generations.getD i _ = _ from List.getD_replicate _ hi]
  · rw [show Table.reset.generations.getD i _ = _ from List.getD_eq_default _ _ hi]

theorem attentionLine_of_empty {s : State} {p : Port} (h : (s.ports.get p).attention = 0) :
    attentionLine s p = false := by
  simp [attentionLine, h]

/-- Every source of the control port is enabled at power-on, and of the harbour port the seven it has. -/
theorem getLsbD_resetEnable (p : Port) (k : Nat) :
    (match p with | .control => PortRecord.resetControl.enable | .harbour => PortRecord.resetHarbour.enable).getLsbD k =
      decide (k < match p with | .control => 24 | .harbour => 7) := by
  cases p
  · exact BitVec.getLsbD_allOnes (v := 24)
  · rw [show PortRecord.resetHarbour.enable = (BitVec.allOnes 7).setWidth 24 from rfl, BitVec.getLsbD_setWidth,
      BitVec.getLsbD_allOnes]
    by_cases h : k < 7
    · simp [h, show k < 24 by omega]
    · simp [h]

/-- Settles O4: power-on takes the reset values, the straps and the encoder levels. -/
theorem powerOnState : Obligations.PowerOnState := by
  unfold Obligations.PowerOnState
  intro x s
  refine ⟨powerOn x s, rfl, rfl, rfl, rfl, rfl, rfl,
    ⟨rfl, rfl, rfl, rfl, rfl, rfl, rfl, rfl, fun i _ => ⟨congrArg Entry.state (entryAt_reset rfl i),
      generationAt_reset rfl i⟩⟩, ⟨rfl, rfl, rfl, rfl, rfl, rfl⟩, rfl, rfl, fun h => ⟨?_, fun l => ?_⟩, fun a => ?_,
    fun a => ?_, fun d => ?_, rfl, rfl, rfl, fun k => ?_, fun b => ?_, rfl, rfl, rfl, fun p => ?_⟩
  · cases h <;> rfl
  · cases h <;> cases l <;> rfl
  · cases a <;> rfl
  · cases a <;> rfl
  · cases d <;> rfl
  · cases k <;> rfl
  · cases b <;> rfl
  · cases p
    · exact ⟨rfl, rfl, rfl, rfl, rfl, rfl, attentionLine_of_empty rfl, getLsbD_resetEnable .control⟩
    · exact ⟨rfl, rfl, rfl, rfl, rfl, rfl, attentionLine_of_empty rfl, getLsbD_resetEnable .harbour⟩

theorem listsOrdered_reset : ListsOrdered State.reset := by
  have vacant : ∀ i, (entryAt State.reset i).state = .vacant := fun i => congrArg Entry.state (entryAt_reset rfl i)
  refine ⟨⟨rfl, rfl, by decide, by decide⟩, List.nodup_nil, List.nodup_nil, fun i => ?_, fun i => ?_, List.Pairwise.nil,
    fun i _ h => ?_⟩
  · rw [vacant]
    exact ⟨fun h => absurd h List.not_mem_nil, fun ⟨_, h⟩ => nomatch h⟩
  · rw [vacant]
    exact ⟨fun h => absurd h List.not_mem_nil, fun ⟨_, _, h⟩ => absurd rfl h⟩
  · rw [vacant] at h
    exact h.elim (fun h => nomatch h) (fun h => nomatch h)

theorem slotsMatched_reset : SlotsMatched State.reset := by
  refine ⟨⟨rfl, rfl, by decide, by decide⟩, fun i _ h => ?_, fun o h => nomatch h⟩
  rw [congrArg Entry.state (entryAt_reset (t := State.reset) rfl i)] at h
  exact nomatch h

/-- Settles O7: every invariant holds at reset. -/
theorem invariantsHoldAtReset : Obligations.InvariantsHoldAtReset := by
  unfold Obligations.InvariantsHoldAtReset
  refine ⟨fun h => (nomatch h.1), ⟨rfl, rfl, fun _ => rfl⟩, ⟨rfl, ⟨fun _ => rfl, fun _ => rfl⟩, fun _ => rfl, fun v h => (nomatch h)⟩,
    ⟨by decide, by decide⟩, Nat.zero_le 8, ⟨rfl, rfl, by decide, by decide⟩, fun p hb => ?_, fun ⟨k, h⟩ => ?_,
    listsOrdered_reset, slotsMatched_reset⟩
  · cases p <;> exact nomatch hb
  · cases k <;> exact h.elim (fun h => nomatch h) (fun h => absurd rfl h)

/-! ## The decoding of requests -/

theorem payload_length_of_decoded {c : Instr} {s : State} (hd : decoded c s = true) {p : Port} {row : CatalogueRow}
    (hr : requestRow c = some (p, row)) : row.length ≤ 17 := by
  cases c <;> cases hr <;> first | decide | (cases p <;> decide)

/-- A catalogued code is one of 1 to 51 (R215). -/
theorem cataloguedCode_of_row {c : Instr} {p : Port} {row : CatalogueRow} (hr : requestRow c = some (p, row)) :
    cataloguedCode (BitVec.ofNat 8 row.code) = true := by
  cases c <;> cases hr <;> rfl

/-- A request that a check of R212 refuses is answered so and does nothing else. -/
theorem exec_refused {c : Instr} {p : Port} {row : CatalogueRow} {payload : List Byte} {s : State} {x : Status}
    (hr : requestRow c = some (p, row)) (hp : c.requestPayload = some payload) (hf : portFree s p = true)
    (hl : payload.length ≤ 249) (hd : decodeRefusal row p payload s.mode = some x) :
    exec c s = .next (answered p row.code x [] (taken p row.code payload s)) := by
  obtain ⟨owner, run, -⟩ := exec_request hr hp
  rw [run, request_refused p row payload owner s x hf hl hd]
  rfl

/-- Settles O3: the checks of R212 in their order, then the owner's answer. -/
theorem requestDecoding : Obligations.RequestDecoding := by
  unfold Obligations.RequestDecoding
  refine ⟨fun p code payload s hf hl hc => ?_, fun c p row payload s hr hp hf hl =>
    ⟨cataloguedCode_of_row hr, fun hh => ?_, fun hh hlen => ?_, fun hh hlen hm => ?_, fun hd => ?_⟩⟩
  · have fits : ¬ payloadLimit < payload.length := Nat.not_lt.mpr hl
    have known : BitVec.ofNat 8 code.toNat = code := by simp
    simp [exec, execUnknownRequest, unknownRequest, hc, hf, fits, answered, taken, refuse, known]
  · exact exec_refused hr hp hf hl (by simp [decodeRefusal, hh])
  · exact exec_refused hr hp hf hl (by simp [decodeRefusal, hh, hlen])
  · exact exec_refused hr hp hf hl (by simp [decodeRefusal, hh, hlen, hm])
  · obtain ⟨owner, run, -⟩ := exec_request hr hp
    have short : row.length ≤ payloadLimit := (payload_length_of_decoded hd hr).trans (by decide)
    exact ⟨_, _, _, by rw [run, request_of_decoded owner hr hp hd short]⟩

/-! ## The receivers -/

theorem port_setPort (p : Port) (r : PortRecord) (s : State) :
    setPort p r s = { s with ports := (setPort p r s).ports } ∧
      (∀ q, q ≠ p → (setPort p r s).ports.get q = s.ports.get q) ∧ (setPort p r s).ports.get p = r :=
  ⟨rfl, fun _ hq => PerPort.get_set_ne _ _ hq, PerPort.get_set _ _ _⟩

theorem portFree_of_response {s : State} {p : Port} (h : (s.ports.get p).response.isSome = true) :
    portFree s p = false := by
  simp [portFree, h]

theorem addressMark_lost {s : State} {p : Port} (value : Byte) (h : portFree s p = false) :
    addressMark p value s = s := by
  simp [addressMark, h]

theorem exec_request_lost {c : Instr} {p : Port} {row : CatalogueRow} {s : State}
    (hr : requestRow c = some (p, row)) (h : portFree s p = false) : exec c s = .next s := by
  obtain ⟨payload, hp⟩ := payload_of_row hr
  obtain ⟨owner, run, -⟩ := exec_request hr hp
  rw [run, request_lost p row payload owner s h]

theorem unknownRequest_lost {s : State} {p : Port} (code : Byte) (payload : List Byte) (h : portFree s p = false) :
    unknownRequest p code payload s = s := by
  simp [unknownRequest, h]

/-- An address mark names a port's station exactly where their numbers agree. -/
theorem names_station_iff (value : Byte) (station : BitVec 7) :
    value = station.zeroExtend 8 ↔ value.toNat = station.toNat := by
  rw [BitVec.toNat_inj.symm, BitVec.zeroExtend, BitVec.toNat_setWidth, Nat.mod_eq_of_lt (by omega)]

/-- An address mark at a free port (R208). -/
theorem addressMark_free {s : State} {p : Port} (value : Byte) (h : portFree s p = true) :
    addressMark p value s = setPort p { s.ports.get p with
      receiver := if value.toNat = (s.ports.get p).station.toNat then .receiving else .ignoring, buffer := [] } s := by
  simp only [addressMark, h, Bool.not_true, Bool.false_eq_true, if_false, beq_iff_eq, names_station_iff]
  split <;> rfl

theorem receivedCharacter_eq_none_iff (x : Levels) : receivedCharacter x = none ↔ x.getLsbD 10 = false := by
  unfold receivedCharacter
  cases x.getLsbD 10 <;> simp

theorem setPort_setPort (p : Port) (x y : PortRecord) (s : State) : setPort p y (setPort p x s) = setPort p y s := by
  cases p <;> rfl

/-- An early mark discards its frame and is taken as the next address mark (R210). -/
theorem addressMark_discardFrame {s : State} {p : Port} (value : Byte) (hn : (s.ports.get p).response = none) :
    addressMark p value (discardFrame p s) = setPort p { s.ports.get p with
      receiver := if value.toNat = (s.ports.get p).station.toNat then .receiving else .ignoring, buffer := [] } s := by
  have own : (discardFrame p s).ports.get p = { s.ports.get p with receiver := .ignoring, buffer := [] } :=
    PerPort.get_set _ _ _
  have free : portFree (discardFrame p s) p = true := by
    rw [portFree, own, hn]
    rfl
  rw [addressMark_free value free, own, discardFrame, setPort_setPort]

/-- A cause of discard at a port that receives a frame discards it (R210). -/
theorem frameDiscarded_receiving {s : State} {p : Port} {cause : DiscardCause}
    (hr : (s.ports.get p).receiver = .receiving) (hn : (s.ports.get p).response = none) (hw : cause.wf = true)
    (hc : ∀ body high low, cause = .badCheck body high low →
      frameCheck (s.ports.get p).station body ≠ high.zeroExtend 16 <<< 8 ||| low.zeroExtend 16) :
    frameDiscarded p cause s = setPort p { s.ports.get p with
      receiver := (match (generalizing := false) cause with
        | .earlyMark value => if value.toNat = (s.ports.get p).station.toNat then .receiving else .ignoring
        | _ => .ignoring),
      buffer := [] } s := by
  have receives : ¬ ((s.ports.get p).receiver != .receiving || (s.ports.get p).response.isSome) = true := by
    simp [hr, hn]
  refine (if_neg receives).trans ?_
  cases cause with
  | framingError x =>
    simp only [DiscardCause.wf, Bool.and_eq_true, Bool.not_eq_true'] at hw
    exact if_pos (Option.isNone_iff_eq_none.mpr ((receivedCharacter_eq_none_iff x).mpr hw.2))
  | badLength n => exact if_pos hw
  | badCheck body high low => exact if_neg (by simpa using hc body high low rfl)
  | earlyMark value => exact addressMark_discardFrame value hn

/-! ## The characters of the line -/

/-- The levels of a character, place by place (R207). -/
theorem levels_start (c : Character) : c.levels.getLsbD 0 = false := by
  cases h : c.mark <;> simp [Character.levels, h]

theorem levels_data (c : Character) {k : Nat} (hk : k < 8) : c.levels.getLsbD (k + 1) = c.data.getLsbD k := by
  interval_cases k <;> cases h : c.mark <;> simp [Character.levels, h]

theorem levels_mark (c : Character) : c.levels.getLsbD 9 = c.mark := by
  cases h : c.mark <;> simp [Character.levels, h]

theorem levels_stop (c : Character) : c.levels.getLsbD 10 = true := by
  cases h : c.mark <;> simp [Character.levels, h]

/-- The eleven levels of a character in their order (R207). -/
theorem levels_eq (c : Character) : (List.range 11).map (fun k => c.levels.getLsbD k) =
    false :: (List.range 8).map (fun k => c.data.getLsbD k) ++ [c.mark, true] := by
  have data : (List.range 8).map (fun k => c.levels.getLsbD (k + 1)) = (List.range 8).map (fun k => c.data.getLsbD k) :=
    List.map_congr_left fun k hk => levels_data c (List.mem_range.mp hk)
  rw [← data, ← levels_mark c, ← levels_stop c]
  exact congrArg (· :: _) (levels_start c)

/-- A character is read as it was sent. -/
theorem receivedCharacter_levels (c : Character) : receivedCharacter c.levels = some c := by
  have data : ((c.levels >>> 1).truncate 8 : Byte) = c.data := by
    refine BitVec.eq_of_getLsbD_eq fun k hk => ?_
    rw [BitVec.truncate, BitVec.getLsbD_setWidth, BitVec.getLsbD_ushiftRight, Nat.add_comm 1 k, levels_data c hk]
    simp [hk]
  simp only [receivedCharacter, levels_stop, levels_mark, data, if_true]

/-- What a port with a response sends (R208, R213). -/
theorem transmitted_of_response {r : PortRecord} {x : Response} {b : List Byte}
    (hb : b = [BitVec.ofNat 8 (x.payload.length + 2), BitVec.ofNat 8 x.code, BitVec.ofNat 8 x.status.ctorIdx] ++
      x.payload) (h : r.response = some x) :
    transmitted r = { data := r.station.zeroExtend 8, mark := true } ::
      (b ++ put2 (crc16 (r.station.zeroExtend 8 :: b)).toNat).map (fun y => { data := y, mark := false }) := by
  subst hb
  simp [transmitted, h, responseFrame, frameCharacters, frameBuffer, frameCheck, checkBytes]

/-- Settles O5: what each event of a line does to its port, and the characters of a response. -/
theorem receiverAndResponse : Obligations.ReceiverAndResponse := by
  unfold Obligations.ReceiverAndResponse
  refine ⟨fun p s => ?_, fun c p row s hr hf => exec_request_lost hr hf, fun p code payload s hf => ?_,
    fun p value s hf => ?_, fun p value s hf => ?_, fun p cause s hr hn hw hc => ?_, fun p s hs => ?_,
    fun r x b hb => ⟨transmitted_of_response hb, fun h => ?_⟩, fun r => ?_, receivedCharacter_levels,
    receivedCharacter_eq_none_iff, fun b => ?_⟩
  · obtain ⟨rest, others, own⟩ := port_setPort p { s.ports.get p with receiver := .ignoring, buffer := [] } s
    refine ⟨discardFrame p s, rfl, rest, others, own, fun hs => ?_⟩
    have taken : portFree (discardFrame p s) p = false := portFree_of_response (by rw [discardFrame, own]; exact hs)
    exact ⟨fun value => congrArg Host.Outcome.next (addressMark_lost value taken), fun c row hr => exec_request_lost hr taken⟩
  · exact congrArg Host.Outcome.next (unknownRequest_lost code payload hf)
  · exact congrArg Host.Outcome.next (addressMark_lost value hf)
  · exact ⟨_, congrArg Host.Outcome.next (addressMark_free value hf), port_setPort p _ s⟩
  · exact ⟨_, congrArg Host.Outcome.next (frameDiscarded_receiving hr hn hw hc), port_setPort p _ s⟩
  · have gone : (s.ports.get p).response.isNone = false := by
      rw [Option.isNone_eq_false_iff]
      exact hs
    refine ⟨_, congrArg Host.Outcome.next (show responseSent p s = _ from if_neg (by simp [gone])), ?_⟩
    obtain ⟨rest, others, own⟩ := port_setPort p { s.ports.get p with
      response := none,
      receiver := if (s.ports.get p).receiver == .busy then .ignoring else (s.ports.get p).receiver } s
    refine ⟨rest, others, own.trans ?_⟩
    simp only [beq_iff_eq]
  · simp [transmitted, h]
  · exact congrArg (fun f => (transmitted r).flatMap f) (funext levels_eq)
  · cases b <;> rfl

end Sys2Proof.Machine
end

section
/-!
O9: the effective water level is the one R36 gives.
-/

namespace Sys2Proof.Machine

/-- L_eff by its rule, and what goes with the gauge status, from what `held` keeps of the water and the parameters. -/
theorem waterCurrent_iff (s : State) : WaterCurrent s ↔
    s.water.effective = effectiveLevel s.params s.water ∧ (s.water.accepted = none ↔ s.water.gauge = .unread) ∧
      (s.water.gauge = .unread → s.water.staleness.isRunning = false) ∧
      ∀ v, s.water.accepted = some v → -400 ≤ v ∧ v ≤ 1200 := by
  refine and_congr ?_ Iff.rfl
  unfold effectiveLevel
  cases s.water.gauge <;> cases s.water.accepted <;> rfl

/-- What `WaterCurrent` reads. -/
theorem current_of_levels {s t : State} (hl : (held t).levels = (held s).levels)
    (hw : t.params.highWater = s.params.highWater) (hm : t.params.gaugeMargin = s.params.gaugeMargin) :
    WaterCurrent s → WaterCurrent t := by
  have ha : t.water.accepted = s.water.accepted := congrArg (·.1) hl
  have hg : t.water.gauge = s.water.gauge := congrArg (·.2.2.1) hl
  have he : t.water.effective = s.water.effective := congrArg (·.2.2.2.1) hl
  have hr : t.water.staleness.isRunning = s.water.staleness.isRunning := congrArg (·.2.2.2.2) hl
  unfold WaterCurrent
  rw [ha, hg, he, hr, hw, hm]
  exact id

theorem current_of_outer {s t : State} (h : outer t = outer s) : WaterCurrent s → WaterCurrent t :=
  current_of_levels (congrArg (fun o => o.water.levels) h) (congrArg (fun o => o.params.highWater) h)
    (congrArg (fun o => o.params.gaugeMargin) h)

theorem current_setPort (p : Port) (r : PortRecord) (s : State) (h : WaterCurrent s) : WaterCurrent (setPort p r s) := h

theorem current_elapse (n : Nat) (s : State) (h : WaterCurrent s) : WaterCurrent (elapse n s) :=
  current_of_levels (congrArg Held.levels (held_elapse n s)) rfl rfl h

/-- A recomputed L_eff is the one R36 gives. -/
theorem current_recomputeLevel {s : State} (hu : s.water.accepted = none ↔ s.water.gauge = .unread)
    (hr : s.water.gauge = .unread → s.water.staleness.isRunning = false)
    (hv : ∀ v, s.water.accepted = some v → -400 ≤ v ∧ v ≤ 1200) : WaterCurrent (recomputeLevel s) :=
  (waterCurrent_iff _).mpr ⟨rfl, hu, hr, hv⟩

theorem clampReading_bounds (v : Int) : -400 ≤ clampReading v ∧ clampReading v ≤ 1200 := by
  simp only [clampReading, show Config.gaugeMin = -400 from rfl, show Config.gaugeMax = 1200 from rfl]
  omega

theorem current_holdReading (v : Int) {s : State} (h : WaterCurrent s) : WaterCurrent (holdReading v s) := by
  unfold holdReading
  dsimp only
  split <;> exact h

theorem current_takeReadingOf {v : Int} {s : State} (hv : -400 ≤ v ∧ v ≤ 1200) (h : WaterCurrent s) :
    WaterCurrent (takeReadingOf v s) := by
  unfold takeReadingOf
  split
  · exact current_holdReading v h
  · have accepted : WaterCurrent (acceptReading v s) :=
      current_recomputeLevel ⟨fun h => (nomatch h), fun h => (nomatch h)⟩ (fun h => (nomatch h))
        fun w hw => Option.some.inj hw ▸ hv
    exact current_of_outer (by simp) accepted

theorem current_ownWaterLevel (p : List Byte) {s : State} (h : WaterCurrent s) : WaterCurrent (ownWaterLevel p s).1 := by
  have bounds := clampReading_bounds (signedAt p 0)
  unfold ownWaterLevel
  dsimp only
  split
  · exact current_takeReadingOf bounds h
  · exact current_takeReadingOf (s := raiseControl .gaugeRange s) bounds h

/-- The gauge falls silent only after a reading: the staleness timer does not run while it is UNREAD. -/
theorem current_goStale {s : State} (hr : s.water.gauge ≠ .unread) (h : WaterCurrent s) : WaterCurrent (goStale s) := by
  obtain ⟨-, hu, -, hv⟩ := (waterCurrent_iff s).mp h
  have stale : WaterCurrent (recomputeLevel { s with water := { s.water with gauge := .stale, staleness := .stopped } }) :=
    current_recomputeLevel ⟨fun ha => absurd (hu.mp ha) hr, fun h => (nomatch h)⟩ (fun h => (nomatch h)) hv
  exact current_of_outer (by simp [goStale]) stale

/-- A parameter that L_eff does not follow. -/
theorem current_store {n : ParameterName} (hw : n ≠ .highWater) (hm : n ≠ .gaugeMargin) (v : Int) {s : State}
    (h : WaterCurrent s) : WaterCurrent { s with params := s.params.store v n } := by
  refine current_of_levels (s := s) rfl ?_ ?_ h <;> cases n <;> first | rfl | contradiction

/-- A parameter that L_eff follows is followed at once. -/
theorem current_applyParameter {n : ParameterName} {old v : Int} {s : State}
    (hu : s.water.accepted = none ↔ s.water.gauge = .unread)
    (hr : s.water.gauge = .unread → s.water.staleness.isRunning = false)
    (hv : ∀ v, s.water.accepted = some v → -400 ≤ v ∧ v ≤ 1200)
    (h : n ≠ .highWater → n ≠ .gaugeMargin → WaterCurrent s) : WaterCurrent (applyParameter n old v s) := by
  have followed : WaterCurrent (waterEvent (recomputeLevel s)) :=
    current_of_outer (outer_waterEvent _) (current_recomputeLevel hu hr hv)
  cases n
  case closedClearance | margin | tideAllowance | maxLift | highWater | gaugeMargin => exact followed
  case conclusionHold =>
    unfold applyParameter
    dsimp only
    split
    · exact current_of_outer (outer_ageConcluded _ _) (h nofun nofun)
    · exact h nofun nofun
  case roadHoldOff => exact current_of_outer (outer_applyHoldOff _) (h nofun nofun)
  case queueCriticalLevel => exact current_of_outer (outer_refreshQueueCritical _) (h nofun nofun)
  all_goals exact h nofun nofun

theorem current_storeParameter (n : ParameterName) (v : Int) {s : State} (h : WaterCurrent s) :
    WaterCurrent (storeParameter n v s) := by
  obtain ⟨-, hu, hr, hv⟩ := (waterCurrent_iff s).mp h
  exact current_of_outer (outer_settle _)
    (current_applyParameter (s := { s with params := s.params.store v n }) hu hr hv
      fun hw hm => current_store hw hm v h)

theorem current_ownSetParameter (p : List Byte) {s : State} (h : WaterCurrent s) :
    WaterCurrent (ownSetParameter p s).1 := by
  unfold ownSetParameter
  split
  · exact h
  · dsimp only
    (repeat' split)
    · exact h
    · exact h
    · exact h
    · exact current_storeParameter _ _ h

/-- L_eff is current after every command. -/
theorem exec_keeps_current (c : Instr) (s t : State) (h : exec c s = .next t) (hs : WaterCurrent s) :
    WaterCurrent t := by
  cases c
  case powerOn x =>
    exact Host.Outcome.next.inj h ▸ (invariantsHoldAtReset.2.2.1 : WaterCurrent State.reset)
  case waterLevel p x =>
    exact Host.Outcome.next.inj h ▸ request_keeps (I := WaterCurrent) current_setPort
      (fun _ => current_ownWaterLevel x) hs
  case setParameter p x =>
    exact Host.Outcome.next.inj h ▸ request_keeps (I := WaterCurrent) current_setPort
      (fun _ => current_ownSetParameter x) hs
  case stalenessTimerExpiry =>
    obtain rfl := Host.Outcome.next.inj h
    match hr : s.water.staleness with
    | .running k l =>
      have gauge : s.water.gauge ≠ .unread := fun hu => by
        have stands := hs.2.2.1 hu
        rw [hr] at stands
        exact nomatch stands
      exact current_of_outer (outer_settle _) (current_goStale (s := elapse _ s) gauge (current_elapse _ s hs))
    | .stopped | .paused _ _ | .over _ => exact hs
  all_goals
    exact current_of_levels (kept_of_unowned Held.levels h (fun _ => rfl))
      (congrArg Parameters.highWater (kept_of_unowned Held.params h (fun _ => rfl)))
      (congrArg Parameters.gaugeMargin (kept_of_unowned Held.params h (fun _ => rfl))) hs

/-- Settles O9: L_eff stays what R36 gives at every step. -/
theorem waterCurrentKept : Obligations.WaterCurrentKept := by
  unfold Obligations.WaterCurrentKept
  intro s t hs h
  exact step_keeps (I := WaterCurrent) (fun _ _ _ h => h) (fun s => current_elapse 1 s) exec_keeps_current h hs

end Sys2Proof.Machine
end

section
/-!
What the road guard's lamps, approaches and deck leave alone: everything but the attention sets and their own records.
-/

namespace Sys2Proof.Machine

theorem foldl_keeps {α β γ : Type} {f : β → α → β} (π : β → γ) (h : ∀ s x, π (f s x) = π s) (l : List α) (s : β) :
    π (l.foldl f s) = π s := by
  induction l generalizing s with
  | nil => rfl
  | cons x l ih => rw [List.foldl_cons, ih, h]

/-- All of a state but the ports, and the guard's heads, approaches, detectors, deck and halt mark. -/
def offRoad (s : State) : State :=
  { s with
    ports := State.reset.ports,
    guard := { Guard.reset with arms := s.guard.arms, seatedLocked := s.guard.seatedLocked } }

@[simp] theorem offRoad_raiseControl (x : ControlSource) (s : State) : offRoad (raiseControl x s) = offRoad s := rfl
@[simp] theorem offRoad_raiseHarbour (x : HarbourSource) (s : State) : offRoad (raiseHarbour x s) = offRoad s := rfl
@[simp] theorem offRoad_setPort (p : Port) (r : PortRecord) (s : State) : offRoad (setPort p r s) = offRoad s := rfl
@[simp] theorem offRoad_setHead (h : Head) (r : HeadRecord) (s : State) : offRoad (setHead h r s) = offRoad s := rfl
@[simp] theorem offRoad_setLamp (h : Head) (l : Lamp) (r : LampRecord) (s : State) :
    offRoad (setLamp h l r s) = offRoad s := rfl
@[simp] theorem offRoad_setApproach (a : Approach) (r : ApproachRecord) (s : State) :
    offRoad (setApproach a r s) = offRoad s := rfl
@[simp] theorem offRoad_setDetector (d : Detector) (r : DetectorRecord) (s : State) :
    offRoad (setDetector d r s) = offRoad s := rfl
@[simp] theorem offRoad_setDeck (r : Deck) (s : State) : offRoad (setDeck r s) = offRoad s := rfl

/-! ## Lamps and approaches -/

@[simp] theorem offRoad_switchLamp (h : Head) (on : Bool) (s : State) (l : Lamp) :
    offRoad (switchLamp h on s l) = offRoad s := by
  unfold switchLamp
  dsimp only
  (repeat' split) <;> rfl

@[simp] theorem offRoad_applyHead (s : State) (h : Head) : offRoad (applyHead s h) = offRoad s :=
  foldl_keeps offRoad (fun _ _ => offRoad_switchLamp _ _ _ _) _ _

@[simp] theorem offRoad_applyPhase (a : Approach) (s : State) : offRoad (applyPhase a s) = offRoad s :=
  foldl_keeps offRoad offRoad_applyHead _ _

@[simp] theorem offRoad_evaluateApproach (a : Approach) (s : State) : offRoad (evaluateApproach a s) = offRoad s := by
  unfold evaluateApproach
  dsimp only
  split <;> rfl

@[simp] theorem offRoad_startCount (a : Approach) (s : State) : offRoad (startCount a s) = offRoad s := rfl

@[simp] theorem offRoad_showRed (a : Approach) (s : State) : offRoad (showRed a s) = offRoad s := by simp [showRed]

@[simp] theorem offRoad_enterRed (a : Approach) (s : State) : offRoad (enterRed a s) = offRoad s := by
  unfold enterRed
  split <;> simp

@[simp] theorem offRoad_enterDark (a : Approach) (s : State) : offRoad (enterDark a s) = offRoad s := by
  simp [enterDark]

@[simp] theorem offRoad_enterAmber (a : Approach) (s : State) : offRoad (enterAmber a s) = offRoad s := by
  simp [enterAmber]

@[simp] theorem offRoad_giveWarning (a : Approach) (s : State) : offRoad (giveWarning a s) = offRoad s := by
  unfold giveWarning
  dsimp only
  split <;> simp

@[simp] theorem offRoad_giveWarnings (s : State) : offRoad (giveWarnings s) = offRoad s := by simp [giveWarnings]

@[simp] theorem offRoad_takeWarning (a : Approach) (s : State) : offRoad (takeWarning a s) = offRoad s := by
  unfold takeWarning
  dsimp only
  split <;> simp

@[simp] theorem offRoad_takeWarnings (s : State) : offRoad (takeWarnings s) = offRoad s := by simp [takeWarnings]

@[simp] theorem offRoad_nextHalf (a : Approach) (s : State) : offRoad (nextHalf a s) = offRoad s := by simp [nextHalf]

theorem offRoad_accrue (h : Head) (read : HeadRecord → Bool) (write : HeadRecord → HeadRecord) (s : State) :
    offRoad (accrue h read write s) = offRoad s := by
  unfold accrue
  dsimp only
  split <;> rfl

@[simp] theorem offRoad_accrueFailure (h : Head) (l : Lamp) (s : State) : offRoad (accrueFailure h l s) = offRoad s := by
  unfold accrueFailure
  dsimp only
  (repeat' split) <;> exact offRoad_accrue _ _ _ _

@[simp] theorem offRoad_proveLamp (h : Head) (l : Lamp) (s : State) : offRoad (proveLamp h l s) = offRoad s := by
  unfold proveLamp
  dsimp only
  generalize hx : (if (_ && _) = true then _ else _ : State) = x
  have stored : offRoad x = offRoad s := by
    subst hx
    (repeat' split) <;> simp
  split <;> simp [stored]

@[simp] theorem offRoad_checkOff (h : Head) (l : Lamp) (s : State) : offRoad (checkOff h l s) = offRoad s := by
  unfold checkOff
  dsimp only
  split
  · exact offRoad_accrue _ _ _ _
  · rfl

@[simp] theorem offRoad_clearLamp (h : Head) (s : State) (l : Lamp) : offRoad (clearLamp h s l) = offRoad s := rfl

@[simp] theorem offRoad_removeHead (h : Head) (s : State) : offRoad (removeHead h s) = offRoad s := by
  simp [removeHead]

@[simp] theorem offRoad_returnHead (h : Head) (s : State) : offRoad (returnHead h s) = offRoad s := by
  simp [returnHead]

@[simp] theorem offRoad_clearHeadFlags (flags : Nat) (s : State) (h : Head) :
    offRoad (clearHeadFlags flags s h) = offRoad s := rfl

/-! ## The deck -/

@[simp] theorem offRoad_startOccupancy (s : State) (d : Detector) : offRoad (startOccupancy s d) = offRoad s := rfl

@[simp] theorem offRoad_startMeasurement (reentry : Bool) (s : State) :
    offRoad (startMeasurement reentry s) = offRoad s :=
  foldl_keeps offRoad offRoad_startOccupancy _ _

@[simp] theorem offRoad_dropMeasurement (s : State) : offRoad (dropMeasurement s) = offRoad s := rfl

@[simp] theorem offRoad_followClear (s : State) : offRoad (followClear s) = offRoad s := rfl

@[simp] theorem offRoad_endOccupancy (now : RawInputs) (s : State) (d : Detector) :
    offRoad (endOccupancy now s d) = offRoad s := rfl

@[simp] theorem offRoad_occupancySample (before now : RawInputs) (s : State) (d : Detector) :
    offRoad (occupancySample before now s d) = offRoad s := by
  unfold occupancySample
  dsimp only
  (repeat' split) <;> rfl

@[simp] theorem offRoad_deckSample (before now : RawInputs) (s : State) : offRoad (deckSample before now s) = offRoad s := by
  unfold deckSample
  dsimp only
  split
  · rw [offRoad_followClear, foldl_keeps offRoad (offRoad_occupancySample before now),
      foldl_keeps offRoad (offRoad_endOccupancy now)]
  · exact foldl_keeps offRoad (offRoad_endOccupancy now) _ _

@[simp] theorem offRoad_pauseGuard (s : State) : offRoad (pauseGuard s) = offRoad s := rfl

@[simp] theorem offRoad_deckWaitOver (s : State) : offRoad (deckWaitOver s) = offRoad s := by
  unfold deckWaitOver
  dsimp only
  split <;> rfl

@[simp] theorem offRoad_occupiedTooLong (d : Detector) (s : State) : offRoad (occupiedTooLong d s) = offRoad s := rfl

@[simp] theorem offRoad_removeDetector (d : Detector) (s : State) : offRoad (removeDetector d s) = offRoad s := by
  unfold removeDetector
  dsimp only
  split <;> rfl

@[simp] theorem offRoad_returnDetector (d : Detector) (s : State) : offRoad (returnDetector d s) = offRoad s := by
  unfold returnDetector
  dsimp only
  split <;> rfl

@[simp] theorem offRoad_clearDetectorFlag (flags : Nat) (s : State) (d : Detector) :
    offRoad (clearDetectorFlag flags s d) = offRoad s := rfl

/-! ## The requests of the road guard -/

theorem offRoad_ownClearLamp (p : List Byte) (s : State) : offRoad (ownClearLamp p s).1 = offRoad s := by
  unfold ownClearLamp
  split
  · split
    · rfl
    · rw [offRoad_evaluateApproach, foldl_keeps offRoad (offRoad_clearLamp _)]
  · rfl

theorem offRoad_ownHeadService (p : List Byte) (s : State) : offRoad (ownHeadService p s).1 = offRoad s := by
  unfold ownHeadService
  (repeat' split) <;> simp

theorem offRoad_ownClearRoadStatus (p : List Byte) (s : State) : offRoad (ownClearRoadStatus p s).1 = offRoad s := by
  unfold ownClearRoadStatus
  (repeat' split)
  · rfl
  · rw [foldl_keeps offRoad (offRoad_clearDetectorFlag _), foldl_keeps offRoad (offRoad_clearHeadFlags _)]
  · rfl

theorem offRoad_ownDetectorService (p : List Byte) (s : State) : offRoad (ownDetectorService p s).1 = offRoad s := by
  unfold ownDetectorService
  (repeat' split) <;> simp

end Sys2Proof.Machine
end

section
/-!
O8, O10: what the masts show and what the interlocks demand is settled at the end of every command that changes what
they read. `sight` gathers what they read.
-/

namespace Sys2Proof.Machine

/-- What the masts (R173) and the interlocks (R148 to R150) read. -/
structure Sight where
  inputs : Option (RawInputs × RawInputs × RawInputs)
  phase : SeqState
  seatedLocked : Bool
  arms : PerArm ArmState
  towers : PerTower (Bool × Int)
  bolts : PerTower BoltState
  direction : Vertical
  masts : PerMast Aspect
  serving : Option Direction
  zoneCount : Nat
  slots : Option (List (Direction × SlotState))

/-- What the masts and the interlocks read of a state. -/
def sight (s : State) : Sight :=
  { inputs := s.inputs, phase := s.seq.state, seatedLocked := s.guard.seatedLocked, arms := s.guard.arms.map (·.state),
    towers := s.drive.towers.map (fun r => (r.released, r.reference)), bolts := s.drive.bolts.map (·.state),
    direction := s.drive.direction, masts := s.channel.masts, serving := s.channel.serving,
    zoneCount := s.channel.zoneCount,
    slots := s.seq.opening.map (fun o => o.slots.map (fun x => (x.direction, x.state))) }

/-- A command leaves what the masts and the interlocks read, or ends with its consequences worked off. -/
def Worked (s t : State) : Prop := sight t = sight s ∨ ∃ u, sight t = sight (settle u)

theorem sight_elapse (n : Nat) (s : State) : sight (elapse n s) = sight s := by
  have slots : (s.seq.opening.map (·.advance n)).map (fun o => o.slots.map (fun x => (x.direction, x.state))) =
      s.seq.opening.map (fun o => o.slots.map (fun x => (x.direction, x.state))) := by
    cases s.seq.opening <;> simp [Opening.advance, Function.comp_def]
  exact congrArg (fun l => { sight s with slots := l }) slots

theorem Worked.refl (s : State) : Worked s s := .inl rfl

theorem Worked.settle (s u : State) : Worked s (settle u) := .inr ⟨u, rfl⟩

theorem Worked.of_sight {s t u : State} (h : sight t = sight s) (hu : Worked t u) : Worked s u :=
  hu.imp_left (·.trans h)

theorem worked_request {p : Port} {row : CatalogueRow} {payload : List Byte} {owner : State → State × Answer}
    (own : ∀ u, Worked u (owner u).1) (s : State) : Worked s (request p row payload owner s) :=
  request_cases (P := Worked s) p row payload owner s (.refl s) (.inl rfl) (fun _ => .inl rfl)
    (own (takeFrame p (BitVec.ofNat 8 row.code :: payload) s))

theorem worked_expire {act : State → State} (acts : ∀ u, Worked u (act u)) (t : Timer) (s : State) :
    Worked s (expire t act s) := by
  cases t
  case running k l => exact .of_sight (sight_elapse _ s) (acts _)
  all_goals exact .refl s

theorem worked_expireMinutes {act : State → State} (acts : ∀ u, Worked u (act u)) (t : Timer) (s : State) :
    Worked s (expireMinutes t act s) := by
  cases t
  case running k l => exact acts s
  all_goals exact .refl s

theorem Worked.of_offRoad {s t : State} (h : offRoad t = offRoad s) : Worked s t :=
  .inl (show sight (offRoad t) = sight (offRoad s) from congrArg sight h)

theorem worked_takeReadingOf (v : Int) (s : State) : Worked s (takeReadingOf v s) := by
  unfold takeReadingOf holdReading
  dsimp only
  split
  · split <;> exact .inl rfl
  · exact .settle _ _

theorem worked_ownWaterLevel (p : List Byte) (s : State) : Worked s (ownWaterLevel p s).1 := by
  unfold ownWaterLevel
  dsimp only
  split
  · exact worked_takeReadingOf _ s
  · exact .of_sight (t := raiseControl .gaugeRange s) rfl (worked_takeReadingOf _ _)

theorem sight_addressMark (p : Port) (value : Byte) (s : State) : sight (addressMark p value s) = sight s := by
  unfold addressMark
  dsimp only
  (repeat' split) <;> rfl

/-- The events of a line change no more than a port. -/
theorem line_sight {c : Instr} (hl : ofLine c = true) {s t : State} (h : exec c s = .next t) : sight t = sight s := by
  cases c <;> cases hl <;> obtain rfl := Host.Outcome.next.inj h
  case lineBreak p => rfl
  case frameDiscarded p x =>
    unfold frameDiscarded
    dsimp only
    (repeat' split) <;> first | rfl | exact sight_addressMark _ _ _
  case unknownRequest p k q =>
    unfold unknownRequest
    (repeat' split) <;> rfl
  case responseSent p =>
    unfold responseSent
    dsimp only
    split <;> rfl
  case addressMark p v => exact sight_addressMark p v s

/-- Every command leaves what the masts and the interlocks read, ends with its consequences worked off, or is POWER_ON:
an owner ends with `settle` where it does more than answer. -/
theorem exec_worked (c : Instr) (s t : State) (h : exec c s = .next t) : Worked s t ∨ sight t = sight State.reset := by
  by_cases hl : ofLine c = true
  · exact .inl (.inl (line_sight hl h))
  cases c
  case powerOn x => exact Host.Outcome.next.inj h ▸ .inr rfl
  all_goals refine .inl (Host.Outcome.next.inj h ▸ ?_)
  case lineBreak | responseSent | addressMark | frameDiscarded | unknownRequest => exact absurd rfl hl
  case inputSample | positionSample | encoderEdge | timePulseLeadingEdge => exact .settle _ _
  case secondMark => split <;> exact .inl rfl
  case roadHoldOffExpiry | roadPriorityTimerExpiry | maxRaisedTimerExpiry =>
    exact worked_expireMinutes (fun _ => .settle _ _) _ s
  case minuteMarkCorrection | supervisionTimerExpiry | oscillatorStep | stalenessTimerExpiry | windWaitTimerExpiry |
      amberTimerExpiry | warningCountComplete | armTravelTimeout | retryWaitExpiry | deckClear | brakeSettleExpiry |
      lockTravelTimerExpiry | jogKeepAliveExpiry | channelClearTimerRun | noShowTimerExpiry =>
    exact worked_expire (fun _ => .settle _ _) _ s
  case flasherHalf a => exact worked_expire (fun u => .of_offRoad (offRoad_nextHalf a u)) _ s
  case occupancyTimerExpiry d => exact worked_expire (fun u => .of_offRoad (offRoad_occupiedTooLong d u)) _ s
  case lampProving x l => exact worked_expire (fun u => .of_offRoad (offRoad_proveLamp x l u)) _ s
  case offCheck x l => exact worked_expire (fun u => .of_offRoad (offRoad_checkOff x l u)) _ s
  case deckWaitExpiry => exact worked_expire (fun u => .of_offRoad (offRoad_deckWaitOver u)) _ s
  case waterLevel p x => exact worked_request (worked_ownWaterLevel x) s
  case clearLamp p x => exact worked_request (fun u => .of_offRoad (offRoad_ownClearLamp x u)) s
  case headService p x => exact worked_request (fun u => .of_offRoad (offRoad_ownHeadService x u)) s
  case clearRoadStatus p x => exact worked_request (fun u => .of_offRoad (offRoad_ownClearRoadStatus x u)) s
  case detectorService p x => exact worked_request (fun u => .of_offRoad (offRoad_ownDetectorService x u)) s
  all_goals
    refine worked_request (fun u => ?_) s
    dsimp only [ownSetTime, ownClockStatus, ownFetchAttention, ownSetAttentionEnable, ownCreateBooking,
      ownCreateTimetable, ownPostArrival, amendTagged, withdrawTagged, withTag, ownFind, ownList, ownListDue,
      ownQueueStatus, ownClearDamage, ownClearTable, ownSetRegions, ownClearanceStatus, ownOpenNow, ownCloseSpan,
      ownRoadPriority, ownRoadPriorityEnd, ownCloseNavigation, ownOpenNavigation, ownAbandon, ownOpeningStatus,
      ownCloseRoad, ownReopenRoad, ownStop, ownResume, ownRecoverSeat, ownSequenceStatus, ownConfirmUnwarned,
      ownArmRetry, ownArmService, ownRoadStatus, ownJog, ownDriveStatus, ownZoneReset, ownChannelStatus, ownConfigure,
      ownCommission, ownSetParameter, storeParameter, ownReadParameter]
    (repeat' split) <;> first | exact .settle _ _ | exact .inl rfl

/-! ## The masts -/

theorem hasSlot_of_sight {s t : State} (h : sight t = sight s) (d : Direction) (st : SlotState) :
    hasSlot t d st = hasSlot s d st := by
  have list : ∀ u : State, hasSlot u d st =
      ((sight u).slots.getD []).any (fun x => x.1 == d && x.2 == st) := by
    intro u
    unfold hasSlot slots sight
    cases u.seq.opening <;> simp [Function.comp_def]
  rw [list, list, h]

/-- The aspects are worked out from what `sight` gathers. -/
theorem aspectOf_of_sight {s t : State} (h : sight t = sight s) (m : Mast) : aspectOf t m = aspectOf s m := by
  have hi : t.inputs = s.inputs := congrArg Sight.inputs h
  have hq : t.seq.state = s.seq.state := congrArg Sight.phase h
  have hl : t.guard.seatedLocked = s.guard.seatedLocked := congrArg Sight.seatedLocked h
  have hc : t.channel.serving = s.channel.serving := congrArg Sight.serving h
  have ho : t.seq.opening.isSome = s.seq.opening.isSome := by
    have slots := congrArg (fun x : Sight => x.slots.isSome) h
    simpa [sight] using slots
  unfold aspectOf
  rw [hi, hq, hl, hc, ho, hasSlot_of_sight h]

theorem mastsApart_settle (s : State) : MastsApart (settle s) := by
  intro ⟨hu, hd⟩
  rw [settle_masts] at hu hd
  have serves : ∀ m, aspectOf (settle s) m = .proceed → (settle s).channel.serving = some (Mast.direction m) := by
    intro m hm
    unfold aspectOf at hm
    split at hm
    · exact nomatch hm
    · (repeat' split at hm) <;> simp_all
  have same := (serves .upstream hu).symm.trans (serves .downstream hd)
  exact absurd same (by decide)

theorem mastsShown_settle (s : State) : MastsShown (settle s) := by
  refine ⟨congrArg PerMast.upstream (settle_masts s), congrArg PerMast.downstream (settle_masts s), fun h => ?_⟩
  rw [settle_masts, aspectOf_unsampled _ _ h, aspectOf_unsampled _ _ h]

theorem mastsApart_of_sight {s t : State} (h : sight t = sight s) : MastsApart s → MastsApart t := by
  unfold MastsApart
  rw [show t.channel.masts = s.channel.masts from congrArg Sight.masts h]
  exact id

theorem mastsShown_of_sight {s t : State} (h : sight t = sight s) : MastsShown s → MastsShown t := by
  unfold MastsShown
  rw [show t.channel.masts = s.channel.masts from congrArg Sight.masts h,
    show t.inputs = s.inputs from congrArg Sight.inputs h, aspectOf_of_sight h, aspectOf_of_sight h]
  exact id

/-- What holds after the consequences, and is read from `sight`, is kept by every step. -/
theorem step_keeps_sight {I : State → Prop} (of_sight : ∀ {s t}, sight t = sight s → I s → I t)
    (settled : ∀ u, I (settle u)) (reset : I State.reset) {s t : State} (h : step s = .next t) (hs : I s) : I t := by
  refine step_keeps (I := I) (fun s q n => of_sight rfl) (fun s => of_sight (sight_elapse 1 s)) ?_ h hs
  intro c s t h hs
  obtain (h | ⟨u, h⟩) | h := exec_worked c s t h
  · exact of_sight h hs
  · exact of_sight h (settled u)
  · exact of_sight h reset

/-- Settles O8: the masts are worked out anew whenever what they show changes. -/
theorem mastsKept : Obligations.MastsKept := by
  unfold Obligations.MastsKept
  obtain ⟨apart, shown, -⟩ := invariantsHoldAtReset
  exact fun s t h => ⟨step_keeps_sight mastsApart_of_sight mastsApart_settle apart h,
    step_keeps_sight mastsShown_of_sight mastsShown_settle shown h⟩

/-! ## The interlocks -/

theorem interlocked_of_sight {s t : State} (h : sight t = sight s) : Interlocked s → Interlocked t := by
  have towers : ∀ k, (t.drive.towers.get k).released = (s.drive.towers.get k).released ∧
      (t.drive.towers.get k).reference = (s.drive.towers.get k).reference := by
    intro k
    cases k
    · exact ⟨congrArg (·.towers.w.1) h, congrArg (·.towers.w.2) h⟩
    · exact ⟨congrArg (·.towers.e.1) h, congrArg (·.towers.e.2) h⟩
  have arms : ∀ a, (t.guard.arms.get a).state = (s.guard.arms.get a).state := by
    intro a
    have same := congrArg (·.arms.get a) h
    cases a <;> exact same
  have bolts : ∀ b, (t.drive.bolts.get b).state = (s.drive.bolts.get b).state := by
    intro b
    have same := congrArg (·.bolts.get b) h
    cases b <;> exact same
  have beams : beamsClear t = beamsClear s := by
    simp only [beamsClear, filtered, show t.inputs = s.inputs from congrArg Sight.inputs h]
  unfold Interlocked
  simp only [towers, arms, bolts, beams, show t.drive.direction = s.drive.direction from congrArg Sight.direction h,
    show t.channel.zoneCount = s.channel.zoneCount from congrArg Sight.zoneCount h]
  exact id

/-- The interlocks as the check of them reads them. -/
theorem interlocked_of_holds {s : State}
    (h : ∀ k, commanded (s.drive.towers.get k) = true → interlocksHold s = true) : Interlocked s := by
  intro ⟨k, hk⟩
  have holds := h k (by simpa [commanded] using hk)
  simp only [interlocksHold, Bool.and_eq_true, Bool.or_eq_true, beq_iff_eq] at holds
  obtain ⟨⟨arms, bolts⟩, down⟩ := holds
  refine ⟨fun a => ?_, fun b => ?_, fun hd => ?_⟩
  · simp only [allArmsDown, List.all_eq_true, Bool.or_eq_true, beq_iff_eq] at arms
    exact arms a (by cases a <;> decide)
  · simp only [boltsAre, Bool.and_eq_true, beq_iff_eq] at bolts
    cases b
    · exact bolts.1
    · exact bolts.2
  · have clear := down.resolve_left (by simp [hd])
    simpa [channelClear] using clear

theorem interlocked_settle (s : State) : Interlocked (settle s) :=
  interlocked_of_holds (s := settle s) fun k => keepInterlocks_holds (iterate follow Config.settleFuel s) k

/-- Settles O10: the interlocks stand after the consequences, and nothing else changes what they read. -/
theorem interlocksKept : Obligations.InterlocksKept := by
  unfold Obligations.InterlocksKept
  obtain ⟨-, -, -, -, -, -, -, interlocked, -⟩ := invariantsHoldAtReset
  exact ⟨fun s t hs h => step_keeps_sight interlocked_of_sight interlocked_settle interlocked h hs, interlocked_settle⟩

end Sys2Proof.Machine
end

section
/-!
O12: a no-show timer that runs in a DONE slot concludes the entry that another slot names.
-/

namespace Sys2Proof.Machine

/-! ## A DONE slot whose no-show timer still runs -/

/-- A DONE slot that names entry 8 and whose no-show timer runs. -/
def lateSlot : Slot :=
  { serial := 0, entry := some 8, tagIndex := 8, tagGeneration := 0, direction := .inbound, cls := 0, airDraft := 0,
    lift := 0, state := .done, outcome := some .passed, noShow := .running 0 1, overdue := false, short := false,
    kept := false, givenAt := 0 }

/-- The slot of the same opening that names entry 8 now. -/
def nextSlot : Slot := { lateSlot with serial := 1, state := .waiting, outcome := none, noShow := .stopped }

/-- An opening with both slots. -/
def lateOpening : Opening :=
  { number := 1, cause := .operator, operatorLift := true, startMinute := 0, levelUsed := none, target := none,
    closingCause := none, slots := [lateSlot, nextSlot], taken := 2, withdrawn := 0, returned := 0, lost := 0,
    nextSerial := 2, proceedCount := 1, raisedBefore := false, abandoned := false }

/-- The no-show timer of the DONE slot expires while the opening is in WARNING. -/
def lateExpiry : State :=
  { State.reset with
    pending := [.noShowTimerExpiry 0], mode := .service,
    table := { Table.reset with entries := Table.reset.entries.set 8 { Entry.vacant with state := .assigned } },
    seq := { Sequence.reset with state := .warning, opening := some lateOpening } }

/-- What the expiry leaves. -/
def afterLateExpiry : State :=
  expire (noShowTimer 0 { lateExpiry with pending := [] }) (fun s => settle (noShow 0 s)) { lateExpiry with pending := [] }

theorem step_lateExpiry : step lateExpiry = .next afterLateExpiry := rfl

theorem entryAt_lateExpiry {i : Nat} (hi : i ≠ 8) : entryAt lateExpiry i = Entry.vacant := by
  rw [← entryAt_reset (t := State.reset) rfl i]
  simp [entryAt, lateExpiry, State.reset, List.getD, List.getElem?_set_ne (Ne.symm hi)]

/-- Each slot that is not DONE names its own entry, in the matching state. -/
theorem slotsMatched_lateExpiry : SlotsMatched lateExpiry := by
  refine ⟨⟨rfl, rfl, by decide, by decide⟩, fun i _ hi => ?_, fun o ho => ?_⟩
  · obtain rfl : i = 8 := by
      by_contra hne
      rw [entryAt_lateExpiry hne] at hi
      exact nomatch hi
    exact ⟨lateOpening, nextSlot, rfl, by simp [lateOpening], nofun, rfl⟩
  · obtain rfl : lateOpening = o := Option.some.inj ho
    refine ⟨rfl, .inl rfl, by decide, by decide, by decide, fun x hx hn i hi => ?_, ?_⟩
    · have both : x = lateSlot ∨ x = nextSlot := by simpa [lateOpening] using hx
      obtain rfl | rfl := both
      · exact absurd rfl hn
      · obtain rfl : 8 = i := Option.some.inj hi
        exact ⟨by decide, rfl⟩
    · exact List.Pairwise.cons (fun y _ h => absurd rfl h) (List.pairwise_singleton _ _)

/-- The expiry concludes entry 8, which the WAITING slot still names. -/
theorem afterLateExpiry_entry : (entryAt afterLateExpiry 8).state = .concluded := by decide

theorem afterLateExpiry_slot : ∃ o x, afterLateExpiry.seq.opening = some o ∧ x ∈ o.slots ∧ x.state = .waiting ∧
    x.entry = some 8 := by
  have found : (afterLateExpiry.seq.opening.bind fun o => o.slots.find? fun x =>
      x.state == .waiting && x.entry == some 8).isSome = true := by decide
  obtain ⟨x, hx⟩ := Option.isSome_iff_exists.mp found
  obtain ⟨o, ho, hf⟩ := Option.bind_eq_some_iff.mp hx
  have named := List.find?_some hf
  simp only [Bool.and_eq_true, beq_iff_eq] at named
  exact ⟨o, x, ho, List.mem_of_find?_eq_some hf, named⟩

/-- Refutes O12: a no-show timer that runs in a DONE slot expires, and the entry of that slot, named by a WAITING slot
now, is concluded; the WAITING slot still names it. -/
theorem not_slotsKept : ¬ Obligations.SlotsKept := by
  unfold Obligations.SlotsKept
  intro h
  obtain ⟨-, -, matched⟩ := h lateExpiry afterLateExpiry slotsMatched_lateExpiry step_lateExpiry
  obtain ⟨o, x, ho, hx, waits, names⟩ := afterLateExpiry_slot
  obtain ⟨-, -, -, -, -, states, -⟩ := matched o ho
  have state := (states x hx (by rw [waits]; exact nofun) 8 names).2
  rw [waits, afterLateExpiry_entry] at state
  exact nomatch state

end Sys2Proof.Machine
end


section
/-!
The requests that only report (R29, R48, R102, R119, R169, R193, R220, R225): a decoded request answers what its owner
gives, and each of these owners sends figures of the state and leaves the state.
-/

namespace Sys2Proof.Machine

/-! ## A decoded request and its owner -/

/-- Every payload of the catalogue fits in a frame (R214). -/
theorem requestRow_length {c : Instr} {p : Port} {row : CatalogueRow} (h : requestRow c = some (p, row)) :
    row.length ≤ payloadLimit := by
  cases c <;> cases h <;> (try decide)
  case setAttentionEnable => cases p <;> decide

/-- A decoded request leaves and answers what its owner gives for the taken frame. -/
theorem exec_of_owner {c : Instr} {p : Port} {row : CatalogueRow} {payload : List Byte}
    {owner : State → State × Answer} {s u : State} {a : Answer}
    (run : exec c s = .next (request p row payload owner s)) (hr : requestRow c = some (p, row))
    (hp : c.requestPayload = some payload) (hd : decoded c s = true)
    (h : owner (taken p row.code payload s) = (u, a)) :
    exec c s = .next (answered p row.code a.status a.payload u) :=
  run.trans (congrArg _ (request_of_owner hr hp hd (requestRow_length hr) h))

/-! ## The sizes of fields on the line -/

@[simp] theorem length_put1 (n : Nat) : (put1 n).length = 1 := rfl
@[simp] theorem length_put2 (n : Nat) : (put2 n).length = 2 := rfl
@[simp] theorem length_putInt2 (i : Int) : (putInt2 i).length = 2 := rfl
@[simp] theorem length_putInt4 (i : Int) : (putInt4 i).length = 4 := rfl
@[simp] theorem length_putBool (b : Bool) : (putBool b).length = 1 := rfl
@[simp] theorem length_putTag (i : Nat) (g : BitVec 4) : (putTag i g).length = 2 := rfl

/-- An optional field has the size of its value and a presence byte more. -/
theorem length_putOpt {α : Type} (n : Nat) (f : α → List Byte) (o : Option α) (h : ∀ x, (f x).length = n) :
    (putOpt n f o).length = n + 1 := by
  cases o with
  | none => simp [putOpt]
  | some x => simp [putOpt, h x]

/-- The optional fields of one byte: a code, a number. -/
@[simp] theorem length_putOpt_code {α : Type} (f : α → Nat) (o : Option α) :
    (putOpt 1 (fun v => put1 (f v)) o).length = 2 := length_putOpt _ _ _ fun _ => rfl
@[simp] theorem length_putOpt_put1 (o : Option Nat) : (putOpt 1 put1 o).length = 2 := length_putOpt _ _ _ fun _ => rfl
@[simp] theorem length_putOpt_put2 (o : Option Nat) : (putOpt 2 put2 o).length = 3 := length_putOpt _ _ _ fun _ => rfl
@[simp] theorem length_putOpt_putInt2 (o : Option Int) : (putOpt 2 putInt2 o).length = 3 :=
  length_putOpt _ _ _ fun _ => rfl

@[simp] theorem length_putSlot (x : Slot) : (putSlot x).length = 12 := by
  simp [putSlot]

@[simp] theorem length_putMinutes (t : Timer) : (putMinutes t).length = 2 := by
  simp [putMinutes]

@[simp] theorem length_putOpening (n : Nat) (x : Summary) (closing finished : Bool) :
    (putOpening n x closing finished).length = 28 := by
  simp [putOpening]

@[simp] theorem length_putContent (s : State) : (putContent s).length = 28 := by
  unfold putContent
  split <;> simp

/-! ## OPENING_STATUS -/

/-- What OPENING_STATUS sends before its slots, but for their number (R225). -/
def openingHeader (s : State) : List Byte :=
  put1 s.mode.ctorIdx ++ put1 s.seq.state.ctorIdx ++
    putOpt 1 (fun (q : SeqState) => put1 q.ctorIdx) s.seq.heldPhase ++ putContent s ++
    putBool s.planner.holdOffElapsed ++ putMinutes s.planner.holdOff ++ putBool s.planner.roadPriority ++
    putMinutes s.planner.roadPriorityTimer ++ putBool s.planner.navigationClosed ++
    putBool s.planner.queueCritical ++ putMinutes s.planner.maxRaised

theorem length_openingHeader (s : State) : (openingHeader s).length = 42 := by
  simp [openingHeader]

theorem ownOpeningStatus_eq (s : State) :
    ownOpeningStatus s =
      (s, accept (openingHeader s ++ put1 (slots s).length ++ (slots s).flatMap putSlot)) := rfl

/-- The body of OPENING_STATUS has 12 bytes for each slot after a head of 43, whose last byte is the number of slots. -/
theorem openingStatus_layout (s : State) (l : List Slot) :
    (openingHeader s ++ put1 l.length ++ l.flatMap putSlot).length = 43 + 12 * l.length ∧
      (openingHeader s ++ put1 l.length ++ l.flatMap putSlot)[42]? = some (BitVec.ofNat 8 l.length) := by
  constructor
  · simp [length_openingHeader, List.length_flatMap]
    omega
  · rw [List.append_assoc, List.getElem?_append_right (by simp [length_openingHeader])]
    simp [length_openingHeader, put1]

/-! ## QUEUE_STATUS -/

/-- The kind of an index is arrival exactly at and above both boundaries (R1). -/
theorem kindOf_eq_arrival_iff (t : Table) (i : Nat) : kindOf t i = .arrival ↔ ¬ i < t.tb ∧ ¬ i < t.qb := by
  unfold kindOf
  split
  · simp [*]
  · split <;> simp [*]

theorem dueArrivals_eq (t : Table) :
    dueArrivals t = (t.dueList.filter (fun i => decide (¬ i < t.tb ∧ ¬ i < t.qb))).length := by
  unfold dueArrivals
  congr 2
  funext i
  rw [Bool.eq_iff_iff, beq_iff_eq, kindOf_eq_arrival_iff, decide_eq_true_iff]

/-- On a sound table QUEUE_STATUS reads without a change, and sends first the three lengths of the due list. -/
theorem ownQueueStatus_sound {s : State} (hs : TableSound s) :
    ∃ rest, ownQueueStatus s = (settle s, accept ([BitVec.ofNat 8 s.table.dueList.length,
      BitVec.ofNat 8 (s.table.dueList.filter (fun i => (entryAt s i).tideHold == some true)).length,
      BitVec.ofNat 8 (s.table.dueList.filter (fun i => decide (¬ i < s.table.tb ∧ ¬ i < s.table.qb))).length] ++
        rest)) := by
  unfold ownQueueStatus
  simp only [verifyEntries_good _ s (entryAt_good hs), dueArrivals_eq, put1, List.append_assoc]
  exact ⟨_, rfl⟩

/-! ## ROAD_STATUS -/

/-- A free value is sent exactly where an occupancy has counted more than its two bytes hold (log 22). -/
theorem longOccupied_iff (s : State) :
    longOccupied s = true ↔ ∃ d k, (s.guard.detectors.get d).occupancy.running? = some k ∧ 6553600 ≤ k := by
  have every : ∀ d : Detector, d ∈ allDetectors := by intro d; cases d <;> decide
  simp [longOccupied, every, Option.any_eq_true]

/-- ROAD_STATUS leaves the state but for the count of free choices. -/
theorem ownRoadStatus_eq (s : State) :
    ∃ rest, ownRoadStatus s = ({ s with freeCount := if longOccupied s then s.freeCount + 1 else s.freeCount },
      accept (BitVec.ofNat 8 s.guard.approaches.north.phase.ctorIdx :: rest)) := by
  unfold ownRoadStatus
  split
  · exact ⟨_, rfl⟩
  · exact ⟨_, rfl⟩

/-- DRIVE_STATUS begins with the count of tower W. -/
theorem ownDriveStatus_eq (s : State) :
    ∃ rest, ownDriveStatus s = (s, accept (putInt4 s.drive.towers.w.count ++ rest)) := by
  unfold ownDriveStatus
  simp only [allTowers, List.flatMap_cons, putTower, PerTower.get, List.append_assoc]
  exact ⟨_, rfl⟩

/-- CHANNEL_STATUS begins with the aspects of the masts. -/
theorem ownChannelStatus_eq (s : State) :
    ∃ rest, ownChannelStatus s = (s, accept ([BitVec.ofNat 8 s.channel.masts.upstream.ctorIdx,
      BitVec.ofNat 8 s.channel.masts.downstream.ctorIdx] ++ rest)) := by
  unfold ownChannelStatus
  simp only [put1, List.append_assoc]
  exact ⟨_, rfl⟩

/-! ## The statement -/

/-- Settles O16: each owner leaves its state and sends a known head. -/
theorem statusRequestsOnlyAnswer : Obligations.StatusRequestsOnlyAnswer := by
  unfold Obligations.StatusRequestsOnlyAnswer
  refine ⟨fun p x s hd hs => ?queue, fun p x s hd => ?opening, fun p x s hd => ?sequence, fun p x s hd => ?road,
    fun p x s hd => ?drive, fun p x s hd => ?channel⟩
  case queue =>
    obtain ⟨rest, own⟩ := ownQueueStatus_sound (s := taken p 12 x s) hs
    exact ⟨_, exec_of_owner rfl rfl rfl hd own, rfl⟩
  case opening =>
    exact ⟨_, exec_of_owner rfl rfl rfl hd (ownOpeningStatus_eq _), openingStatus_layout _ (slots s)⟩
  case sequence => exact ⟨_, exec_of_owner rfl rfl rfl hd rfl, rfl⟩
  case road =>
    obtain ⟨rest, own⟩ := ownRoadStatus_eq (taken p 39 x s)
    refine ⟨_, _, exec_of_owner rfl rfl rfl hd own, fun short => ?_, fun long => ?_, rfl⟩
    · refine if_neg fun h => ?_
      obtain ⟨d, k, hk, hlong⟩ := (longOccupied_iff _).mp h
      exact absurd (short d k hk) (Nat.not_lt.mpr hlong)
    · exact if_pos ((longOccupied_iff _).mpr long)
  case drive =>
    obtain ⟨rest, own⟩ := ownDriveStatus_eq (taken p 41 x s)
    exact ⟨_, exec_of_owner rfl rfl rfl hd own, List.take_left' rfl⟩
  case channel =>
    obtain ⟨rest, own⟩ := ownChannelStatus_eq (taken p 43 x s)
    exact ⟨_, exec_of_owner rfl rfl rfl hd own, rfl⟩

/-! ## READ_PARAMETER -/

/-- The table of 10.6 is the limits of the parameters in their order. -/
theorem parameterTable_eq :
    parameterTable = allParameters.map (fun n => (n.limits.1, n.limits.2.1, n.limits.2.2, n.live)) := by
  decide

theorem valuesInForce_eq (s : State) : valuesInForce s = allParameters.map (parameterValue s) := rfl

/-- QB is the parameter with identifier 1. -/
theorem named_qb_iff {k : Nat} {n : ParameterName} (h : named allParameters k = some n) : n = .qb ↔ k = 1 := by
  have distinct : allParameters.Nodup := by decide
  have second : allParameters[1]? = some .qb := by decide
  have hk : k < allParameters.length := (List.getElem?_eq_some_iff.mp h).1
  constructor
  · rintro rfl
    exact (List.getElem?_inj hk distinct).mp (h.trans second.symm)
  · rintro rfl
    exact Option.some.inj (h.symm.trans second)

theorem ownReadParameter_unknown {x : List Byte} {s : State} (h : named allParameters (byteAt x 0) = none) :
    ownReadParameter x s = (s, refuse .outOfRange) := by
  simp [ownReadParameter, h]

theorem ownReadParameter_known {x : List Byte} {s : State} {n : ParameterName}
    (h : named allParameters (byteAt x 0) = some n) :
    ownReadParameter x s = (s, accept (putInt4 (parameterValue s n) ++
      putInt4 (if byteAt x 0 = 1 then (s.table.tb : Int) else n.limits.1) ++ putInt4 n.limits.2.1 ++
      putInt4 n.limits.2.2 ++ putBool n.live ++ put1 s.mode.ctorIdx)) := by
  simp [ownReadParameter, h, reportedLow, named_qb_iff h]

/-- Settles O17: the two lists of the statement are the model's, read at the place of the parameter named. -/
theorem readParameterReports : Obligations.ReadParameterReports := by
  unfold Obligations.ReadParameterReports
  intro p payload s hd
  constructor
  · intro h
    have unknown : named allParameters (byteAt payload 0) = none := List.getElem?_eq_none h
    exact exec_of_owner rfl rfl rfl hd (ownReadParameter_unknown unknown)
  · intro lo hi dflt live v hrow hvalue
    simp only [parameterTable_eq, valuesInForce_eq, List.getElem?_map, Option.map_eq_some_iff] at hrow hvalue
    obtain ⟨n, hn, hlimits⟩ := hrow
    obtain ⟨m, hm, rfl⟩ := hvalue
    obtain rfl : n = m := Option.some.inj (hn.symm.trans hm)
    cases hlimits
    exact exec_of_owner rfl rfl rfl hd (ownReadParameter_known hn)

/-! ## CLEARANCE_STATUS -/

/-- The water figures that CLEARANCE_STATUS sends in every case (R48). -/
def waterFigures (s : State) : List Byte :=
  putOpt 2 putInt2 s.water.accepted ++ putOpt 2 putInt2 s.water.candidate ++ put1 s.water.gauge.ctorIdx ++
    putInt2 s.water.effective ++ putOpt 2 (fun (n : Nat) => put2 (n / 1000)) s.water.sinceMs ++
    putInt4 s.params.closedClearance ++ putInt4 s.params.margin ++ putInt4 s.params.tideAllowance ++
    putInt4 s.params.gaugeMargin ++ putInt4 s.params.highWater ++ putInt4 s.params.lowWater ++
    putInt4 s.params.maxLift ++ putInt4 s.params.jumpLimit

theorem optional_none {α : Type} {k : Nat} (v : α) (h : 2 ≤ k) : optional k v = none := by
  match k, h with
  | k + 2, _ => rfl

theorem ownClearanceStatus_absent {x : List Byte} {s : State} (h : byteAt x 0 = 0) :
    ownClearanceStatus x s = (s, accept (waterFigures s)) := by
  simp [ownClearanceStatus, h, optional, waterFigures]

theorem ownClearanceStatus_refused {x : List Byte} {s : State}
    (h : 2 ≤ byteAt x 0 ∨ byteAt x 0 = 1 ∧ (wordAt x 1 < 100 ∨ 6000 < wordAt x 1)) :
    ownClearanceStatus x s = (s, refuse .outOfRange) := by
  rcases h with h | ⟨h, hrange⟩
  · simp [ownClearanceStatus, optional_none _ h]
  · simp [ownClearanceStatus, h, optional, hrange]

theorem ownClearanceStatus_named {x : List Byte} {s : State} (h : byteAt x 0 = 1) (hlow : 100 ≤ wordAt x 1)
    (hhigh : wordAt x 1 ≤ 6000) :
    ownClearanceStatus x s = (s, accept (waterFigures s ++ putFigures s (wordAt x 1))) := by
  have hrange : ¬ (wordAt x 1 < 100 ∨ 6000 < wordAt x 1) := by omega
  simp [ownClearanceStatus, h, optional, hrange, waterFigures]

/-- The allowance X adds to the need (R39). -/
theorem need_allowance (p : Parameters) (a l x : Int) : need p a l x = need p a l 0 + x := by
  unfold need
  omega

theorem waterFigures_eq (s : State) :
    waterFigures s = putOpt 2 putInt2 s.water.accepted ++ putOpt 2 putInt2 s.water.candidate ++
      put1 (match s.water.gauge with | .unread => 0 | .live => 1 | .stale => 2) ++ putInt2 s.water.effective ++
      putOpt 2 put2 (s.water.sinceMs.map (· / 1000)) ++ putInt4 s.params.closedClearance ++ putInt4 s.params.margin ++
      putInt4 s.params.tideAllowance ++ putInt4 s.params.gaugeMargin ++ putInt4 s.params.highWater ++
      putInt4 s.params.lowWater ++ putInt4 s.params.maxLift ++ putInt4 s.params.jumpLimit := by
  unfold waterFigures
  congr 9
  · cases s.water.gauge <;> rfl
  · cases s.water.sinceMs <;> rfl

/-- Settles O18: the water figures, and behind them those of the named air draft, are the ones of the statement. -/
theorem clearanceStatusFigures : Obligations.ClearanceStatusFigures := by
  unfold Obligations.ClearanceStatusFigures
  rintro p x base s hd hbase
  obtain rfl : base = waterFigures s := hbase.trans (waterFigures_eq s).symm
  refine ⟨fun h => ?absent, fun h => ?refused, fun a n m h hlow hhigh ha hn hm => ?named⟩
  case absent => exact exec_of_owner rfl rfl rfl hd (ownClearanceStatus_absent h)
  case refused => exact exec_of_owner rfl rfl rfl hd (ownClearanceStatus_refused h)
  case named =>
    have figures : putFigures s a = putInt2 n ++ put2 (liftOfNeed n / 100).toNat ++
        put2 (liftOfNeed (n + s.params.tideAllowance) / 100).toNat ++
        putBool (decide (s.params.maxLift <
          10 * (a + s.params.margin + s.params.lowWater - s.params.closedClearance))) ++
        putBool (decide (n ≤ 0)) ++
        putBool (decide (a + s.params.margin + s.params.highWater - s.params.closedClearance ≤ 0)) ++
        putBool (decide (s.params.maxLift < liftOfNeed (n + s.params.tideAllowance))) ++
        putOpt 2 putInt2 (if s.drive.valid then some m else none) ++
        putOpt 1 putBool (if s.drive.valid then some (decide (a + s.params.margin ≤ m)) else none) := by
      have hneed : need s.params a s.water.effective 0 = n := by unfold need; omega
      have hfits : need s.params a s.params.highWater 0 =
        a + s.params.margin + s.params.highWater - s.params.closedClearance := by unfold need; omega
      have havail : availableClearance s = m := hm.symm
      have hsufficient : s.drive.valid = true → sufficient s a = decide (a + s.params.margin ≤ m) := by
        intro hv
        simp [sufficient, hv, havail]
      unfold putFigures
      simp only [tooTall, fitsUnder, tideHeld, requiredLift, need_allowance s.params a s.water.effective
        s.params.tideAllowance, hneed, hfits, havail]
      cases hv : s.drive.valid with
      | true => rw [hsufficient hv]
      | false => rfl
    have own : ownClearanceStatus x (taken p 17 x s) = (taken p 17 x s, accept (waterFigures s ++ putFigures s a)) :=
      ha ▸ ownClearanceStatus_named (s := taken p 17 x s) h hlow hhigh
    rw [figures] at own
    simpa only [accept, List.append_assoc] using exec_of_owner rfl rfl rfl hd own

end Sys2Proof.Machine
end


section
/-!
What the work on an opening's slots leaves alone: `offSlots` is the state without its ports, its table, the flags of the
queue-critical report, the zone list and the re-lift mark, and with the opening reduced to its frame. The reads and
changes of the table, the changes of slots, the joins and the clearance checks all keep it.
-/

namespace Sys2Proof.Machine

/-- An opening without its slots and its counts. -/
def Opening.frame (o : Opening) : Opening :=
  { o with slots := [], taken := 0, withdrawn := 0, returned := 0, lost := 0, nextSerial := 0, proceedCount := 0 }

/-- A state without what the work on slots changes. -/
def offSlots (s : State) : State :=
  { s with
    ports := State.reset.ports, table := State.reset.table,
    planner := { s.planner with queueCritical := false, evaluationOwed := false },
    seq := { s.seq with opening := s.seq.opening.map Opening.frame },
    channel := { s.channel with zoneList := [], reliftArmed := false } }

/-! ## Small updates -/

@[simp] theorem offSlots_raiseControl (x : ControlSource) (s : State) : offSlots (raiseControl x s) = offSlots s := rfl
@[simp] theorem offSlots_raiseHarbour (x : HarbourSource) (s : State) : offSlots (raiseHarbour x s) = offSlots s := rfl
@[simp] theorem offSlots_setPort (p : Port) (r : PortRecord) (s : State) : offSlots (setPort p r s) = offSlots s := rfl
@[simp] theorem offSlots_taken (p : Port) (n : Nat) (x : List Byte) (s : State) :
    offSlots (taken p n x s) = offSlots s := rfl
@[simp] theorem offSlots_mapTable (f : Table → Table) (s : State) : offSlots (mapTable f s) = offSlots s := rfl
@[simp] theorem offSlots_writeEntry (i : Nat) (e : Entry) (s : State) : offSlots (writeEntry i e s) = offSlots s := rfl
@[simp] theorem offSlots_writeGeneration (i : Nat) (g : BitVec 4) (s : State) :
    offSlots (writeGeneration i g s) = offSlots s := rfl
@[simp] theorem offSlots_leaveZone (serial : Nat) (s : State) : offSlots (leaveZone serial s) = offSlots s := rfl

/-- A change of the opening that keeps its frame. -/
theorem offSlots_mapOpening {f : Opening → Opening} (h : ∀ o, (f o).frame = o.frame) (s : State) :
    offSlots (mapOpening f s) = offSlots s := by
  have hframe : (s.seq.opening.map f).map Opening.frame = s.seq.opening.map Opening.frame := by
    rw [Option.map_map]
    exact congrArg (Option.map · _) (funext h)
  simp only [offSlots, mapOpening, hframe]

@[simp] theorem offSlots_mapSlot (serial : Nat) (f : Slot → Slot) (s : State) :
    offSlots (mapSlot serial f s) = offSlots s :=
  offSlots_mapOpening (by intro; rfl) s

/-! ## The table -/

@[simp] theorem offSlots_refreshQueueCritical (s : State) : offSlots (refreshQueueCritical s) = offSlots s := by
  unfold refreshQueueCritical
  dsimp only
  (repeat' split) <;> rfl

@[simp] theorem offSlots_leaveDue (i : Nat) (s : State) : offSlots (leaveDue i s) = offSlots s := by
  simp [leaveDue, dropDue]

@[simp] theorem offSlots_joinDue (place : List Nat → List Nat) (s : State) :
    offSlots (joinDue place s) = offSlots s := by
  simp [joinDue]

@[simp] theorem offSlots_loseSlot (i : Nat) (s : State) : offSlots (loseSlot i s) = offSlots s :=
  offSlots_mapOpening (fun o => by split <;> rfl) s

@[simp] theorem offSlots_damageEntry (i : Nat) (s : State) : offSlots (damageEntry i s) = offSlots s := by
  unfold damageEntry
  dsimp only
  split <;> simp [recordDamage, joinArrivals]

@[simp] theorem offSlots_verifyEntry (i : Nat) (s : State) : offSlots (verifyEntry i s) = offSlots s := by
  unfold verifyEntry
  dsimp only
  (repeat' split) <;> simp

@[simp] theorem offSlots_verifyGeneration (i : Nat) (s : State) : offSlots (verifyGeneration i s) = offSlots s := by
  unfold verifyGeneration
  dsimp only
  (repeat' split) <;> simp

@[simp] theorem offSlots_verifyEntries (l : List Nat) (s : State) : offSlots (verifyEntries l s) = offSlots s :=
  foldl_keeps offSlots (fun s i => offSlots_verifyEntry i s) l s

@[simp] theorem offSlots_concludeEntry (i : Nat) (o : PassageOutcome) (s : State) :
    offSlots (concludeEntry i o s) = offSlots s := by
  unfold concludeEntry
  split <;> simp

@[simp] theorem offSlots_returnEntry (i : Nat) (named : Bool) (s : State) :
    offSlots (returnEntry i named s) = offSlots s := by
  unfold returnEntry
  dsimp only
  split <;> simp

@[simp] theorem offSlots_applyChange (c : Change) (i : Nat) (s : State) :
    offSlots (applyChange c i s) = offSlots s := by
  unfold applyChange
  (repeat' split) <;> simp

@[simp] theorem offSlots_ask (c : Change) (i : Nat) (s : State) : offSlots (ask c i s).1 = offSlots s := by
  unfold ask
  dsimp only
  (repeat' split) <;> simp

/-! ## Slots -/

@[simp] theorem offSlots_reportIfLost (x : Slot) (s : State) : offSlots (reportIfLost x s) = offSlots s := by
  unfold reportIfLost
  split <;> rfl

@[simp] theorem offSlots_finishSlot (serial : Nat) (o : PassageOutcome) (s : State) :
    offSlots (finishSlot serial o s) = offSlots s := by
  unfold finishSlot
  split <;> simp

@[simp] theorem offSlots_removeSlot (serial : Nat) (s : State) : offSlots (removeSlot serial s) = offSlots s := by
  unfold removeSlot
  split
  · rfl
  · simp only [offSlots_reportIfLost, offSlots_leaveZone]
    exact offSlots_mapOpening (by intro; rfl) s

@[simp] theorem offSlots_countReturned (s : State) : offSlots (countReturned s) = offSlots s :=
  offSlots_mapOpening (by intro; rfl) s

@[simp] theorem offSlots_countWithdrawn (s : State) : offSlots (countWithdrawn s) = offSlots s :=
  offSlots_mapOpening (by intro; rfl) s

@[simp] theorem offSlots_askSlot (c : Change) (serial : Nat) (s : State) :
    offSlots (askSlot c serial s).1 = offSlots s := by
  unfold askSlot
  split
  · rfl
  · split
    · rfl
    · next i _ =>
      have kept := offSlots_ask c i s
      split
      all_goals
        rename_i h
        rw [h] at kept
        simpa using kept

@[simp] theorem offSlots_withAsked (c : Change) (serial : Nat) (f : State → State)
    (hf : ∀ s, offSlots (f s) = offSlots s) (s : State) : offSlots (withAsked c serial f s) = offSlots s := by
  have kept := offSlots_askSlot c serial s
  unfold withAsked
  split
  next h => rw [h] at kept; rw [hf]; exact kept
  next h => rw [h] at kept; exact kept

@[simp] theorem offSlots_returnSlot (named : Bool) (serial : Nat) (s : State) :
    offSlots (returnSlot named serial s) = offSlots s :=
  offSlots_withAsked _ _ _ (fun s => by simp) s

@[simp] theorem offSlots_revertSlot (serial : Nat) (s : State) : offSlots (revertSlot serial s) = offSlots s :=
  offSlots_withAsked _ _ _ (fun s => by simp) s

@[simp] theorem offSlots_keepSlot (serial : Nat) (s : State) : offSlots (keepSlot serial s) = offSlots s := by
  simp [keepSlot]

@[simp] theorem offSlots_stopSlot (s : State) (x : Slot) : offSlots (stopSlot s x) = offSlots s := by
  unfold stopSlot
  (repeat' split) <;> simp

@[simp] theorem offSlots_closeSlot (s : State) (x : Slot) : offSlots (closeSlot s x) = offSlots s := by
  unfold closeSlot
  (repeat' split) <;> simp

@[simp] theorem offSlots_clearSlot (s : State) (x : Slot) : offSlots (clearSlot s x) = offSlots s := by
  unfold clearSlot
  split
  · rfl
  · exact offSlots_withAsked _ _ _ (fun s => by simp) s
  · simp

/-! ## Proceed, joins, clearance checks -/

@[simp] theorem offSlots_giveProceed (d : Direction) (s : State) : offSlots (giveProceed d s) = offSlots s := by
  unfold giveProceed
  split
  · rfl
  · exact offSlots_withAsked _ _ _ (fun s => offSlots_mapOpening (by intro; rfl) s) s

@[simp] theorem offSlots_fillSlot (i : Nat) (s : State) : offSlots (fillSlot i s) = offSlots s :=
  offSlots_mapOpening (by intro; rfl) s

@[simp] theorem offSlots_takeMember (number : BitVec 16) (i : Nat) (s : State) :
    offSlots (takeMember number i s).1 = offSlots s := by
  have kept := offSlots_ask (.assign number) i (verifyGeneration i s)
  unfold takeMember
  split
  all_goals
    rename_i h
    rw [h] at kept
    simpa using kept

@[simp] theorem offSlots_checkSlot (s : State) (x : Slot) : offSlots (checkSlot s x) = offSlots s := by
  unfold checkSlot
  dsimp only
  (repeat' split) <;> simp

@[simp] theorem offSlots_rearm (counted : Bool) (s : State) : offSlots (rearm counted s) = offSlots s := rfl

@[simp] theorem offSlots_clearanceCheck (counted : Bool) (s : State) :
    offSlots (clearanceCheck counted s) = offSlots s := by
  unfold clearanceCheck
  rw [offSlots_rearm, foldl_keeps offSlots offSlots_checkSlot]

@[simp] theorem offSlots_checkOneSlot (serial : Nat) (s : State) : offSlots (checkOneSlot serial s) = offSlots s := by
  unfold checkOneSlot
  split <;> simp

@[simp] theorem offSlots_considerJoin (s : State) (i : Nat) : offSlots (considerJoin s i) = offSlots s := by
  unfold considerJoin
  split
  · rfl
  · dsimp only
    split
    · rfl
    · split
      · next o _ _ _ =>
        have kept := offSlots_takeMember o.number i (verifyEntry i s)
        split
        all_goals
          rename_i h
          rw [h] at kept
        · split <;> simpa using kept
        · simpa using kept
      · simp

@[simp] theorem offSlots_considerJoins (p : Nat → Bool) (s : State) : offSlots (considerJoins p s) = offSlots s := by
  unfold considerJoins
  dsimp only
  rw [foldl_keeps offSlots offSlots_considerJoin, offSlots_verifyEntries]

/-! ## What two states with the same remainder share -/

theorem seq_state_of_offSlots {s t : State} (h : offSlots t = offSlots s) : t.seq.state = s.seq.state :=
  congrArg (·.seq.state) h
theorem params_of_offSlots {s t : State} (h : offSlots t = offSlots s) : t.params = s.params :=
  congrArg (·.params) h
theorem drive_of_offSlots {s t : State} (h : offSlots t = offSlots s) : t.drive = s.drive := congrArg (·.drive) h
theorem guard_of_offSlots {s t : State} (h : offSlots t = offSlots s) : t.guard = s.guard := congrArg (·.guard) h
theorem inputs_of_offSlots {s t : State} (h : offSlots t = offSlots s) : t.inputs = s.inputs := congrArg (·.inputs) h
theorem serving_of_offSlots {s t : State} (h : offSlots t = offSlots s) : t.channel.serving = s.channel.serving :=
  congrArg (·.channel.serving) h
theorem recognizers_of_offSlots {s t : State} (h : offSlots t = offSlots s) :
    t.channel.recognizers = s.channel.recognizers :=
  congrArg (·.channel.recognizers) h
theorem maxRaised_of_offSlots {s t : State} (h : offSlots t = offSlots s) : t.planner.maxRaised = s.planner.maxRaised :=
  congrArg (·.planner.maxRaised) h

/-- An opening in one of them stands in the other with the same frame. -/
theorem opening_of_offSlots {s t : State} {o : Opening} (h : offSlots t = offSlots s) (ho : s.seq.opening = some o) :
    ∃ o', t.seq.opening = some o' ∧ o'.frame = o.frame := by
  have hmap : t.seq.opening.map Opening.frame = s.seq.opening.map Opening.frame := congrArg (·.seq.opening) h
  rw [ho] at hmap
  exact Option.map_eq_some_iff.mp hmap

theorem opening_none_of_offSlots {s t : State} (h : offSlots t = offSlots s) (ho : s.seq.opening = none) :
    t.seq.opening = none := by
  have hmap : t.seq.opening.map Opening.frame = s.seq.opening.map Opening.frame := congrArg (·.seq.opening) h
  rw [ho] at hmap
  exact Option.map_eq_none_iff.mp hmap

theorem closingCause_of_frame {o o' : Opening} (h : o'.frame = o.frame) : o'.closingCause = o.closingCause :=
  congrArg (·.closingCause) h

/-! ## The closing call -/

/-- The first closing call of an opening: all that the work on the slots leaves alone (R66 to R68). -/
theorem offSlots_setClosingCall (cause : ClosingCause) {s : State} {o : Opening} (ho : s.seq.opening = some o)
    (hc : o.closingCause = none) :
    offSlots (setClosingCall cause s) = offSlots (mapChannel (fun c => { c with servingRuns := false }) (dropServing
      { mapOpening (fun o => { o with closingCause := some cause }) s with
        planner := { s.planner with maxRaised := .stopped } })) := by
  simp only [setClosingCall, ho, hc, Option.isSome_none, Bool.false_eq_true, ↓reduceIte]
  exact foldl_keeps offSlots offSlots_closeSlot o.slots _

theorem setClosingCall_of_none (cause : ClosingCause) {s : State} (ho : s.seq.opening = none) :
    setClosingCall cause s = s := by
  simp [setClosingCall, ho]

theorem setClosingCall_of_set (cause : ClosingCause) {s : State} {o : Opening} (ho : s.seq.opening = some o)
    (hc : o.closingCause.isSome = true) : setClosingCall cause s = s := by
  simp [setClosingCall, ho, hc]

theorem dropServing_serving (s : State) : (dropServing s).channel.serving = none := by
  unfold dropServing mapChannel
  dsimp only
  split
  · rfl
  · assumption

@[simp] theorem dropServing_seq (s : State) : (dropServing s).seq = s.seq := by
  simp [dropServing]

@[simp] theorem dropServing_planner (s : State) : (dropServing s).planner = s.planner := by
  simp [dropServing]

/-- The sequence controller without its opening. -/
def Sequence.bare (q : Sequence) : Sequence := { q with opening := none }

theorem setClosingCall_bare (cause : ClosingCause) (s : State) :
    (setClosingCall cause s).seq.bare = s.seq.bare := by
  match ho : s.seq.opening with
  | none => rw [setClosingCall_of_none cause ho]
  | some o =>
    cases hc : o.closingCause with
    | some c => rw [setClosingCall_of_set cause ho (by simp [hc])]
    | none =>
      have kept := congrArg (fun t => t.seq.bare) (offSlots_setClosingCall cause ho hc)
      simpa [offSlots, mapOpening, Sequence.bare] using kept

@[simp] theorem setClosingCall_state (cause : ClosingCause) (s : State) :
    (setClosingCall cause s).seq.state = s.seq.state := by
  have kept := congrArg Sequence.state (setClosingCall_bare cause s)
  exact kept

/-- After a closing call an opening stands with a closing cause: the one it had, or the one given. -/
theorem setClosingCall_opening (cause : ClosingCause) {s : State} {o : Opening} (ho : s.seq.opening = some o) :
    ∃ o', (setClosingCall cause s).seq.opening = some o' ∧
      o'.frame = { o.frame with closingCause := some (o.closingCause.getD cause) } := by
  cases hc : o.closingCause with
  | some c =>
    rw [setClosingCall_of_set cause ho (by simp [hc])]
    exact ⟨o, ho, by simp [Opening.frame, hc]⟩
  | none =>
    have called : (mapChannel (fun c => { c with servingRuns := false }) (dropServing
        { mapOpening (fun o => { o with closingCause := some cause }) s with
          planner := { s.planner with maxRaised := .stopped } })).seq.opening =
        some { o with closingCause := some cause } := by
      simp [mapOpening, ho]
    obtain ⟨o', ho', hframe⟩ := opening_of_offSlots (offSlots_setClosingCall cause ho hc) called
    exact ⟨o', ho', hframe⟩

theorem setClosingCall_closingCause (cause : ClosingCause) {s : State} {o : Opening} (ho : s.seq.opening = some o)
    (hc : o.closingCause = none) :
    ∃ o', (setClosingCall cause s).seq.opening = some o' ∧ o'.closingCause = some cause := by
  obtain ⟨o', ho', hframe⟩ := setClosingCall_opening cause ho
  exact ⟨o', ho', by rw [show o'.closingCause = o'.frame.closingCause from rfl, hframe, hc]; rfl⟩

/-- A first closing call stops the max raised timer and ends serving (R66, R183). -/
theorem setClosingCall_stops (cause : ClosingCause) {s : State} {o : Opening} (ho : s.seq.opening = some o)
    (hc : o.closingCause = none) :
    (setClosingCall cause s).planner.maxRaised = .stopped ∧ (setClosingCall cause s).channel.serving = none := by
  have kept := offSlots_setClosingCall cause ho hc
  refine ⟨(maxRaised_of_offSlots kept).trans ?_, (serving_of_offSlots kept).trans ?_⟩
  · simp
  · exact dropServing_serving _

/-! ## Expiries of timers that do not run -/

theorem expire_still {t : Timer} (act : State → State) (s : State) (h : t.isRunning = false) : expire t act s = s :=
  match t, h with
  | .stopped, _ | .paused _ _, _ | .over _, _ => rfl

theorem expireMinutes_still {t : Timer} (act : State → State) (s : State) (h : t.isRunning = false) :
    expireMinutes t act s = s :=
  match t, h with
  | .stopped, _ | .paused _ _, _ | .over _, _ => rfl

/-! ## The planner's timers -/

/-- Settles O34: the first two expiries are their definitions, and that of the max raised timer is a closing call. -/
theorem plannerTimersExpire : Obligations.PlannerTimersExpire := by
  unfold Obligations.PlannerTimersExpire
  refine ⟨fun s k l h => ?holdOff, fun s k l v h hv => ?priority, fun s k l o h ho hc => ?raised, fun s =>
    ⟨fun h => ?stillHoldOff, fun h => ?stillPriority, fun h => ?stillRaised⟩⟩
  case holdOff =>
    show Host.Outcome.next (expireMinutes s.planner.holdOff _ s) = _
    rw [h]
    rfl
  case priority =>
    subst hv
    show Host.Outcome.next (expireMinutes s.planner.roadPriorityTimer _ s) = _
    rw [h]
    rfl
  case raised =>
    obtain ⟨o', ho', hcause⟩ := setClosingCall_closingCause .maxRaised
      (s := mapPlanner (fun p => { p with maxRaised := .stopped }) s) ho hc
    obtain ⟨hstopped, hserving⟩ := setClosingCall_stops .maxRaised
      (s := mapPlanner (fun p => { p with maxRaised := .stopped }) s) ho hc
    refine ⟨_, o', ?_, ho', hcause, hstopped, hserving⟩
    show Host.Outcome.next (expireMinutes s.planner.maxRaised _ s) = _
    rw [h]
    rfl
  case stillHoldOff => exact congrArg _ (expireMinutes_still _ s h)
  case stillPriority => exact congrArg _ (expireMinutes_still _ s h)
  case stillRaised => exact congrArg _ (expireMinutes_still _ s h)

end Sys2Proof.Machine
end


section
/-!
Attention sources stay pending (R221): no operation but a fetch takes a source out of a port's attention set. `Lit` says
that a source is pending at a port; every operation up to the consequences of a change keeps it.
-/

namespace Sys2Proof.Machine

/-- A source is pending at a port. -/
def Lit (port : Port) (bit : Nat) (s : State) : Prop := (s.ports.get port).attention.getLsbD bit = true

variable {port : Port} {bit : Nat}

theorem lit_of_ports {s t : State} (h : t.ports = s.ports) (lit : Lit port bit s) : Lit port bit t := by
  unfold Lit
  rw [h]
  exact lit

@[simp] theorem lit_raiseControl (x : ControlSource) (s : State) (lit : Lit port bit s) :
    Lit port bit (raiseControl x s) := by
  cases port with
  | control =>
    have source : s.ports.control.attention.getLsbD bit = true := lit
    simp [Lit, raiseControl, PerPort.get, source]
  | harbour => exact lit

@[simp] theorem lit_raiseHarbour (x : HarbourSource) (s : State) (lit : Lit port bit s) :
    Lit port bit (raiseHarbour x s) := by
  cases port with
  | control => exact lit
  | harbour =>
    have source : s.ports.harbour.attention.getLsbD bit = true := lit
    simp [Lit, raiseHarbour, PerPort.get, source]

theorem lit_foldl {α : Type} {f : State → α → State} (keeps : ∀ s x, Lit port bit s → Lit port bit (f s x))
    (l : List α) (s : State) (lit : Lit port bit s) : Lit port bit (l.foldl f s) := by
  induction l generalizing s with
  | nil => exact lit
  | cons x l ih => exact ih (f s x) (keeps s x lit)

@[simp] theorem lit_mapTable (f : Table → Table) (s : State) (lit : Lit port bit s) : Lit port bit (mapTable f s) :=
  lit_of_ports rfl lit

@[simp] theorem lit_mapChannel (f : Channel → Channel) (s : State) (lit : Lit port bit s) :
    Lit port bit (mapChannel f s) :=
  lit_of_ports rfl lit

@[simp] theorem lit_addCause (c : FaultCause) (s : State) (lit : Lit port bit s) : Lit port bit (addCause c s) :=
  lit_of_ports rfl lit

@[simp] theorem lit_setArm (a : Arm) (r : ArmRecord) (s : State) (lit : Lit port bit s) :
    Lit port bit (setArm a r s) :=
  lit_of_ports rfl lit

@[simp] theorem lit_setHead (h : Head) (r : HeadRecord) (s : State) (lit : Lit port bit s) :
    Lit port bit (setHead h r s) :=
  lit_of_ports rfl lit

@[simp] theorem lit_setLamp (h : Head) (l : Lamp) (r : LampRecord) (s : State) (lit : Lit port bit s) :
    Lit port bit (setLamp h l r s) :=
  lit_of_ports rfl lit

@[simp] theorem lit_setApproach (a : Approach) (r : ApproachRecord) (s : State) (lit : Lit port bit s) :
    Lit port bit (setApproach a r s) :=
  lit_of_ports rfl lit

@[simp] theorem lit_setDetector (d : Detector) (r : DetectorRecord) (s : State) (lit : Lit port bit s) :
    Lit port bit (setDetector d r s) :=
  lit_of_ports rfl lit

@[simp] theorem lit_setDeck (r : Deck) (s : State) (lit : Lit port bit s) : Lit port bit (setDeck r s) :=
  lit_of_ports rfl lit

@[simp] theorem lit_setBolt (b : Tower) (r : BoltRecord) (s : State) (lit : Lit port bit s) :
    Lit port bit (setBolt b r s) :=
  lit_of_ports rfl lit

@[simp] theorem lit_setTower (t : Tower) (r : TowerRecord) (s : State) (lit : Lit port bit s) :
    Lit port bit (setTower t r s) :=
  lit_of_ports rfl lit

@[simp] theorem lit_mapOpening (f : Opening → Opening) (s : State) (lit : Lit port bit s) :
    Lit port bit (mapOpening f s) :=
  lit_of_ports rfl lit

@[simp] theorem lit_mapDrive (f : Drive → Drive) (s : State) (lit : Lit port bit s) : Lit port bit (mapDrive f s) :=
  lit_of_ports rfl lit

@[simp] theorem lit_mapPlanner (f : Planner → Planner) (s : State) (lit : Lit port bit s) :
    Lit port bit (mapPlanner f s) :=
  lit_of_ports rfl lit

@[simp] theorem lit_mapSeq (f : Sequence → Sequence) (s : State) (lit : Lit port bit s) : Lit port bit (mapSeq f s) :=
  lit_of_ports rfl lit

@[simp] theorem lit_mapSlot (serial : Nat) (f : Slot → Slot) (s : State) (lit : Lit port bit s) :
    Lit port bit (mapSlot serial f s) :=
  lit_of_ports rfl lit

@[simp] theorem lit_rewriteLifts (s : State) (lit : Lit port bit s) : Lit port bit (rewriteLifts s) :=
  lit_of_ports rfl lit

@[simp] theorem lit_storeTarget (t : Int) (s : State) (lit : Lit port bit s) : Lit port bit (storeTarget t s) :=
  lit_of_ports rfl lit

@[simp] theorem lit_writeEntry (i : Nat) (e : Entry) (s : State) (lit : Lit port bit s) :
    Lit port bit (writeEntry i e s) :=
  lit_of_ports rfl lit

@[simp] theorem lit_writeGeneration (i : Nat) (g : BitVec 4) (s : State) (lit : Lit port bit s) :
    Lit port bit (writeGeneration i g s) :=
  lit_of_ports rfl lit

@[simp] theorem lit_refreshQueueCritical (s : State) (lit : Lit port bit s) :
    Lit port bit (refreshQueueCritical s) := by
  unfold refreshQueueCritical; dsimp only; (repeat' split) <;> simp +contextual (maxDischargeDepth := 12) [lit]

@[simp] theorem lit_dropDue (i : Nat) (s : State) (lit : Lit port bit s) : Lit port bit (dropDue i s) :=
  lit_of_ports rfl lit

@[simp] theorem lit_leaveDue (i : Nat) (s : State) (lit : Lit port bit s) : Lit port bit (leaveDue i s) := by
  unfold leaveDue
  simp (maxDischargeDepth := 12) [lit]

@[simp] theorem lit_joinDue (place : List Nat → List Nat) (s : State) (lit : Lit port bit s) :
    Lit port bit (joinDue place s) := by
  unfold joinDue
  simp (maxDischargeDepth := 12) [lit]

@[simp] theorem lit_leaveArrivals (i : Nat) (s : State) (lit : Lit port bit s) : Lit port bit (leaveArrivals i s) :=
  lit_of_ports rfl lit

@[simp] theorem lit_loseSlot (i : Nat) (s : State) (lit : Lit port bit s) : Lit port bit (loseSlot i s) :=
  lit_of_ports rfl lit

@[simp] theorem lit_recordDamage (i : Nat) (s : State) (lit : Lit port bit s) : Lit port bit (recordDamage i s) :=
  lit_of_ports rfl lit

@[simp] theorem lit_joinArrivals (i : Nat) (s : State) (lit : Lit port bit s) : Lit port bit (joinArrivals i s) :=
  lit_of_ports rfl lit

@[simp] theorem lit_damageEntry (i : Nat) (s : State) (lit : Lit port bit s) : Lit port bit (damageEntry i s) := by
  unfold damageEntry
  dsimp only
  split <;> simp (maxDischargeDepth := 12) [lit]

@[simp] theorem lit_verifyEntry (i : Nat) (s : State) (lit : Lit port bit s) : Lit port bit (verifyEntry i s) := by
  unfold verifyEntry
  dsimp only
  (repeat' split) <;> simp (maxDischargeDepth := 12) [lit]

@[simp] theorem lit_verifyGeneration (i : Nat) (s : State) (lit : Lit port bit s) :
    Lit port bit (verifyGeneration i s) := by
  unfold verifyGeneration
  dsimp only
  (repeat' split) <;> simp (maxDischargeDepth := 12) [lit]

@[simp] theorem lit_verifyEntries (l : List Nat) (s : State) (lit : Lit port bit s) :
    Lit port bit (verifyEntries l s) :=
  lit_foldl (fun s i => lit_verifyEntry i s) l s lit

@[simp] theorem lit_moveStamp (c : BitVec 16) (s : State) (i : Nat) (lit : Lit port bit s) :
    Lit port bit (moveStamp c s i) := by
  unfold moveStamp
  dsimp only
  split <;> simp (maxDischargeDepth := 12) [lit]

@[simp] theorem lit_advanceCounter (s : State) (lit : Lit port bit s) : Lit port bit (advanceCounter s) :=
  lit_foldl (fun s i => lit_moveStamp _ s i) _ _ (lit_mapTable _ _ lit)

@[simp] theorem lit_becomeDue (i : Nat) (s : State) (lit : Lit port bit s) : Lit port bit (becomeDue i s) := by
  unfold becomeDue
  simp (maxDischargeDepth := 12) [lit]

@[simp] theorem lit_concludeEntry (i : Nat) (o : PassageOutcome) (s : State) (lit : Lit port bit s) :
    Lit port bit (concludeEntry i o s) := by
  unfold concludeEntry
  split <;> simp (maxDischargeDepth := 12) [lit]

@[simp] theorem lit_returnEntry (i : Nat) (namedTideHeld : Bool) (s : State) (lit : Lit port bit s) :
    Lit port bit (returnEntry i namedTideHeld s) := by
  unfold returnEntry
  dsimp only
  split
  · simp (maxDischargeDepth := 12) [lit]
  · simp (maxDischargeDepth := 12) [lit]

@[simp] theorem lit_applyChange (c : Change) (i : Nat) (s : State) (lit : Lit port bit s) :
    Lit port bit (applyChange c i s) := by
  unfold applyChange
  (repeat' split) <;> simp (maxDischargeDepth := 12) [lit]

@[simp] theorem lit_ask (c : Change) (i : Nat) (s : State) (lit : Lit port bit s) : Lit port bit (ask c i s).1 := by
  unfold ask; dsimp only; (repeat' split) <;> simp (maxDischargeDepth := 12) [lit]

@[simp] theorem lit_askSlot (c : Change) (serial : Nat) (s : State) (lit : Lit port bit s) :
    Lit port bit (askSlot c serial s).1 := by
  unfold askSlot
  split
  · exact lit
  · split
    · exact lit
    · next i _ =>
      have asked := lit_ask c i s lit
      split
      all_goals
        rename_i h
        rw [h] at asked
        simp [show Lit port bit _ from asked]

theorem lit_withAsked (c : Change) (serial : Nat) (f : State → State)
    (keeps : ∀ s, Lit port bit s → Lit port bit (f s)) (s : State) (lit : Lit port bit s) :
    Lit port bit (withAsked c serial f s) := by
  have asked := lit_askSlot c serial s lit
  unfold withAsked
  split
  next h => rw [h] at asked; exact keeps _ asked
  next h => rw [h] at asked; exact asked

@[simp] theorem lit_vacateEntry (i : Nat) (s : State) (lit : Lit port bit s) : Lit port bit (vacateEntry i s) := by
  unfold vacateEntry
  simp (maxDischargeDepth := 12) [lit]

@[simp] theorem lit_retireEntry (i : Nat) (s : State) (lit : Lit port bit s) : Lit port bit (retireEntry i s) := by
  unfold retireEntry
  simp (maxDischargeDepth := 12) [lit]

@[simp] theorem lit_ageEntry (k : Nat) (s : State) (i : Nat) (lit : Lit port bit s) :
    Lit port bit (ageEntry k s i) := by
  unfold ageEntry
  dsimp only
  (repeat' split) <;> simp (maxDischargeDepth := 12) [lit]

@[simp] theorem lit_ageConcluded (k : Nat) (s : State) (lit : Lit port bit s) : Lit port bit (ageConcluded k s) :=
  lit_foldl (fun s i => lit_ageEntry k s i) _ _ lit

@[simp] theorem lit_visitBooked (m : Nat) (s : State) (i : Nat) (lit : Lit port bit s) :
    Lit port bit (visitBooked m s i) := by
  unfold visitBooked
  dsimp only
  (repeat' split) <;> simp (maxDischargeDepth := 12) [lit]

@[simp] theorem lit_lapseTimetable (s : State) (i : Nat) (lit : Lit port bit s) :
    Lit port bit (lapseTimetable s i) := by
  unfold lapseTimetable
  dsimp only
  (repeat' split) <;> simp (maxDischargeDepth := 12) [lit]

@[simp] theorem lit_recurTimetable (clockSlot : Nat) (s : State) (i : Nat) (lit : Lit port bit s) :
    Lit port bit (recurTimetable clockSlot s i) := by
  unfold recurTimetable
  dsimp only
  (repeat' split) <;> simp (maxDischargeDepth := 12) [lit]

@[simp] theorem lit_visitMinute (m : Nat) (s : State) (lit : Lit port bit s) : Lit port bit (visitMinute m s) := by
  have booked := lit_foldl (fun s i => lit_visitBooked m s i) (regionOf s.table .booked) s lit
  unfold visitMinute
  dsimp only
  split
  · exact lit_foldl (fun s i => lit_recurTimetable _ s i) _ _ (lit_foldl (fun s i => lit_lapseTimetable s i) _ _ booked)
  · exact booked

@[simp] theorem lit_rewriteTideHold (s : State) (i : Nat) (lit : Lit port bit s) :
    Lit port bit (rewriteTideHold s i) := by
  unfold rewriteTideHold
  dsimp only
  split <;> simp (maxDischargeDepth := 12) [lit]

@[simp] theorem lit_rewriteTideHolds (s : State) (lit : Lit port bit s) : Lit port bit (rewriteTideHolds s) :=
  lit_foldl (fun s i => lit_rewriteTideHold s i) _ _ lit

@[simp] theorem lit_leaveZone (serial : Nat) (s : State) (lit : Lit port bit s) : Lit port bit (leaveZone serial s) :=
  lit_of_ports rfl lit

@[simp] theorem lit_reportIfLost (x : Slot) (s : State) (lit : Lit port bit s) : Lit port bit (reportIfLost x s) := by
  unfold reportIfLost
  split <;> simp (maxDischargeDepth := 12) [lit]

@[simp] theorem lit_finishSlot (serial : Nat) (o : PassageOutcome) (s : State) (lit : Lit port bit s) :
    Lit port bit (finishSlot serial o s) := by
  unfold finishSlot
  split <;> simp (maxDischargeDepth := 12) [lit]

@[simp] theorem lit_removeSlot (serial : Nat) (s : State) (lit : Lit port bit s) :
    Lit port bit (removeSlot serial s) := by
  unfold removeSlot
  split <;> simp (maxDischargeDepth := 12) [lit]

@[simp] theorem lit_countReturned (s : State) (lit : Lit port bit s) : Lit port bit (countReturned s) :=
  lit_of_ports rfl lit

@[simp] theorem lit_countWithdrawn (s : State) (lit : Lit port bit s) : Lit port bit (countWithdrawn s) :=
  lit_of_ports rfl lit

@[simp] theorem lit_returnSlot (named : Bool) (serial : Nat) (s : State) (lit : Lit port bit s) :
    Lit port bit (returnSlot named serial s) :=
  lit_withAsked _ _ _ (fun s lit => by simp (maxDischargeDepth := 12) [lit]) s lit

@[simp] theorem lit_revertSlot (serial : Nat) (s : State) (lit : Lit port bit s) : Lit port bit (revertSlot serial s) :=
  lit_withAsked _ _ _ (fun s lit => by simp (maxDischargeDepth := 12) [lit]) s lit

@[simp] theorem lit_keepSlot (serial : Nat) (s : State) (lit : Lit port bit s) : Lit port bit (keepSlot serial s) :=
  lit_of_ports rfl lit

@[simp] theorem lit_dropServing (s : State) (lit : Lit port bit s) : Lit port bit (dropServing s) :=
  lit_of_ports rfl lit

@[simp] theorem lit_stopSlot (s : State) (x : Slot) (lit : Lit port bit s) : Lit port bit (stopSlot s x) := by
  unfold stopSlot
  (repeat' split) <;> simp (maxDischargeDepth := 12) [lit]

@[simp] theorem lit_stopServing (s : State) (lit : Lit port bit s) : Lit port bit (stopServing s) :=
  lit_foldl (fun s x => lit_stopSlot s x) _ _ (lit_mapChannel _ _ (lit_dropServing s lit))

@[simp] theorem lit_closeSlot (s : State) (x : Slot) (lit : Lit port bit s) : Lit port bit (closeSlot s x) := by
  unfold closeSlot
  (repeat' split) <;> simp (maxDischargeDepth := 12) [lit]

@[simp] theorem lit_setClosingCall (cause : ClosingCause) (s : State) (lit : Lit port bit s) :
    Lit port bit (setClosingCall cause s) := by
  unfold setClosingCall
  split
  · exact lit
  · split
    · exact lit
    · refine lit_foldl (fun s x => lit_closeSlot s x) _ _ (lit_mapChannel _ _ (lit_dropServing _ ?_))
      exact lit_of_ports rfl lit

@[simp] theorem lit_checkAllDone (s : State) (lit : Lit port bit s) : Lit port bit (checkAllDone s) := by
  unfold checkAllDone
  (repeat' split) <;> simp (maxDischargeDepth := 12) [lit]

@[simp] theorem lit_giveProceed (d : Direction) (s : State) (lit : Lit port bit s) :
    Lit port bit (giveProceed d s) := by
  unfold giveProceed
  split
  · exact lit
  · exact lit_withAsked _ _ _ (fun s lit => lit_mapOpening _ s lit) s lit

@[simp] theorem lit_takeUp (s : State) (lit : Lit port bit s) : Lit port bit (takeUp s) := by
  unfold takeUp
  split <;> simp (maxDischargeDepth := 12) [lit]

@[simp] theorem lit_readStanding (s : State) (lit : Lit port bit s) : Lit port bit (readStanding s) :=
  lit_of_ports rfl lit

@[simp] theorem lit_checkSlot (s : State) (x : Slot) (lit : Lit port bit s) : Lit port bit (checkSlot s x) := by
  unfold checkSlot
  dsimp only
  (repeat' split) <;> simp (maxDischargeDepth := 12) [lit]

@[simp] theorem lit_rearm (counted : Bool) (s : State) (lit : Lit port bit s) : Lit port bit (rearm counted s) :=
  lit_of_ports rfl lit

@[simp] theorem lit_clearanceCheck (counted : Bool) (s : State) (lit : Lit port bit s) :
    Lit port bit (clearanceCheck counted s) :=
  lit_rearm _ _ (lit_foldl (fun s x => lit_checkSlot s x) _ _ lit)

@[simp] theorem lit_checkOneSlot (serial : Nat) (s : State) (lit : Lit port bit s) :
    Lit port bit (checkOneSlot serial s) := by
  unfold checkOneSlot
  split <;> simp (maxDischargeDepth := 12) [lit]

@[simp] theorem lit_waterAtChannel (s : State) (lit : Lit port bit s) : Lit port bit (waterAtChannel s) := by
  unfold waterAtChannel
  (repeat' split) <;> simp (maxDischargeDepth := 12) [lit]

@[simp] theorem lit_fillSlot (i : Nat) (s : State) (lit : Lit port bit s) : Lit port bit (fillSlot i s) :=
  lit_of_ports rfl lit

@[simp] theorem lit_takeMember (number : BitVec 16) (i : Nat) (s : State) (lit : Lit port bit s) :
    Lit port bit (takeMember number i s).1 := by
  have asked := lit_ask (.assign number) i _ (lit_verifyGeneration i s lit)
  unfold takeMember
  split
  all_goals
    rename_i h
    rw [h] at asked
    exact asked

@[simp] theorem lit_considerJoin (s : State) (i : Nat) (lit : Lit port bit s) : Lit port bit (considerJoin s i) := by
  unfold considerJoin
  split
  · exact lit
  · dsimp only
    split
    · exact lit
    · split
      · next o _ _ _ =>
        have joined := lit_takeMember o.number i _ (lit_verifyEntry i s lit)
        split
        all_goals
          rename_i h
          rw [h] at joined
        · split <;> simp (maxDischargeDepth := 12) [show Lit port bit _ from joined]
        · exact joined
      · exact lit_verifyEntry i s lit

@[simp] theorem lit_considerJoins (p : Nat → Bool) (s : State) (lit : Lit port bit s) :
    Lit port bit (considerJoins p s) :=
  lit_foldl (fun s i => lit_considerJoin s i) _ _ (lit_verifyEntries _ s lit)

theorem lit_selectEntry (number : BitVec 16) (acc : State × List Nat) (i : Nat) (lit : Lit port bit acc.1) :
    Lit port bit (selectEntry number acc i).1 := by
  unfold selectEntry
  split
  · exact lit
  · dsimp only
    (repeat' split)
    · simp [lit]
    · simp (maxDischargeDepth := 12) [lit]
    all_goals
      rename_i h
      have joined := lit_takeMember number i _ (lit_verifyEntry i _ lit)
      rw [h] at joined
      exact joined

/-- A fold whose state is one half of a pair. -/
theorem lit_foldl_fst {α β : Type} {f : State × β → α → State × β}
    (keeps : ∀ acc x, Lit port bit acc.1 → Lit port bit (f acc x).1) (l : List α) (acc : State × β)
    (lit : Lit port bit acc.1) : Lit port bit (l.foldl f acc).1 := by
  induction l generalizing acc with
  | nil => exact lit
  | cons x l ih => exact ih (f acc x) (keeps acc x lit)

theorem lit_selectMembers (number : BitVec 16) (s : State) (lit : Lit port bit s) :
    Lit port bit (selectMembers number s).1 :=
  lit_foldl_fst (fun acc _ => lit_foldl_fst (lit_selectEntry number) _ acc) _ _ (lit_verifyEntries _ s lit)

@[simp] theorem lit_concludeSlot (o : PassageOutcome) (serial : Nat) (s : State) (lit : Lit port bit s) :
    Lit port bit (concludeSlot o serial s) :=
  lit_withAsked _ _ _ (fun s lit => by simp (maxDischargeDepth := 12) [lit]) s lit

@[simp] theorem lit_refreshMasts (s : State) (lit : Lit port bit s) : Lit port bit (refreshMasts s) :=
  lit_of_ports rfl lit

@[simp] theorem lit_switchLamp (h : Head) (on : Bool) (s : State) (l : Lamp) (lit : Lit port bit s) :
    Lit port bit (switchLamp h on s l) := by
  unfold switchLamp
  dsimp only
  (repeat' split) <;> simp (maxDischargeDepth := 12) [lit]

@[simp] theorem lit_applyHead (s : State) (h : Head) (lit : Lit port bit s) : Lit port bit (applyHead s h) :=
  lit_foldl (fun s l => lit_switchLamp h _ s l) _ _ lit

@[simp] theorem lit_applyPhase (a : Approach) (s : State) (lit : Lit port bit s) : Lit port bit (applyPhase a s) :=
  lit_foldl (fun s h => lit_applyHead s h) _ _ lit

@[simp] theorem lit_evaluateApproach (a : Approach) (s : State) (lit : Lit port bit s) :
    Lit port bit (evaluateApproach a s) := by
  unfold evaluateApproach
  dsimp only
  split <;> simp (maxDischargeDepth := 12) [lit]

@[simp] theorem lit_startCount (a : Approach) (s : State) (lit : Lit port bit s) : Lit port bit (startCount a s) :=
  lit_of_ports rfl lit

@[simp] theorem lit_showRed (a : Approach) (s : State) (lit : Lit port bit s) : Lit port bit (showRed a s) := by
  unfold showRed
  simp (maxDischargeDepth := 12) [lit]

@[simp] theorem lit_enterRed (a : Approach) (s : State) (lit : Lit port bit s) : Lit port bit (enterRed a s) := by
  unfold enterRed
  split <;> simp (maxDischargeDepth := 12) [lit]

@[simp] theorem lit_enterDark (a : Approach) (s : State) (lit : Lit port bit s) : Lit port bit (enterDark a s) := by
  unfold enterDark
  simp (maxDischargeDepth := 12) [lit]

@[simp] theorem lit_enterAmber (a : Approach) (s : State) (lit : Lit port bit s) : Lit port bit (enterAmber a s) := by
  unfold enterAmber
  simp (maxDischargeDepth := 12) [lit]

@[simp] theorem lit_giveWarning (a : Approach) (s : State) (lit : Lit port bit s) :
    Lit port bit (giveWarning a s) := by
  unfold giveWarning
  dsimp only
  split <;> simp (maxDischargeDepth := 12) [lit]

@[simp] theorem lit_giveWarnings (s : State) (lit : Lit port bit s) : Lit port bit (giveWarnings s) := by
  unfold giveWarnings
  simp (maxDischargeDepth := 12) [lit]

@[simp] theorem lit_takeWarning (a : Approach) (s : State) (lit : Lit port bit s) :
    Lit port bit (takeWarning a s) := by
  unfold takeWarning
  dsimp only
  split <;> simp (maxDischargeDepth := 12) [lit]

@[simp] theorem lit_takeWarnings (s : State) (lit : Lit port bit s) : Lit port bit (takeWarnings s) := by
  unfold takeWarnings
  simp (maxDischargeDepth := 12) [lit]

@[simp] theorem lit_armFault (a : Arm) (why : ArmFaultReason) (s : State) (lit : Lit port bit s) :
    Lit port bit (armFault a why s) :=
  lit_raiseControl _ _ (lit_setArm _ _ s lit)

@[simp] theorem lit_commandDown (a : Arm) (s : State) (lit : Lit port bit s) : Lit port bit (commandDown a s) := by
  unfold commandDown
  dsimp only
  (repeat' split) <;> simp (maxDischargeDepth := 12) [lit]

@[simp] theorem lit_commandUp (a : Arm) (s : State) (lit : Lit port bit s) : Lit port bit (commandUp a s) := by
  unfold commandUp
  dsimp only
  (repeat' split) <;> simp (maxDischargeDepth := 12) [lit]

@[simp] theorem lit_dropRaising (s : State) (a : Arm) (lit : Lit port bit s) : Lit port bit (dropRaising s a) := by
  unfold dropRaising
  split <;> simp (maxDischargeDepth := 12) [lit]

@[simp] theorem lit_startOccupancy (s : State) (d : Detector) (lit : Lit port bit s) :
    Lit port bit (startOccupancy s d) :=
  lit_of_ports rfl lit

@[simp] theorem lit_stopOccupancies (s : State) (lit : Lit port bit s) : Lit port bit (stopOccupancies s) :=
  lit_of_ports rfl lit

@[simp] theorem lit_startMeasurement (reentry : Bool) (s : State) (lit : Lit port bit s) :
    Lit port bit (startMeasurement reentry s) :=
  lit_foldl (fun s d => lit_startOccupancy s d) _ _ (lit_setDeck _ s lit)

@[simp] theorem lit_dropMeasurement (s : State) (lit : Lit port bit s) : Lit port bit (dropMeasurement s) :=
  lit_of_ports rfl lit

@[simp] theorem lit_locateTower (t : Tower) (s : State) (lit : Lit port bit s) : Lit port bit (locateTower t s) :=
  lit_of_ports rfl lit

@[simp] theorem lit_computePositions (s : State) (lit : Lit port bit s) : Lit port bit (computePositions s) :=
  lit_of_ports rfl lit

@[simp] theorem lit_seatZeroing (s : State) (lit : Lit port bit s) : Lit port bit (seatZeroing s) := by
  unfold seatZeroing
  dsimp only
  split <;> simp (maxDischargeDepth := 12) [lit]

@[simp] theorem lit_turnDown (s : State) (lit : Lit port bit s) : Lit port bit (turnDown s) :=
  lit_of_ports rfl lit

@[simp] theorem lit_endMotion (s : State) (lit : Lit port bit s) : Lit port bit (endMotion s) :=
  lit_of_ports rfl lit

@[simp] theorem lit_stopLocks (s : State) (lit : Lit port bit s) : Lit port bit (stopLocks s) :=
  lit_of_ports rfl lit

@[simp] theorem lit_brakesSet (s : State) (lit : Lit port bit s) : Lit port bit (brakesSet s) :=
  lit_of_ports rfl lit

@[simp] theorem lit_holdMotion (why : HoldReason) (s : State) (lit : Lit port bit s) :
    Lit port bit (holdMotion why s) :=
  lit_of_ports rfl lit

@[simp] theorem lit_beginPhase (s : State) (lit : Lit port bit s) : Lit port bit (beginPhase s) := by
  unfold beginPhase
  (repeat' split) <;> simp (maxDischargeDepth := 12) [lit]

@[simp] theorem lit_startMotion (m : Motion) (dir : Vertical) (target : Option Int) (s : State) (lit : Lit port bit s) :
    Lit port bit (startMotion m dir target s) := by
  unfold startMotion
  simp (maxDischargeDepth := 12) [lit]

@[simp] theorem lit_setReferences (s : State) (lit : Lit port bit s) : Lit port bit (setReferences s) :=
  lit_of_ports rfl lit

@[simp] theorem lit_endJog (s : State) (lit : Lit port bit s) : Lit port bit (endJog s) := by
  unfold endJog
  split <;> simp (maxDischargeDepth := 12) [lit]

@[simp] theorem lit_withdrawBolts (s : State) (lit : Lit port bit s) : Lit port bit (withdrawBolts s) :=
  lit_of_ports rfl lit

@[simp] theorem lit_driveBolts (s : State) (lit : Lit port bit s) : Lit port bit (driveBolts s) :=
  lit_of_ports rfl lit

@[simp] theorem lit_driveWaiting (s : State) (lit : Lit port bit s) : Lit port bit (driveWaiting s) :=
  lit_of_ports rfl lit

@[simp] theorem lit_setSeq (st : SeqState) (s : State) (lit : Lit port bit s) : Lit port bit (setSeq st s) := by
  unfold setSeq
  dsimp only
  (repeat' split) <;> simp (maxDischargeDepth := 12) [lit]

@[simp] theorem lit_startHoldOff (s : State) (lit : Lit port bit s) : Lit port bit (startHoldOff s) :=
  lit_of_ports rfl lit

@[simp] theorem lit_clearSlot (s : State) (x : Slot) (lit : Lit port bit s) : Lit port bit (clearSlot s x) := by
  unfold clearSlot
  split
  · exact lit
  · exact lit_withAsked _ _ _ (fun s => lit_finishSlot _ _ s) s lit
  · exact lit_returnSlot _ _ s lit

@[simp] theorem lit_closeRecord (st : SeqState) (s : State) (lit : Lit port bit s) : Lit port bit (closeRecord st s) := by
  unfold closeRecord
  split <;> simp (maxDischargeDepth := 12) [lit]

@[simp] theorem lit_endOpening (st : SeqState) (s : State) (lit : Lit port bit s) : Lit port bit (endOpening st s) :=
  lit_closeRecord st _ (lit_foldl (fun s x => lit_clearSlot s x) _ s lit)

@[simp] theorem lit_enterDeckClearing (reentry : Bool) (s : State) (lit : Lit port bit s) :
    Lit port bit (enterDeckClearing reentry s) := by
  unfold enterDeckClearing
  simp (maxDischargeDepth := 12) [lit]

@[simp] theorem lit_startOpening (operator : Bool) (s : State) (lit : Lit port bit s) :
    Lit port bit (startOpening operator s) := by
  have selected := lit_selectMembers (s.seq.counter + 1) s lit
  unfold startOpening
  dsimp only
  split
  · exact selected
  · split
    · exact lit_enterDeckClearing _ _ (lit_mapChannel _ _ (lit_raiseHarbour _ _
        (lit_foldl (fun s i => lit_fillSlot i s) _ _ (lit_mapSeq _ _ selected))))
    · exact lit_giveWarnings _ (lit_setSeq _ _ (lit_mapChannel _ _ (lit_raiseHarbour _ _
        (lit_foldl (fun s i => lit_fillSlot i s) _ _ (lit_mapSeq _ _ selected)))))

@[simp] theorem lit_evaluateStart (s : State) (lit : Lit port bit s) : Lit port bit (evaluateStart s) := by
  unfold evaluateStart; dsimp only; split <;> simp (maxDischargeDepth := 12) [lit]

@[simp] theorem lit_dueEvent (candidates : List Nat) (s : State) (lit : Lit port bit s) :
    Lit port bit (dueEvent candidates s) := by
  unfold dueEvent
  (repeat' split) <;> simp (maxDischargeDepth := 12) [lit]

@[simp] theorem lit_enterRoadOpen (s : State) (lit : Lit port bit s) : Lit port bit (enterRoadOpen s) := by
  unfold enterRoadOpen
  simp (maxDischargeDepth := 12) [lit]

@[simp] theorem lit_enterRoadClosed (s : State) (lit : Lit port bit s) : Lit port bit (enterRoadClosed s) := by
  unfold enterRoadClosed
  simp (maxDischargeDepth := 12) [lit]

@[simp] theorem lit_enterExitClosing (s : State) (lit : Lit port bit s) : Lit port bit (enterExitClosing s) := by
  unfold enterExitClosing
  simp (maxDischargeDepth := 12) [lit]

@[simp] theorem lit_enterWindWait (s : State) (lit : Lit port bit s) : Lit port bit (enterWindWait s) := by
  unfold enterWindWait
  simp (maxDischargeDepth := 12) [lit]

@[simp] theorem lit_enterUnlocking (s : State) (lit : Lit port bit s) : Lit port bit (enterUnlocking s) := by
  unfold enterUnlocking
  simp (maxDischargeDepth := 12) [lit]

@[simp] theorem lit_enterLocking (s : State) (lit : Lit port bit s) : Lit port bit (enterLocking s) := by
  unfold enterLocking
  simp (maxDischargeDepth := 12) [lit]

@[simp] theorem lit_raiseArm (a : Arm) (s : State) (lit : Lit port bit s) : Lit port bit (raiseArm a s) := by
  unfold raiseArm
  split <;> simp (maxDischargeDepth := 12) [lit]

@[simp] theorem lit_enterBarriersRaising (s : State) (lit : Lit port bit s) :
    Lit port bit (enterBarriersRaising s) := by
  unfold enterBarriersRaising
  simp (maxDischargeDepth := 12) [lit]

@[simp] theorem lit_enterRaised (s : State) (lit : Lit port bit s) : Lit port bit (enterRaised s) := by
  unfold enterRaised
  dsimp only
  (repeat' split) <;> simp (maxDischargeDepth := 12) [lit]

@[simp] theorem lit_reportFault (c : FaultCause) (s : State) (lit : Lit port bit s) :
    Lit port bit (reportFault c s) := by
  unfold reportFault; (repeat' split) <;> simp (maxDischargeDepth := 12) [lit]

@[simp] theorem lit_foundFaults (l : List FaultCause) (s : State) (lit : Lit port bit s) :
    Lit port bit (foundFaults l s) := by
  unfold foundFaults
  split
  · exact lit
  · exact lit_foldl (fun s c => lit_reportFault c s) _ _ (lit_endMotion s lit)

@[simp] theorem lit_targetReached (s : State) (lit : Lit port bit s) : Lit port bit (targetReached s) := by
  unfold targetReached
  split <;> simp (maxDischargeDepth := 12) [lit]

@[simp] theorem lit_seatsReached (s : State) (lit : Lit port bit s) : Lit port bit (seatsReached s) := by
  unfold seatsReached
  split <;> simp (maxDischargeDepth := 12) [lit]

@[simp] theorem lit_raiseSpan (s : State) (lit : Lit port bit s) : Lit port bit (raiseSpan s) := by
  unfold raiseSpan
  (repeat' split) <;> simp (maxDischargeDepth := 12) [lit]

@[simp] theorem lit_lowerSpan (s : State) (lit : Lit port bit s) : Lit port bit (lowerSpan s) := by
  unfold lowerSpan
  (repeat' split) <;> simp (maxDischargeDepth := 12) [lit]

@[simp] theorem lit_descend (s : State) (lit : Lit port bit s) : Lit port bit (descend s) := by
  unfold descend
  (repeat' split) <;> simp (maxDischargeDepth := 12) [lit]

@[simp] theorem lit_enterLifting (s : State) (lit : Lit port bit s) : Lit port bit (enterLifting s) := by
  unfold enterLifting
  simp (maxDischargeDepth := 12) [lit]

@[simp] theorem lit_enterLowering (s : State) (lit : Lit port bit s) : Lit port bit (enterLowering s) := by
  unfold enterLowering
  simp (maxDischargeDepth := 12) [lit]

@[simp] theorem lit_leaveExitClosing (s : State) (lit : Lit port bit s) : Lit port bit (leaveExitClosing s) := by
  unfold leaveExitClosing
  (repeat' split) <;> simp (maxDischargeDepth := 12) [lit]

@[simp] theorem lit_leaveLocking (s : State) (lit : Lit port bit s) : Lit port bit (leaveLocking s) := by
  unfold leaveLocking
  (repeat' split) <;> simp (maxDischargeDepth := 12) [lit]

@[simp] theorem lit_takeRelift (s : State) (lit : Lit port bit s) : Lit port bit (takeRelift s) := by
  unfold takeRelift
  split
  · exact lit
  · have returned := lit_foldl (fun s (x : Slot) => lit_returnSlot true x.serial s)
      ((openSlots (rewriteLifts s)).filter (fun x => decide (s.params.maxLift < x.lift))) _ (lit_rewriteLifts s lit)
    dsimp only
    (repeat' split) <;> simp (maxDischargeDepth := 12) [returned]

@[simp] theorem lit_followSecure (s : State) (lit : Lit port bit s) : Lit port bit (followSecure s) := by
  have judged : Lit port bit { s with guard := { s.guard with seatedLocked := spanSecure s } } := lit_of_ports rfl lit
  have dropped := lit_foldl (fun s a => lit_dropRaising s a) allArms _ judged
  unfold followSecure
  dsimp only
  (repeat' split)
  · exact judged
  · exact dropped
  · exact lit_foundFaults _ _ dropped

@[simp] theorem lit_followArms (s : State) (lit : Lit port bit s) : Lit port bit (followArms s) := by
  unfold followArms
  dsimp only
  split <;> simp (maxDischargeDepth := 12) [lit]

@[simp] theorem lit_followChannel (s : State) (lit : Lit port bit s) : Lit port bit (followChannel s) := by
  unfold followChannel
  dsimp only
  (repeat' split) <;> simp (maxDischargeDepth := 12) [lit]

@[simp] theorem lit_followBolts (s : State) (lit : Lit port bit s) : Lit port bit (followBolts s) := by
  unfold followBolts
  split <;> simp (maxDischargeDepth := 12) [lit]

@[simp] theorem lit_followRed (a : Approach) (s : State) (lit : Lit port bit s) : Lit port bit (followRed a s) := by
  unfold followRed
  split <;> simp (maxDischargeDepth := 12) [lit]

@[simp] theorem lit_followClearTimer (s : State) (lit : Lit port bit s) : Lit port bit (followClearTimer s) :=
  lit_of_ports rfl lit

@[simp] theorem lit_followServing (s : State) (lit : Lit port bit s) : Lit port bit (followServing s) := by
  unfold followServing
  split <;> simp (maxDischargeDepth := 12) [lit]

@[simp] theorem lit_followServed (s : State) (lit : Lit port bit s) : Lit port bit (followServed s) := by
  unfold followServed
  split <;> simp (maxDischargeDepth := 12) [lit]

@[simp] theorem lit_followOwed (s : State) (lit : Lit port bit s) : Lit port bit (followOwed s) := by
  unfold followOwed
  split <;> simp (maxDischargeDepth := 12) [lit]

@[simp] theorem lit_requestRelift (s : State) (lit : Lit port bit s) : Lit port bit (requestRelift s) := by
  unfold requestRelift
  dsimp only
  split <;> simp (maxDischargeDepth := 12) [lit]

@[simp] theorem lit_advancePhase (s : State) (lit : Lit port bit s) : Lit port bit (advancePhase s) := by
  unfold advancePhase
  (repeat' split) <;> simp (maxDischargeDepth := 12) [lit]

@[simp] theorem lit_countMinute (s : State) (lit : Lit port bit s) : Lit port bit (countMinute s) :=
  lit_of_ports rfl lit

@[simp] theorem lit_minuteEvent (s : State) (lit : Lit port bit s) : Lit port bit (minuteEvent s) := by
  unfold minuteEvent withDueEvent
  dsimp only
  split <;> simp (maxDischargeDepth := 12) [lit]

@[simp] theorem lit_waterAtPlanner (s : State) (lit : Lit port bit s) : Lit port bit (waterAtPlanner s) := by
  unfold waterAtPlanner
  dsimp only
  (repeat' split) <;> simp (maxDischargeDepth := 12) [lit]

@[simp] theorem lit_waterEvent (s : State) (lit : Lit port bit s) : Lit port bit (waterEvent s) := by
  unfold waterEvent
  split <;> simp (maxDischargeDepth := 12) [lit]

@[simp] theorem lit_resetSlot (s : State) (serial : Nat) (lit : Lit port bit s) :
    Lit port bit (resetSlot s serial) := by
  unfold resetSlot
  simp (maxDischargeDepth := 12) [lit]

/-! ## The loop of consequences -/

theorem lit_firstRule (l : List (State → Option State))
    (keeps : ∀ r ∈ l, ∀ s t, r s = some t → Lit port bit s → Lit port bit t) {s t : State}
    (h : firstRule l s = some t) (lit : Lit port bit s) : Lit port bit t := by
  induction l with
  | nil => cases h
  | cons r rest ih =>
    unfold firstRule at h
    split at h
    · next u hu =>
      cases h
      exact keeps r (by simp) s _ hu lit
    · exact ih (fun r' hr => keeps r' (by simp [hr])) h

theorem lit_whenever (c : State → Bool) (f : State → State) (keeps : ∀ s, Lit port bit s → Lit port bit (f s))
    (s t : State) (h : whenever c f s = some t) (lit : Lit port bit s) : Lit port bit t := by
  unfold whenever at h
  split at h
  · cases h
    exact keeps s lit
  · cases h

theorem lit_follow {s t : State} (h : follow s = some t) (lit : Lit port bit s) : Lit port bit t := by
  refine lit_firstRule followRules (fun r hr => ?_) h lit
  simp only [followRules, List.mem_cons, List.not_mem_nil, or_false] at hr
  rcases hr with rfl | rfl | rfl | rfl | rfl | rfl | rfl | rfl | rfl | rfl | rfl | rfl | rfl | rfl | rfl | rfl <;>
    exact lit_whenever _ _ fun s lit => by simp [lit]

theorem lit_iterate (n : Nat) (s : State) (lit : Lit port bit s) : Lit port bit (iterate follow n s) := by
  induction n generalizing s with
  | zero => exact lit
  | succ n ih =>
    unfold iterate
    split
    · exact lit
    · next t ht => exact ih t (lit_follow ht lit)

@[simp] theorem lit_keepInterlocks (s : State) (lit : Lit port bit s) : Lit port bit (keepInterlocks s) := by
  unfold keepInterlocks
  (repeat' split) <;> simp [lit]

/-- A source pending before the consequences of a change is pending after them. -/
@[simp] theorem lit_settle (s : State) (lit : Lit port bit s) : Lit port bit (settle s) :=
  lit_of_ports rfl (lit_keepInterlocks _ (lit_iterate _ s lit))

end Sys2Proof.Machine
end


section
/-!
The sequence controller (chapter 4): what a change of sequence state and the end of an opening leave, and the operating
requests that stand on them.
-/

namespace Sys2Proof.Machine

/-! ## A change of sequence state -/

/-- The wind-wait timer at the entry to a state (R97, R98). -/
def windWaitAt (st : SeqState) (t : Timer) : Timer :=
  match st with
  | .halted => t.pause
  | .faultHold => t
  | _ => .stopped

/-- What leaving a state brings at the planner and at the deck (R52, R136). -/
def leaveState (old st : SeqState) (s : State) : State :=
  let s1 := if old == .roadOpen then mapPlanner (fun p => { p with holdOff := .stopped, holdOffElapsed := false }) s else s
  if old == .deckClearing && !(st == .faultHold || st == .halted) then dropMeasurement s1 else s1

/-- The wind-wait timer and the state aside, a change of sequence state is PHASE_CHANGE and what leaving brings. -/
theorem setSeq_eq (st : SeqState) (s : State) :
    setSeq st s = mapSeq (fun q => { q with state := st, windWait := windWaitAt st s.seq.windWait })
      (leaveState s.seq.state st (raiseControl .phaseChange s)) := by
  unfold setSeq leaveState windWaitAt
  cases st <;> (dsimp only; (repeat' split) <;> rfl)

@[simp] theorem leaveState_seq (old st : SeqState) (s : State) : (leaveState old st s).seq = s.seq := by
  unfold leaveState
  dsimp only
  (repeat' split) <;> rfl
@[simp] theorem leaveState_table (old st : SeqState) (s : State) : (leaveState old st s).table = s.table := by
  unfold leaveState
  dsimp only
  (repeat' split) <;> rfl
@[simp] theorem leaveState_ports (old st : SeqState) (s : State) : (leaveState old st s).ports = s.ports := by
  unfold leaveState
  dsimp only
  (repeat' split) <;> rfl
@[simp] theorem leaveState_drive (old st : SeqState) (s : State) : (leaveState old st s).drive = s.drive := by
  unfold leaveState
  dsimp only
  (repeat' split) <;> rfl
@[simp] theorem leaveState_channel (old st : SeqState) (s : State) : (leaveState old st s).channel = s.channel := by
  unfold leaveState
  dsimp only
  (repeat' split) <;> rfl
@[simp] theorem leaveState_arms (old st : SeqState) (s : State) : (leaveState old st s).guard.arms = s.guard.arms := by
  unfold leaveState
  dsimp only
  (repeat' split) <;> rfl
@[simp] theorem leaveState_approaches (old st : SeqState) (s : State) :
    (leaveState old st s).guard.approaches = s.guard.approaches := by
  unfold leaveState
  dsimp only
  (repeat' split) <;> rfl
@[simp] theorem leaveState_heads (old st : SeqState) (s : State) :
    (leaveState old st s).guard.heads = s.guard.heads := by
  unfold leaveState
  dsimp only
  (repeat' split) <;> rfl

/-- A hold leaves the deck's measurement in place (R136). -/
theorem leaveState_guard_of_hold {st : SeqState} (h : st = .faultHold ∨ st = .halted) (old : SeqState) (s : State) :
    (leaveState old st s).guard = s.guard := by
  have holds : (st == .faultHold || st == .halted) = true := by
    rcases h with rfl | rfl <;> rfl
  simp only [leaveState, holds, Bool.not_true, Bool.and_false, Bool.false_eq_true, ↓reduceIte]
  split <;> rfl

theorem leaveState_planner (old st : SeqState) (s : State) :
    (leaveState old st s).planner =
      if old = .roadOpen then { s.planner with holdOff := .stopped, holdOffElapsed := false } else s.planner := by
  unfold leaveState
  by_cases h : old = .roadOpen
  · simp [h]
  · simp only [h, beq_iff_eq, ↓reduceIte]
    split <;> rfl

@[simp] theorem setSeq_seq (st : SeqState) (s : State) :
    (setSeq st s).seq = { s.seq with state := st, windWait := windWaitAt st s.seq.windWait } := by
  simp [setSeq_eq]
@[simp] theorem setSeq_table (st : SeqState) (s : State) : (setSeq st s).table = s.table := by simp [setSeq_eq]
@[simp] theorem setSeq_drive (st : SeqState) (s : State) : (setSeq st s).drive = s.drive := by simp [setSeq_eq]
@[simp] theorem setSeq_channel (st : SeqState) (s : State) : (setSeq st s).channel = s.channel := by simp [setSeq_eq]
@[simp] theorem setSeq_arms (st : SeqState) (s : State) : (setSeq st s).guard.arms = s.guard.arms := by
  simp [setSeq_eq]
@[simp] theorem setSeq_approaches (st : SeqState) (s : State) :
    (setSeq st s).guard.approaches = s.guard.approaches := by
  simp [setSeq_eq]
@[simp] theorem setSeq_heads (st : SeqState) (s : State) : (setSeq st s).guard.heads = s.guard.heads := by
  simp [setSeq_eq]
@[simp] theorem setSeq_mode (st : SeqState) (s : State) : (setSeq st s).mode = s.mode :=
  congrArg Outer.mode (outer_setSeq st s)
@[simp] theorem setSeq_water (st : SeqState) (s : State) : (setSeq st s).water = s.water :=
  congrArg Outer.water (outer_setSeq st s)
@[simp] theorem setSeq_params (st : SeqState) (s : State) : (setSeq st s).params = s.params :=
  congrArg Outer.params (outer_setSeq st s)
@[simp] theorem setSeq_inputs (st : SeqState) (s : State) : (setSeq st s).inputs = s.inputs :=
  congrArg Outer.inputs (outer_setSeq st s)
@[simp] theorem setSeq_clock (st : SeqState) (s : State) : (setSeq st s).clock = s.clock :=
  congrArg Outer.clock (outer_setSeq st s)

theorem setSeq_guard_of_hold {st : SeqState} (h : st = .faultHold ∨ st = .halted) (s : State) :
    (setSeq st s).guard = s.guard := by
  simp [setSeq_eq, leaveState_guard_of_hold h]

/-- Leaving ROAD_OPEN stops the hold-off, and nothing else changes at the planner (R52). -/
theorem setSeq_planner (st : SeqState) (s : State) :
    (setSeq st s).planner =
      if s.seq.state = .roadOpen then { s.planner with holdOff := .stopped, holdOffElapsed := false } else s.planner := by
  simp [setSeq_eq, leaveState_planner]

theorem setSeq_ports (st : SeqState) (s : State) : (setSeq st s).ports = (raiseControl .phaseChange s).ports := by
  simp [setSeq_eq]

/-- Every source raised is pending (R221). -/
theorem lit_of_raiseControl (x : ControlSource) (s : State) : Lit .control x.ctorIdx (raiseControl x s) := by
  have place : x.ctorIdx < 24 := by cases x <;> decide
  simp [Lit, raiseControl, PerPort.get, ControlSource.bit, place]

theorem lit_of_raiseHarbour (x : HarbourSource) (s : State) : Lit .harbour x.ctorIdx (raiseHarbour x s) := by
  have place : x.ctorIdx < 24 := by cases x <;> decide
  simp [Lit, raiseHarbour, PerPort.get, HarbourSource.bit, place]

/-- PHASE_CHANGE is pending after a change of sequence state (R76). -/
theorem lit_phaseChange (st : SeqState) (s : State) : Lit .control 23 (setSeq st s) :=
  lit_of_ports (setSeq_ports st s) (lit_of_raiseControl .phaseChange s)

/-! ## The lamps of the warnings -/

/-- All of a state but the lamps of its heads. -/
def offLamps (s : State) : State :=
  { s with guard := { s.guard with heads := s.guard.heads.map fun h => { h with lamps := ⟨.reset, .reset, .reset⟩ } } }

@[simp] theorem offLamps_setLamp (h : Head) (l : Lamp) (r : LampRecord) (s : State) :
    offLamps (setLamp h l r s) = offLamps s := by
  cases h <;> rfl

@[simp] theorem offLamps_switchLamp (h : Head) (on : Bool) (s : State) (l : Lamp) :
    offLamps (switchLamp h on s l) = offLamps s := by
  unfold switchLamp
  dsimp only
  (repeat' split) <;> simp

@[simp] theorem offLamps_applyHead (s : State) (h : Head) : offLamps (applyHead s h) = offLamps s :=
  foldl_keeps offLamps (fun _ _ => offLamps_switchLamp _ _ _ _) _ _

@[simp] theorem offLamps_applyPhase (a : Approach) (s : State) : offLamps (applyPhase a s) = offLamps s :=
  foldl_keeps offLamps offLamps_applyHead _ _

theorem ports_of_offLamps {s t : State} (h : offLamps t = offLamps s) : t.ports = s.ports := congrArg (·.ports) h
theorem approaches_of_offLamps {s t : State} (h : offLamps t = offLamps s) :
    t.guard.approaches = s.guard.approaches := congrArg (·.guard.approaches) h

@[simp] theorem applyPhase_ports (a : Approach) (s : State) : (applyPhase a s).ports = s.ports :=
  ports_of_offLamps (offLamps_applyPhase a s)
@[simp] theorem applyPhase_approaches (a : Approach) (s : State) :
    (applyPhase a s).guard.approaches = s.guard.approaches :=
  approaches_of_offLamps (offLamps_applyPhase a s)

/-! ## The warning command -/

@[simp] theorem applyPhase_halted (a : Approach) (s : State) : (applyPhase a s).guard.halted = s.guard.halted :=
  congrArg (·.guard.halted) (offLamps_applyPhase a s)

theorem giveWarning_ports (a : Approach) (s : State) : (giveWarning a s).ports = s.ports := by
  unfold giveWarning
  dsimp only
  split <;> simp [enterAmber, startCount]

theorem giveWarnings_ports (s : State) : (giveWarnings s).ports = s.ports := by
  simp [giveWarnings, giveWarning_ports]

/-- The record of an approach after the warning command (R106). -/
def warned (p : Parameters) (halted : Bool) (r : ApproachRecord) : ApproachRecord :=
  match r.phase with
  | .dark => { r with
      command := true, phase := .amber, flasher := .stopped, amberTimer := .start (1000 * p.amberTime) }
  | .amber => { r with command := true, amberTimer := .start (1000 * p.amberTime) }
  | .red => { r with
      command := true,
      count := some {
        status := if r.warning == .unwarned then .held else if halted then .paused else .running,
        counted := 0, base := 1000 * p.warningTime, doubled := r.warning == .degraded } }

/-- The warning command changes its own approach alone. -/
theorem giveWarning_approaches (a : Approach) (s : State) :
    (giveWarning a s).guard.approaches =
      s.guard.approaches.set a (warned s.params s.guard.halted (s.guard.approaches.get a)) := by
  cases hphase : (s.guard.approaches.get a).phase <;>
    simp only [giveWarning, warned, hphase, enterAmber, startCount, applyPhase_approaches] <;>
    cases a <;> rfl

@[simp] theorem giveWarning_halted (a : Approach) (s : State) : (giveWarning a s).guard.halted = s.guard.halted := by
  unfold giveWarning
  dsimp only
  split <;> simp [enterAmber, startCount, setApproach]

@[simp] theorem giveWarning_params (a : Approach) (s : State) : (giveWarning a s).params = s.params :=
  congrArg (·.params) (offRoad_giveWarning a s)

@[simp] theorem giveWarnings_halted (s : State) : (giveWarnings s).guard.halted = s.guard.halted := by
  simp [giveWarnings]

theorem giveWarnings_approaches (s : State) (a : Approach) :
    (giveWarnings s).guard.approaches.get a = warned s.params s.guard.halted (s.guard.approaches.get a) := by
  unfold giveWarnings
  rw [giveWarning_approaches, giveWarning_approaches, giveWarning_halted, giveWarning_params]
  cases a <;> rfl

@[simp] theorem giveWarnings_seq (s : State) : (giveWarnings s).seq = s.seq :=
  congrArg (·.seq) (offRoad_giveWarnings s)
@[simp] theorem giveWarnings_table (s : State) : (giveWarnings s).table = s.table :=
  congrArg (·.table) (offRoad_giveWarnings s)
@[simp] theorem giveWarnings_planner (s : State) : (giveWarnings s).planner = s.planner :=
  congrArg (·.planner) (offRoad_giveWarnings s)

/-! ## The commands to the arms -/

/-- All of a state but its arms. -/
def offArms (s : State) : State := { s with guard := { s.guard with arms := Guard.reset.arms } }

@[simp] theorem offArms_setArm (a : Arm) (r : ArmRecord) (s : State) : offArms (setArm a r s) = offArms s := rfl

@[simp] theorem offArms_commandDown (a : Arm) (s : State) : offArms (commandDown a s) = offArms s := by
  unfold commandDown
  dsimp only
  (repeat' split) <;> simp

@[simp] theorem offArms_commandUp (a : Arm) (s : State) : offArms (commandUp a s) = offArms s := by
  unfold commandUp
  dsimp only
  (repeat' split) <;> simp

@[simp] theorem offArms_raiseArm (a : Arm) (s : State) : offArms (raiseArm a s) = offArms s := by
  unfold raiseArm
  split <;> simp

@[simp] theorem commandDown_seq (a : Arm) (s : State) : (commandDown a s).seq = s.seq :=
  congrArg (·.seq) (offArms_commandDown a s)
@[simp] theorem raiseArm_seq (a : Arm) (s : State) : (raiseArm a s).seq = s.seq :=
  congrArg (·.seq) (offArms_raiseArm a s)
@[simp] theorem raiseArm_planner (a : Arm) (s : State) : (raiseArm a s).planner = s.planner :=
  congrArg (·.planner) (offArms_raiseArm a s)

/-- BARRIERS_RAISING is entered with step 1 of R89 to give. -/
@[simp] theorem enterBarriersRaising_seq (s : State) :
    (enterBarriersRaising s).seq =
      { s.seq with state := .barriersRaising, windWait := .stopped, entryRaise := false } := by
  simp [enterBarriersRaising, windWaitAt]

theorem enterBarriersRaising_planner (s : State) :
    (enterBarriersRaising s).planner = (setSeq .barriersRaising s).planner := by
  simp [enterBarriersRaising]

theorem lit_enterBarriersRaising_phase (s : State) : Lit .control 23 (enterBarriersRaising s) :=
  lit_raiseArm _ _ (lit_raiseArm _ _ (lit_mapSeq _ _ (lit_phaseChange _ s)))

/-! ## CLOSE_ROAD and REOPEN_ROAD -/

/-- What CLOSE_ROAD leaves (R90, R106). -/
theorem closeRoad_leaves (origin : ClosureOrigin) (s : State) :
    (closeRoad origin s).seq = { s.seq with
        state := .warning, windWait := .stopped, roadClosedByOperator := true, closureOrigin := some origin } ∧
      (closeRoad origin s).table = s.table ∧
      (s.seq.state = .roadOpen →
        (closeRoad origin s).planner.holdOff = .stopped ∧ (closeRoad origin s).planner.holdOffElapsed = false) ∧
      ∀ a, (closeRoad origin s).guard.approaches.get a =
        warned s.params (closeRoad origin s).guard.halted (s.guard.approaches.get a) := by
  refine ⟨by simp [closeRoad, windWaitAt], by simp [closeRoad], fun h => by simp [closeRoad, setSeq_planner, h],
    fun a => ?_⟩
  simp [closeRoad, giveWarnings_approaches]

/-- The record of a warned approach by its phase (R106, R107, R115). -/
theorem warned_by_phase (p : Parameters) (halted : Bool) (r : ApproachRecord) :
    (warned p halted r).command = true ∧
      (r.phase = .dark → (warned p halted r).phase = .amber ∧
        (warned p halted r).amberTimer = .running 0 (1000 * p.amberTime)) ∧
      (r.phase = .red → (warned p halted r).phase = .red ∧ (warned p halted r).count.isSome = true) := by
  cases hphase : r.phase <;> simp [warned, hphase, Timer.start]

theorem ownCloseRoad_accepts {s : State} (h : s.seq.state = .roadOpen ∨ s.seq.state = .positionLost) :
    ownCloseRoad s =
      (settle (closeRoad (if s.seq.state = .roadOpen then .roadOpen else .positionLost) s), accept []) := by
  rcases h with h | h <;> simp [ownCloseRoad, h]

theorem ownCloseRoad_refuses {s : State} (ho : s.seq.state ≠ .roadOpen) (hl : s.seq.state ≠ .positionLost) :
    ownCloseRoad s = (s, refuse .notReady) := by
  unfold ownCloseRoad
  split
  · exact absurd ‹_› ho
  · exact absurd ‹_› hl
  · rfl

/-- Settles O36: CLOSE_ROAD gives the warnings, REOPEN_ROAD enters BARRIERS_RAISING. -/
theorem roadClosureRequests : Obligations.RoadClosureRequests := by
  unfold Obligations.RoadClosureRequests
  refine ⟨fun p x s hd => ⟨fun h => ?closes, fun ho hl => ?stays⟩, fun p x s hd => ⟨fun h => ?reopens, fun h => ?refuses⟩⟩
  case closes =>
    have own := ownCloseRoad_accepts (s := taken p 26 x s) h
    obtain ⟨hseq, htable, hplanner, happroaches⟩ := closeRoad_leaves
      (if s.seq.state = .roadOpen then .roadOpen else .positionLost) (taken p 26 x s)
    refine ⟨_, exec_of_owner rfl rfl rfl hd own, congrArg (·.state) hseq,
      congrArg (·.roadClosedByOperator) hseq, congrArg (·.closureOrigin) hseq, congrArg (·.opening) hseq, htable,
      hplanner, fun a => ?_⟩
    rw [happroaches a]
    exact warned_by_phase _ _ _
  case stays => exact exec_of_owner rfl rfl rfl hd (ownCloseRoad_refuses (s := taken p 26 x s) ho hl)
  case reopens =>
    refine ⟨_, exec_of_owner rfl rfl rfl hd (show ownReopenRoad (taken p 27 x s) = _ from if_pos (by simp [h])), ?_⟩
    exact ⟨by simp, by simp, by simp, lit_enterBarriersRaising_phase _⟩
  case refuses =>
    exact exec_of_owner rfl rfl rfl hd (show ownReopenRoad (taken p 27 x s) = _ from if_neg (by simp [h]))

end Sys2Proof.Machine
end


section
/-!
Openings given up and ended (R53, R75, R92, R93): the end of an opening, ABANDON, ROAD_PRIORITY and ROAD_PRIORITY_END.
-/

namespace Sys2Proof.Machine

/-! ## The end of an opening -/

theorem endOpening_of_none (st : SeqState) {s : State} (h : s.seq.opening = none) : endOpening st s = s := by
  simp [endOpening, slots, closeRecord, h]

theorem offSlots_clearSlots (l : List Slot) (s : State) : offSlots (l.foldl clearSlot s) = offSlots s :=
  foldl_keeps offSlots offSlots_clearSlot l s

/-- The sequence controller without its opening and its summary. -/
def Sequence.still (q : Sequence) : Sequence := { q with opening := none, summary := none }

theorem closeRecord_still (st : SeqState) (s : State) : (closeRecord st s).seq.still = s.seq.still := by
  unfold closeRecord
  split <;> rfl

/-- An end of an opening changes its record and the summary, and nothing else of the sequence controller. -/
theorem endOpening_still (st : SeqState) (s : State) : (endOpening st s).seq.still = s.seq.still := by
  have kept : ((slots s).foldl clearSlot s).seq.still = s.seq.still :=
    congrArg (·.seq.still) (offSlots_clearSlots (slots s) s)
  rw [endOpening, closeRecord_still, kept]

@[simp] theorem endOpening_state (st : SeqState) (s : State) : (endOpening st s).seq.state = s.seq.state := by
  have kept := congrArg Sequence.state (endOpening_still st s)
  exact kept

@[simp] theorem endOpening_roadClosed (st : SeqState) (s : State) :
    (endOpening st s).seq.roadClosedByOperator = s.seq.roadClosedByOperator := by
  have kept := congrArg Sequence.roadClosedByOperator (endOpening_still st s)
  exact kept

@[simp] theorem endOpening_origin (st : SeqState) (s : State) :
    (endOpening st s).seq.closureOrigin = s.seq.closureOrigin := by
  have kept := congrArg Sequence.closureOrigin (endOpening_still st s)
  exact kept

/-- After the end of an opening there is none, and the summary is of the one there was (R75). -/
theorem endOpening_ends (st : SeqState) (s : State) :
    (endOpening st s).seq.opening = none ∧
      ∀ o, s.seq.opening = some o → ∃ z, (endOpening st s).seq.summary = some z ∧ z.number = o.number ∧
        z.endState = st ∧ z.closingCause = o.closingCause := by
  match ho : s.seq.opening with
  | none =>
    rw [endOpening_of_none st ho]
    exact ⟨ho, fun _ h => nomatch h⟩
  | some o =>
    obtain ⟨o', ho', hframe⟩ := opening_of_offSlots (offSlots_clearSlots (slots s) s) ho
    have ended : (endOpening st s).seq.opening = none ∧ ∃ z, (endOpening st s).seq.summary = some z ∧
        z.number = o'.number ∧ z.endState = st ∧ z.closingCause = o'.closingCause := by
      simp only [endOpening, closeRecord, ho']
      exact ⟨rfl, _, rfl, rfl, rfl, rfl⟩
    refine ⟨ended.1, fun _ h => ?_⟩
    cases h
    obtain ⟨-, z, hz, hnumber, hstate, hcause⟩ := ended
    exact ⟨z, hz, hnumber.trans (congrArg Opening.number hframe :), hstate,
      hcause.trans (congrArg Opening.closingCause hframe :)⟩

/-- The flags of road priority at the planner (R53). -/
def priority (s : State) : Bool × Timer := (s.planner.roadPriority, s.planner.roadPriorityTimer)

theorem priority_of_offSlots {s t : State} (h : offSlots t = offSlots s) : priority t = priority s :=
  congrArg (fun u => (u.planner.roadPriority, u.planner.roadPriorityTimer)) h

theorem priority_closeRecord (st : SeqState) (s : State) : priority (closeRecord st s) = priority s := by
  unfold closeRecord
  split <;> rfl

@[simp] theorem priority_endOpening (st : SeqState) (s : State) : priority (endOpening st s) = priority s := by
  rw [endOpening, priority_closeRecord, priority_of_offSlots (offSlots_clearSlots _ s)]

@[simp] theorem priority_setSeq (st : SeqState) (s : State) : priority (setSeq st s) = priority s := by
  unfold priority
  rw [setSeq_planner]
  split <;> rfl

@[simp] theorem priority_startHoldOff (s : State) : priority (startHoldOff s) = priority s := by
  unfold startHoldOff priority mapPlanner
  dsimp only
  split <;> rfl

/-- Under road priority an evaluation starts nothing (R53, R56). -/
theorem offSlots_evaluateStart {s : State} (h : s.planner.roadPriority = true) :
    offSlots (evaluateStart s) = offSlots s := by
  have read : offSlots (mapPlanner (fun p => { p with evaluationOwed := false }) (verifyEntries s.table.dueList s)) =
      offSlots s :=
    Eq.trans (by rfl) (offSlots_verifyEntries s.table.dueList s)
  have barred : (mapPlanner (fun p => { p with evaluationOwed := false })
      (verifyEntries s.table.dueList s)).planner.roadPriority = true :=
    (congrArg Prod.fst (priority_of_offSlots read)).trans h
  unfold evaluateStart
  simp only [startConditions, barred, Bool.not_true, Bool.and_false, Bool.false_and, Bool.false_eq_true, ↓reduceIte]
  exact read

/-! ## ROAD_OPEN and ROAD_CLOSED under road priority -/

/-- What an opening given up leaves where its record ends (R75, R92). -/
def EndedIn (st : SeqState) (s u : State) : Prop :=
  u.seq.state = st ∧ u.seq.opening = none ∧ priority u = priority s ∧
    u.seq.roadClosedByOperator = s.seq.roadClosedByOperator ∧ u.seq.closureOrigin = s.seq.closureOrigin ∧
    ∀ o, s.seq.opening = some o → ∃ z, u.seq.summary = some z ∧ z.number = o.number ∧ z.endState = st ∧
      z.closingCause = o.closingCause

/-- The end of an opening at the entry to a state, before the evaluation of R57. -/
theorem endedIn_endOpening (st : SeqState) (s : State) : EndedIn st s (endOpening st (setSeq st s)) := by
  obtain ⟨hnone, hsummary⟩ := endOpening_ends st (setSeq st s)
  exact ⟨by simp, hnone, by simp, by simp, by simp, fun o ho => hsummary o (by simpa using ho)⟩

theorem EndedIn.of_offSlots {st : SeqState} {s t u : State} (h : EndedIn st s t) (hu : offSlots u = offSlots t) :
    EndedIn st s u := by
  obtain ⟨hstate, hnone, hpriority, hclosed, horigin, hsummary⟩ := h
  refine ⟨(seq_state_of_offSlots hu).trans hstate, opening_none_of_offSlots hu hnone,
    (priority_of_offSlots hu).trans hpriority, (congrArg (·.seq.roadClosedByOperator) hu :).trans hclosed,
    (congrArg (·.seq.closureOrigin) hu :).trans horigin, fun o ho => ?_⟩
  obtain ⟨z, hz, rest⟩ := hsummary o ho
  exact ⟨z, (congrArg (·.seq.summary) hu :).trans hz, rest⟩

theorem EndedIn.startHoldOff {st : SeqState} {s t : State} (h : EndedIn st s t) : EndedIn st s (startHoldOff t) := by
  obtain ⟨hstate, hnone, hpriority, rest⟩ := h
  exact ⟨hstate, hnone, (priority_startHoldOff t).trans hpriority, rest⟩

/-- Under road priority the evaluation at the entry starts nothing. -/
theorem EndedIn.evaluateStart {st : SeqState} {s t : State} (h : EndedIn st s t) (hp : s.planner.roadPriority = true) :
    EndedIn st s (evaluateStart t) := by
  have barred : t.planner.roadPriority = true := (congrArg Prod.fst h.2.2.1).trans hp
  exact h.of_offSlots (offSlots_evaluateStart barred)

theorem endedIn_enterRoadOpen {s : State} (h : s.planner.roadPriority = true) :
    EndedIn .roadOpen s (enterRoadOpen s) :=
  (endedIn_endOpening .roadOpen s).startHoldOff.evaluateStart h

theorem endedIn_enterRoadClosed {s : State} (h : s.planner.roadPriority = true) :
    EndedIn .roadClosed s (enterRoadClosed s) :=
  (endedIn_endOpening .roadClosed s).evaluateStart h

/-! ## A closure given up -/

/-- The opening gets its closing call, an operator closure loses its flag and its origin (R92). -/
def callOff (cause : ClosingCause) (s : State) : State :=
  if s.seq.opening.isSome then setClosingCall cause s
  else mapSeq (fun q => { q with roadClosedByOperator := false, closureOrigin := none }) s

theorem callOff_of_opening (cause : ClosingCause) {s : State} {o : Opening} (ho : s.seq.opening = some o) :
    callOff cause s = setClosingCall cause s := by
  simp [callOff, ho]

theorem callOff_of_none (cause : ClosingCause) {s : State} (ho : s.seq.opening = none) :
    callOff cause s = mapSeq (fun q => { q with roadClosedByOperator := false, closureOrigin := none }) s := by
  simp [callOff, ho]

theorem setClosingCall_roadClosed (cause : ClosingCause) (s : State) :
    (setClosingCall cause s).seq.roadClosedByOperator = s.seq.roadClosedByOperator := by
  have kept := congrArg Sequence.roadClosedByOperator (setClosingCall_bare cause s)
  exact kept

@[simp] theorem callOff_state (cause : ClosingCause) (s : State) : (callOff cause s).seq.state = s.seq.state := by
  unfold callOff
  split <;> simp

/-- The road stays closed for an opening started from ROAD_CLOSED alone (R92). -/
theorem callOff_roadClosed (cause : ClosingCause) (s : State) :
    (callOff cause s).seq.roadClosedByOperator = true ↔
      s.seq.opening.isSome = true ∧ s.seq.roadClosedByOperator = true := by
  unfold callOff
  split
  · simp [*, setClosingCall_roadClosed]
  · simp [*]

/-- The priority flags are not part of a closing call. -/
@[simp] theorem priority_setClosingCall (cause : ClosingCause) (s : State) :
    priority (setClosingCall cause s) = priority s := by
  match ho : s.seq.opening with
  | none => rw [setClosingCall_of_none cause ho]
  | some o =>
    cases hc : o.closingCause with
    | some c => rw [setClosingCall_of_set cause ho (by simp [hc])]
    | none =>
      refine (priority_of_offSlots (offSlots_setClosingCall cause ho hc)).trans ?_
      simp [priority]

@[simp] theorem priority_callOff (cause : ClosingCause) (s : State) : priority (callOff cause s) = priority s := by
  unfold callOff
  split
  · simp
  · rfl

theorem giveUpClosure_eq (cause : ClosingCause) (s : State) :
    giveUpClosure cause s =
      if s.seq.state = .warning then enterRoadOpen (takeWarnings (callOff cause s))
      else if s.seq.opening.isSome ∧ s.seq.roadClosedByOperator = true then enterRoadClosed (callOff cause s)
      else enterBarriersRaising (callOff cause s) := by
  simp only [giveUpClosure, beq_iff_eq, ← callOff_roadClosed cause s]
  rfl

theorem takeWarnings_seq (s : State) : (takeWarnings s).seq = s.seq := congrArg (·.seq) (offRoad_takeWarnings s)
theorem takeWarnings_planner (s : State) : (takeWarnings s).planner = s.planner :=
  congrArg (·.planner) (offRoad_takeWarnings s)

/-- The warning command is absent at an approach after it is taken away, and the other approach is left. -/
theorem takeWarning_command (a b : Approach) (s : State) :
    ((takeWarning a s).guard.approaches.get b).command =
      if b = a then false else (s.guard.approaches.get b).command := by
  unfold takeWarning
  dsimp only
  split <;> cases a <;> cases b <;> simp [enterDark, setApproach, PerApproach.get, PerApproach.set]

theorem takeWarnings_command (s : State) (a : Approach) :
    ((takeWarnings s).guard.approaches.get a).command = false := by
  cases a <;> simp [takeWarnings, takeWarning_command]

/-! ## ROAD_PRIORITY -/

/-- A closing cause after a call-off: the one there was, or the one given. -/
theorem callOff_opening (cause : ClosingCause) {s : State} {o : Opening} (ho : s.seq.opening = some o) :
    ∃ o', (callOff cause s).seq.opening = some o' ∧ o'.number = o.number ∧
      o'.closingCause = some (o.closingCause.getD cause) := by
  obtain ⟨o', ho', hframe⟩ := setClosingCall_opening cause ho
  rw [callOff_of_opening cause ho]
  exact ⟨o', ho', (congrArg Opening.number hframe :), (congrArg Opening.closingCause hframe :)⟩

theorem ownRoadPriority_sets {s : State} (h : s.seq.state = .roadOpen ∨ s.seq.state = .roadClosed ∨
    s.seq.state = .barriersRaising ∨ s.seq.state = .raised) :
    ownRoadPriority s = (settle (setClosingCall .roadPriority (setRoadPriority s)), accept []) := by
  have open_or_not : (if s.seq.opening.isSome then setClosingCall .roadPriority (setRoadPriority s)
      else setRoadPriority s) = setClosingCall .roadPriority (setRoadPriority s) := by
    split
    · rfl
    · next hnone =>
      exact (setClosingCall_of_none (s := setRoadPriority s) .roadPriority (by simpa [setRoadPriority] using hnone)).symm
  unfold ownRoadPriority
  rcases h with h | h | h | h
  all_goals simp only [h]
  all_goals rw [open_or_not]

theorem ownRoadPriority_gives_up {s : State} (h : s.seq.state = .warning ∨ s.seq.state = .entryClosing ∨
    s.seq.state = .deckClearing) (hc : s.seq.closureOrigin ≠ some .positionLost) :
    ownRoadPriority s = (settle (giveUpClosure .roadPriority (setRoadPriority s)), accept []) := by
  rcases h with h | h | h <;> simp [ownRoadPriority, h, closureFixed, hc]

theorem ownRoadPriority_fixed {s : State} (h : s.seq.state = .warning ∨ s.seq.state = .entryClosing ∨
    s.seq.state = .deckClearing ∨ s.seq.state = .exitClosing) (hc : s.seq.closureOrigin = some .positionLost) :
    ownRoadPriority s = (s, refuse .notReady) := by
  rcases h with h | h | h | h <;> simp [ownRoadPriority, h, closureFixed, hc]

theorem ownRoadPriority_late {s : State} (h : s.seq.state = .windWait ∨ s.seq.state = .unlocking ∨
    s.seq.state = .lifting ∨ s.seq.state = .lowering ∨ s.seq.state = .locking ∨
    (s.seq.state = .exitClosing ∧ s.seq.closureOrigin ≠ some .positionLost)) :
    ownRoadPriority s = (s, refuse .tooLate) := by
  rcases h with h | h | h | h | h | ⟨h, hc⟩
  case inr.inr.inr.inr.inr => simp [ownRoadPriority, h, closureFixed, hc]
  all_goals simp [ownRoadPriority, h]

theorem ownRoadPriority_unready {s : State} (h : s.seq.state = .positionLost ∨ s.seq.state = .recovering ∨
    s.seq.state = .faultHold ∨ s.seq.state = .halted) : ownRoadPriority s = (s, refuse .notReady) := by
  rcases h with h | h | h | h <;> simp [ownRoadPriority, h]

/-- The outcome of a closure given up under road priority (R92). -/
theorem giveUpClosure_leaves {s : State} (hp : s.planner.roadPriority = true) :
    priority (giveUpClosure .roadPriority s) = priority s ∧
      (s.seq.state = .warning → (giveUpClosure .roadPriority s).seq.state = .roadOpen ∧
        (giveUpClosure .roadPriority s).seq.opening = none) ∧
      (s.seq.state ≠ .warning → (giveUpClosure .roadPriority s).seq.state =
        if s.seq.opening.isSome ∧ s.seq.roadClosedByOperator = true then .roadClosed else .barriersRaising) ∧
      (∀ o, s.seq.opening = some o →
        ((giveUpClosure .roadPriority s).seq.state = .barriersRaising →
          ∃ o', (giveUpClosure .roadPriority s).seq.opening = some o' ∧ o'.number = o.number ∧
            o'.closingCause = some (o.closingCause.getD .roadPriority)) ∧
        ((giveUpClosure .roadPriority s).seq.state ≠ .barriersRaising →
          (giveUpClosure .roadPriority s).seq.opening = none ∧
          ∃ z, (giveUpClosure .roadPriority s).seq.summary = some z ∧ z.number = o.number ∧
            z.endState = (giveUpClosure .roadPriority s).seq.state ∧
            z.closingCause = some (o.closingCause.getD .roadPriority))) ∧
      (s.seq.opening = none → (giveUpClosure .roadPriority s).seq.roadClosedByOperator = false ∧
        (giveUpClosure .roadPriority s).seq.closureOrigin = none) := by
  have called : (callOff .roadPriority s).planner.roadPriority = true :=
    (congrArg Prod.fst (priority_callOff .roadPriority s)).trans hp
  have cleared : s.seq.opening = none → (callOff .roadPriority s).seq.roadClosedByOperator = false ∧
      (callOff .roadPriority s).seq.closureOrigin = none := by
    intro ho
    rw [callOff_of_none .roadPriority ho]
    exact ⟨rfl, rfl⟩
  have ends : ∀ st u, EndedIn st (callOff .roadPriority s) u → st ≠ .barriersRaising →
      priority u = priority s ∧ u.seq.state = st ∧ u.seq.opening = none ∧
        (∀ o, s.seq.opening = some o → (u.seq.state = .barriersRaising → ∃ o', u.seq.opening = some o' ∧
            o'.number = o.number ∧ o'.closingCause = some (o.closingCause.getD .roadPriority)) ∧
          (u.seq.state ≠ .barriersRaising → u.seq.opening = none ∧ ∃ z, u.seq.summary = some z ∧
            z.number = o.number ∧ z.endState = u.seq.state ∧
            z.closingCause = some (o.closingCause.getD .roadPriority))) ∧
        (s.seq.opening = none → u.seq.roadClosedByOperator = false ∧ u.seq.closureOrigin = none) := by
    rintro st u ⟨hstate, hnone, hpriority, hclosed, horigin, hsummary⟩ hne
    refine ⟨hpriority.trans (priority_callOff _ s), hstate, hnone, fun o ho => ⟨fun h => absurd (hstate.symm.trans h) hne,
      fun _ => ⟨hnone, ?_⟩⟩, fun ho => ⟨hclosed.trans (cleared ho).1, horigin.trans (cleared ho).2⟩⟩
    obtain ⟨o', ho', hnumber, hcause⟩ := callOff_opening .roadPriority ho
    obtain ⟨z, hz, hznumber, hzstate, hzcause⟩ := hsummary o' ho'
    exact ⟨z, hz, hznumber.trans hnumber, hzstate.trans hstate.symm, hzcause.trans hcause⟩
  rw [giveUpClosure_eq]
  split
  next hw =>
    have ended : EndedIn .roadOpen (callOff .roadPriority s) (enterRoadOpen (takeWarnings (callOff .roadPriority s))) := by
      have taken := endedIn_enterRoadOpen (s := takeWarnings (callOff .roadPriority s))
        (by rw [takeWarnings_planner]; exact called)
      simpa only [EndedIn, priority, takeWarnings_planner, takeWarnings_seq] using taken
    obtain ⟨hpriority, hstate, hnone, hopening, hcleared⟩ := ends _ _ ended (by decide)
    exact ⟨hpriority, fun _ => ⟨hstate, hnone⟩, fun h => absurd hw h, hopening, hcleared⟩
  next hw =>
    split
    next hclosed =>
      obtain ⟨hpriority, hstate, -, hopening, hcleared⟩ := ends _ _ (endedIn_enterRoadClosed called) (by decide)
      exact ⟨hpriority, fun h => absurd h hw, fun _ => hstate, hopening, hcleared⟩
    next hopened =>
      have hseq := enterBarriersRaising_seq (callOff .roadPriority s)
      have hstate := congrArg Sequence.state hseq
      refine ⟨?_, fun h => absurd h hw, fun _ => hstate, fun o ho => ⟨fun _ => ?_, fun h => absurd hstate h⟩, fun ho => ?_⟩
      · have kept : priority (enterBarriersRaising (callOff .roadPriority s)) =
            priority (setSeq .barriersRaising (callOff .roadPriority s)) := by
          simp only [priority, enterBarriersRaising_planner]
        rw [kept, priority_setSeq, priority_callOff]
      · rw [hseq]
        exact callOff_opening .roadPriority ho
      · rw [hseq]
        exact cleared ho

/-- Settles O32: each row of R53 and R92 is a case of the owner. -/
theorem roadPriorityByState : Obligations.RoadPriorityByState := by
  unfold Obligations.RoadPriorityByState
  refine ⟨fun p x s hd => ⟨fun h => ?sets, fun h hc => ?givesUp, fun h hc => ?fixed, fun h => ?late, fun h => ?unready⟩,
    fun p x s hd => ?ends⟩
  case sets =>
    have kept := priority_setClosingCall .roadPriority (setRoadPriority (taken p 22 x s))
    refine ⟨_, exec_of_owner rfl rfl rfl hd (ownRoadPriority_sets (s := taken p 22 x s) h), congrArg Prod.fst kept,
      congrArg Prod.snd kept, by simp [setRoadPriority], fun o ho hc => ?_⟩
    exact setClosingCall_closingCause .roadPriority (s := setRoadPriority (taken p 22 x s)) ho hc
  case givesUp =>
    obtain ⟨hpriority, rest⟩ := giveUpClosure_leaves (s := setRoadPriority (taken p 22 x s)) rfl
    exact ⟨_, exec_of_owner rfl rfl rfl hd (ownRoadPriority_gives_up (s := taken p 22 x s) h hc),
      congrArg Prod.fst hpriority, congrArg Prod.snd hpriority, rest⟩
  case fixed => exact exec_of_owner rfl rfl rfl hd (ownRoadPriority_fixed (s := taken p 22 x s) h hc)
  case late => exact exec_of_owner rfl rfl rfl hd (ownRoadPriority_late (s := taken p 22 x s) h)
  case unready => exact exec_of_owner rfl rfl rfl hd (ownRoadPriority_unready (s := taken p 22 x s) h)
  case ends =>
    cases hp : s.planner.roadPriority with
    | false =>
      refine ⟨_, exec_of_owner rfl rfl rfl hd (show ownRoadPriorityEnd (taken p 23 x s) = _ from if_neg (by simp [hp])),
        fun _ => rfl, fun h => absurd h (by decide)⟩
    | true =>
      refine ⟨_, exec_of_owner rfl rfl rfl hd (show ownRoadPriorityEnd (taken p 23 x s) = _ from if_pos (by simp [hp])),
        fun h => absurd h (by decide), fun _ => ⟨_, rfl, rfl⟩⟩

/-! ## ABANDON -/

theorem ownAbandon_gives_up {s : State} (h : s.seq.state = .warning ∨ s.seq.state = .entryClosing ∨
    s.seq.state = .deckClearing) (hc : s.seq.closureOrigin ≠ some .positionLost) :
    ownAbandon s = (settle (giveUpClosure .abandon s), accept []) := by
  rcases h with h | h | h <;> simp [ownAbandon, h, closureFixed, hc]

theorem ownAbandon_late {s : State} (h : s.seq.state = .exitClosing ∧ s.seq.closureOrigin ≠ some .positionLost ∨
    s.seq.state = .lowering ∨ s.seq.state = .locking ∨ s.seq.state = .barriersRaising) :
    ownAbandon s = (s, refuse .tooLate) := by
  rcases h with ⟨h, hc⟩ | h | h | h
  · simp [ownAbandon, h, closureFixed, hc]
  all_goals simp [ownAbandon, h]

theorem ownAbandon_fixed {s : State} (h : s.seq.state = .warning ∨ s.seq.state = .entryClosing ∨
    s.seq.state = .deckClearing ∨ s.seq.state = .exitClosing) (hc : s.seq.closureOrigin = some .positionLost) :
    ownAbandon s = (s, refuse .notReady) := by
  rcases h with h | h | h | h <;> simp [ownAbandon, h, closureFixed, hc]

theorem ownAbandon_unready {s : State} (h : s.seq.state = .roadOpen ∨ s.seq.state = .roadClosed ∨
    s.seq.state = .positionLost ∨ s.seq.state = .recovering ∨ s.seq.state = .faultHold ∨ s.seq.state = .halted) :
    ownAbandon s = (s, refuse .notReady) := by
  rcases h with h | h | h | h | h | h <;> simp [ownAbandon, h]

theorem askDescent_opening {s : State} {o : Opening} (ho : s.seq.opening = some o) :
    ∃ o', (askDescent s).seq.opening = some o' ∧ (o.closingCause = none → o'.closingCause = some .abandon) ∧
      o'.abandoned = true := by
  obtain ⟨o', ho', hframe⟩ := setClosingCall_opening .abandon ho
  refine ⟨{ o' with abandoned := true }, by simp [askDescent, mapOpening, ho'], fun hc => ?_, rfl⟩
  exact (congrArg Opening.closingCause hframe :).trans (by rw [hc]; rfl)

@[simp] theorem askDescent_state (s : State) : (askDescent s).seq.state = s.seq.state := by
  simp [askDescent, mapOpening]

/-- Settles O35: each row of R93 is a case of the owner. -/
theorem abandonByState : Obligations.AbandonByState := by
  unfold Obligations.AbandonByState
  intro p x s hd
  refine ⟨fun h hc => ?givesUp, fun h => ?wind, fun h => ?descends, fun h => ?late, fun h hc => ?fixed, fun h => ?unready⟩
  case givesUp =>
    have called : ∀ o, s.seq.opening = some o → o.closingCause = none →
        ∃ o', (callOff .abandon (taken p 21 x s)).seq.opening = some o' ∧ o'.closingCause = some .abandon := by
      intro o ho hnone
      obtain ⟨o', ho', -, hcause⟩ := callOff_opening .abandon (s := taken p 21 x s) ho
      exact ⟨o', ho', by rw [hcause, hnone]; rfl⟩
    have cleared : s.seq.opening = none → (callOff .abandon (taken p 21 x s)).seq.roadClosedByOperator = false ∧
        (callOff .abandon (taken p 21 x s)).seq.closureOrigin = none := by
      intro ho
      rw [callOff_of_none .abandon (s := taken p 21 x s) ho]
      exact ⟨rfl, rfl⟩
    have run := exec_of_owner rfl rfl rfl hd (ownAbandon_gives_up (s := taken p 21 x s) h hc)
    rw [giveUpClosure_eq] at run
    by_cases hw : s.seq.state = .warning
    · refine ⟨takeWarnings (callOff .abandon (taken p 21 x s)), ?_, ?_, ?_, ?_, fun _ a => takeWarnings_command _ a⟩
      · simpa [hw, accept] using run
      · simp [takeWarnings_seq]
      · simpa only [takeWarnings_seq] using called
      · simpa only [takeWarnings_seq] using cleared
    · refine ⟨callOff .abandon (taken p 21 x s), ?_, by simp, called, cleared, fun hw' => absurd hw' hw⟩
      rw [if_neg hw]
      rwa [if_neg (by exact hw)] at run
  case wind =>
    have own : ownAbandon (taken p 21 x s) = (settle (abandonWind .abandon (taken p 21 x s)), accept []) := by
      simp [ownAbandon, h]
    exact ⟨_, exec_of_owner rfl rfl rfl hd own,
      fun o ho hc => setClosingCall_closingCause .abandon (s := taken p 21 x s) ho hc⟩
  case descends =>
    rcases h with h | h | h
    · have own : ownAbandon (taken p 21 x s) = (settle (askDescent (taken p 21 x s)), accept []) := by
        simp [ownAbandon, h]
      refine ⟨_, exec_of_owner rfl rfl rfl hd own, by simp, by simp [h], fun o ho => ?_⟩
      obtain ⟨o', ho', hcause, habandoned⟩ := askDescent_opening (s := taken p 21 x s) ho
      exact ⟨o', ho', hcause, fun _ => habandoned⟩
    · have own : ownAbandon (taken p 21 x s) =
          (settle (mapDrive (fun d => { d with stopAsked := true }) (askDescent (taken p 21 x s))), accept []) := by
        simp [ownAbandon, h]
      refine ⟨_, exec_of_owner rfl rfl rfl hd own, by simp, fun _ => rfl, fun o ho => ?_⟩
      obtain ⟨o', ho', hcause, habandoned⟩ := askDescent_opening (s := taken p 21 x s) ho
      exact ⟨o', ho', hcause, fun _ => habandoned⟩
    · have own : ownAbandon (taken p 21 x s) = (settle (setClosingCall .abandon (taken p 21 x s)), accept []) := by
        simp [ownAbandon, h]
      refine ⟨_, exec_of_owner rfl rfl rfl hd own, by simp, by simp [h], fun o ho => ?_⟩
      obtain ⟨o', ho', hframe⟩ := setClosingCall_opening .abandon (s := taken p 21 x s) ho
      exact ⟨o', ho', fun hc => (congrArg Opening.closingCause hframe :).trans (by rw [hc]; rfl), fun hne => absurd h hne⟩
  case late => exact exec_of_owner rfl rfl rfl hd (ownAbandon_late (s := taken p 21 x s) h)
  case fixed => exact exec_of_owner rfl rfl rfl hd (ownAbandon_fixed (s := taken p 21 x s) h hc)
  case unready => exact exec_of_owner rfl rfl rfl hd (ownAbandon_unready (s := taken p 21 x s) h)

end Sys2Proof.Machine
end


section
/-!
The start of an opening (R56, R58, R73, R79): the selection leaves alone all but the work on entries, the record takes a
slot for each member taken, and OPEN_NOW starts one for the operator.
-/

namespace Sys2Proof.Machine

/-! ## The selection -/

@[simp] theorem offSlots_selectEntry (number : BitVec 16) (acc : State × List Nat) (i : Nat) :
    offSlots (selectEntry number acc i).1 = offSlots acc.1 := by
  unfold selectEntry
  split
  · rfl
  · dsimp only
    (repeat' split)
    · simp
    · simp
    all_goals
      rename_i h
      have kept := offSlots_takeMember number i (verifyEntry i acc.1)
      rw [h] at kept
      simpa using kept

theorem offSlots_selectMembers (number : BitVec 16) (s : State) :
    offSlots (selectMembers number s).1 = offSlots s := by
  have walk : ∀ acc c, offSlots (selectClass number acc c).1 = offSlots acc.1 := fun acc c =>
    foldl_keeps (fun acc : State × List Nat => offSlots acc.1) (offSlots_selectEntry number) _ acc
  exact (foldl_keeps (fun acc : State × List Nat => offSlots acc.1) walk _ _).trans
    (offSlots_verifyEntries s.table.dueList s)

/-! ## The record of a new opening -/

/-- A new opening before its slots are filled (R73). -/
def newOpening (n : BitVec 16) (cause : OpeningCause) (lift : Bool) (minute : Nat) : Opening :=
  { number := n, cause := cause, operatorLift := lift, startMinute := minute, levelUsed := none, target := none,
    closingCause := none, slots := [], taken := 0, withdrawn := 0, returned := 0, lost := 0, nextSerial := 0,
    proceedCount := 0, raisedBefore := false, abandoned := false }

/-- A state with a new opening whose slots are filled from the members taken (R61, R73). -/
def opened (n : BitVec 16) (cause : OpeningCause) (taken : List Nat) (s : State) : State :=
  mapChannel (fun c => { c with servedLast := none }) (raiseHarbour .openingStarted
    (taken.foldl (fun s i => fillSlot i s) (mapSeq (fun q => { q with
      counter := n, opening := some (newOpening n cause taken.isEmpty s.clock.minute) }) s)))

/-- The cause of an opening from the state it starts in (R59). -/
def causeOf (operator : Bool) (s : State) (sel : State × List Nat) : OpeningCause :=
  startCause operator (startOnClass s) (startOnQueue s) (sel.2.any (fun i => kindOf sel.1.table i == .timetable))

/-- The state in which the road is closed for an opening whose selection is `sel`. -/
def begun (operator : Bool) (s : State) (sel : State × List Nat) : State :=
  opened (s.seq.counter + 1) (causeOf operator s sel) sel.2 sel.1

/-- A start as a function of its selection. -/
def startWith (operator : Bool) (s : State) (sel : State × List Nat) : State :=
  if sel.2.isEmpty && !operator then sel.1
  else if s.seq.state == .roadClosed then enterDeckClearing false (begun operator s sel)
  else giveWarnings (setSeq .warning (begun operator s sel))

theorem startOpening_eq (operator : Bool) (s : State) :
    startOpening operator s = startWith operator s (selectMembers (s.seq.counter + 1) s) := by
  unfold startOpening
  dsimp only
  generalize selectMembers (s.seq.counter + 1) s = sel
  rfl

/-- Filling slots keeps the frame of the opening and adds one slot for each member. -/
theorem fillSlots_opening (l : List Nat) {s : State} {o : Opening} (ho : s.seq.opening = some o) :
    ∃ o', (l.foldl (fun s i => fillSlot i s) s).seq.opening = some o' ∧ o'.frame = o.frame ∧
      o'.slots.length = o.slots.length + l.length := by
  induction l generalizing s o with
  | nil => exact ⟨o, ho, rfl, rfl⟩
  | cons i l ih =>
    have filled : ∃ o1, (fillSlot i s).seq.opening = some o1 ∧ o1.frame = o.frame ∧
        o1.slots.length = o.slots.length + 1 := by
      simp only [fillSlot, mapOpening, ho, Option.map_some, Option.some.injEq, exists_eq_left']
      exact ⟨rfl, by simp⟩
    obtain ⟨o1, ho1, hframe1, hlength1⟩ := filled
    obtain ⟨o', ho', hframe, hlength⟩ := ih ho1
    refine ⟨o', ho', hframe.trans hframe1, ?_⟩
    rw [hlength, hlength1, List.length_cons]
    omega

theorem offSlots_fillSlots (l : List Nat) (s : State) : offSlots (l.foldl (fun s i => fillSlot i s) s) = offSlots s :=
  foldl_keeps offSlots (fun s i => offSlots_fillSlot i s) l s

/-- What the state with a new opening is but for the work on slots. -/
theorem offSlots_opened (n : BitVec 16) (cause : OpeningCause) (taken : List Nat) (s : State) :
    offSlots (opened n cause taken s) = offSlots (mapChannel (fun c => { c with servedLast := none })
      (mapSeq (fun q => { q with
        counter := n, opening := some (newOpening n cause taken.isEmpty s.clock.minute) }) s)) := by
  have filled := offSlots_fillSlots taken (mapSeq (fun q => { q with
    counter := n, opening := some (newOpening n cause taken.isEmpty s.clock.minute) }) s)
  exact congrArg (fun t : State => { t with channel := { t.channel with servedLast := none } }) filled

theorem opened_opening (n : BitVec 16) (cause : OpeningCause) (taken : List Nat) (s : State) :
    ∃ o, (opened n cause taken s).seq.opening = some o ∧
      o.frame = (newOpening n cause taken.isEmpty s.clock.minute).frame ∧ o.slots.length = taken.length := by
  obtain ⟨o, ho, hframe, hlength⟩ := fillSlots_opening taken (s := mapSeq (fun q => { q with
    counter := n, opening := some (newOpening n cause taken.isEmpty s.clock.minute) }) s) rfl
  exact ⟨o, ho, hframe, by simpa [newOpening] using hlength⟩

@[simp] theorem startMeasurement_seq (reentry : Bool) (s : State) : (startMeasurement reentry s).seq = s.seq :=
  congrArg (·.seq) (offRoad_startMeasurement reentry s)

section Begun

variable {operator : Bool} {s : State} {sel : State × List Nat}

theorem begun_state (h : offSlots sel.1 = offSlots s) : (begun operator s sel).seq.state = s.seq.state :=
  (seq_state_of_offSlots (offSlots_opened _ _ _ _)).trans
    (show sel.1.seq.state = s.seq.state from seq_state_of_offSlots h)

theorem begun_counter : (begun operator s sel).seq.counter = s.seq.counter + 1 :=
  congrArg (·.seq.counter) (offSlots_opened _ _ _ _)

theorem begun_opening (h : offSlots sel.1 = offSlots s) :
    ∃ o, (begun operator s sel).seq.opening = some o ∧ o.number = s.seq.counter + 1 ∧
      o.cause = causeOf operator s sel ∧ o.operatorLift = o.slots.isEmpty ∧
      o.closingCause = none ∧ o.startMinute = s.clock.minute ∧ o.target = none := by
  obtain ⟨o, ho, hframe, hlength⟩ := opened_opening (s.seq.counter + 1) (causeOf operator s sel) sel.2 sel.1
  have hclock : sel.1.clock = s.clock := congrArg (·.clock) h
  refine ⟨o, ho, (congrArg Opening.number hframe :), (congrArg Opening.cause hframe :), ?_,
    (congrArg Opening.closingCause hframe :), (congrArg Opening.startMinute hframe :).trans ?_,
    (congrArg Opening.target hframe :)⟩
  · refine (congrArg Opening.operatorLift hframe :).trans ?_
    show sel.2.isEmpty = o.slots.isEmpty
    rw [Bool.eq_iff_iff, List.isEmpty_iff_length_eq_zero, List.isEmpty_iff_length_eq_zero, hlength]
  · show sel.1.clock.minute = s.clock.minute
    rw [hclock]

theorem lit_openingStarted : Lit .harbour 4 (begun operator s sel) :=
  lit_mapChannel _ _ (lit_of_raiseHarbour .openingStarted _)

end Begun

/-! ## OPEN_NOW -/

/-- An opening the operator asks for starts at once (R58, R79). -/
theorem startWith_operator {s : State} (sel : State × List Nat) (h : s.seq.state = .roadOpen ∨ s.seq.state = .roadClosed) :
    (startWith true s sel).seq = { (begun true s sel).seq with
        state := if s.seq.state = .roadOpen then .warning else .deckClearing, windWait := .stopped } ∧
      Lit .harbour 4 (startWith true s sel) := by
  have lit := lit_openingStarted (operator := true) (s := s) (sel := sel)
  unfold startWith
  rcases h with h | h
  · simp [h, windWaitAt, lit]
  · simp [h, windWaitAt, lit, enterDeckClearing]

theorem ownOpenNow_refuses {s : State} (h : s.planner.roadPriority = true ∨
    (s.seq.state ≠ .roadOpen ∧ s.seq.state ≠ .roadClosed)) : ownOpenNow s = (s, refuse .notReady) := by
  rcases h with h | h <;> simp [ownOpenNow, atStartState, h]

theorem ownOpenNow_starts {s : State} (hp : s.planner.roadPriority = false)
    (h : s.seq.state = .roadOpen ∨ s.seq.state = .roadClosed) :
    ∃ sel, sel = selectMembers (s.seq.counter + 1) s ∧ ownOpenNow s =
      (settle (startWith true s sel), accept (put2 (startWith true s sel).seq.counter.toNat)) := by
  refine ⟨_, rfl, ?_⟩
  rw [← startOpening_eq]
  rcases h with h | h <;> simp [ownOpenNow, atStartState, h, hp]

/-- Settles O31: the record is the one the selection fills. -/
theorem openNowStarts : Obligations.OpenNowStarts := by
  unfold Obligations.OpenNowStarts
  refine fun p x s hd => ⟨fun h => exec_of_owner rfl rfl rfl hd (ownOpenNow_refuses (s := taken p 19 x s) h),
    fun hp h => ?_⟩
  obtain ⟨sel, hsel, own⟩ := ownOpenNow_starts (s := taken p 19 x s) hp h
  have kept : offSlots sel.1 = offSlots (taken p 19 x s) := hsel ▸ offSlots_selectMembers _ _
  obtain ⟨hseq, lit⟩ := startWith_operator (s := taken p 19 x s) sel h
  obtain ⟨o, ho, hnumber, hcause, hlift, hclosing, hminute, -⟩ := begun_opening (operator := true) kept
  have hcounter : (startWith true (taken p 19 x s) sel).seq.counter = s.seq.counter + 1 :=
    (congrArg Sequence.counter hseq).trans begun_counter
  rw [hcounter] at own
  exact ⟨_, o, exec_of_owner rfl rfl rfl hd own, (congrArg Sequence.opening hseq).trans ho, hnumber, hcause, hlift,
    hclosing, hminute, hcounter, congrArg Sequence.state hseq, lit⟩

end Sys2Proof.Machine
end


section
/-!
The two holds and the recovery (R96 to R101, R83): STOP, RESUME, RECOVER_SEAT and the wind-wait timer.
-/

namespace Sys2Proof.Machine

/-! ## Serving stopped -/

/-- A stop of serving is the drop of the direction served and work on slots (R183). -/
theorem offSlots_stopServing (s : State) :
    offSlots (stopServing s) = offSlots (mapChannel (fun c => { c with servingRuns := false }) (dropServing s)) :=
  foldl_keeps offSlots offSlots_stopSlot _ _

theorem stopServing_serving (s : State) : (stopServing s).channel.serving = none :=
  (serving_of_offSlots (offSlots_stopServing s)).trans (dropServing_serving s)

@[simp] theorem stopServing_drive (s : State) : (stopServing s).drive = s.drive :=
  (drive_of_offSlots (offSlots_stopServing s)).trans (by simp [dropServing])

@[simp] theorem stopServing_guard (s : State) : (stopServing s).guard = s.guard :=
  (guard_of_offSlots (offSlots_stopServing s)).trans (by simp [dropServing])

theorem stopServing_bare (s : State) : (stopServing s).seq.bare = s.seq.bare := by
  have kept := congrArg (fun t => t.seq.bare) (offSlots_stopServing s)
  simpa [offSlots, Sequence.bare] using kept

@[simp] theorem stopServing_state (s : State) : (stopServing s).seq.state = s.seq.state := by
  have kept := congrArg Sequence.state (stopServing_bare s)
  exact kept

@[simp] theorem stopServing_windWait (s : State) : (stopServing s).seq.windWait = s.seq.windWait := by
  have kept := congrArg Sequence.windWait (stopServing_bare s)
  exact kept

/-! ## The arms at a halt -/

/-- An arm at the entry to HALTED (R132). -/
def haltedArm (r : ArmRecord) : ArmRecord :=
  match r.state with
  | .lowering => { restArm .stopped r with stoppedDirection := some .lowering }
  | .raising => { restArm .stopped r with stoppedDirection := some .raising }
  | .up => { r with retryWait := .stopped }
  | _ => r

theorem arms_set_get (x : PerArm ArmRecord) (a : Arm) : x.set a (x.get a) = x := by cases a <;> rfl

theorem haltArm_arms (s : State) (a : Arm) :
    (haltArm s a).guard.arms = s.guard.arms.set a (haltedArm (s.guard.arms.get a)) := by
  cases h : (s.guard.arms.get a).state <;> simp only [haltArm, haltedArm, h, arms_set_get] <;> rfl

/-- A walk over the arms that changes each arm by its own record changes every arm so. -/
theorem foldl_arms {f : State → Arm → State} {g : ArmRecord → ArmRecord}
    (h : ∀ s a, (f s a).guard.arms = s.guard.arms.set a (g (s.guard.arms.get a))) (s : State) (a : Arm) :
    (allArms.foldl f s).guard.arms.get a = g (s.guard.arms.get a) := by
  simp only [allArms, List.foldl_cons, List.foldl_nil, h]
  cases a <;> rfl

@[simp] theorem offArms_haltArm (s : State) (a : Arm) : offArms (haltArm s a) = offArms s := by
  unfold haltArm
  dsimp only
  split <;> simp

theorem offArms_haltArms (s : State) : offArms (allArms.foldl haltArm s) = offArms s :=
  foldl_keeps offArms offArms_haltArm allArms s

/-- No arm travels at a halt, and one that travelled is STOPPED (R132). -/
theorem haltedArm_rests (r : ArmRecord) : (haltedArm r).state ≠ .lowering ∧ (haltedArm r).state ≠ .raising ∧
    (r.state = .lowering ∨ r.state = .raising → (haltedArm r).state = .stopped) := by
  cases h : r.state <;> simp [haltedArm, h, restArm]

/-! ## STOP -/

/-- A timer stopped with its time kept does not run. -/
@[simp] theorem isRunning_pause (t : Timer) : t.pause.isRunning = false := by
  cases t <;> rfl

/-- The held phase at the entry to HALTED (R97). -/
def heldAt (q : Sequence) : Option SeqState :=
  match q.state with
  | .faultHold => q.heldPhase
  | .recovering => some .positionLost
  | st => some st

/-- The state in which HALTED is entered. -/
def halting (s : State) : State := pauseGuard (stopServing (allArms.foldl haltArm (brakesSet s)))

theorem enterHalted_eq (s : State) :
    enterHalted s =
      raiseControl .halted (mapSeq (fun q => { q with heldPhase := heldAt s.seq }) (setSeq .halted (halting s))) := by
  unfold enterHalted halting heldAt
  rfl

@[simp] theorem enterHalted_drive (s : State) : (enterHalted s).drive = (brakesSet s).drive := by
  have arms : (allArms.foldl haltArm (brakesSet s)).drive = (brakesSet s).drive :=
    congrArg (·.drive) (offArms_haltArms (brakesSet s))
  rw [enterHalted_eq]
  simpa [halting, pauseGuard] using arms

theorem enterHalted_guard (s : State) :
    (enterHalted s).guard = (pauseGuard (allArms.foldl haltArm (brakesSet s))).guard := by
  rw [enterHalted_eq]
  simp only [raiseControl_guard, mapSeq_guard, setSeq_guard_of_hold (.inr rfl)]
  simp [halting, pauseGuard]

theorem enterHalted_serving (s : State) : (enterHalted s).channel.serving = none := by
  rw [enterHalted_eq]
  simpa [halting, pauseGuard] using stopServing_serving (allArms.foldl haltArm (brakesSet s))

/-- No bolt travels or waits once lock travel is stopped (R164). -/
theorem stopBolt_rests (r : BoltRecord) : (stopBolt r).state ≠ .withdrawing ∧ (stopBolt r).state ≠ .driving ∧
    (stopBolt r).waiting = false := by
  cases h : r.state <;> simp [stopBolt, h]

theorem brakesSet_drive (s : State) (k : Tower) :
    ((brakesSet s).drive.towers.get k).released = false ∧ ((brakesSet s).drive.towers.get k).reference = 0 ∧
      (brakesSet s).drive.bolts.get k = stopBolt (s.drive.bolts.get k) := by
  cases k <;> exact ⟨rfl, rfl, rfl⟩

theorem ownStop_halts {s : State} (hh : s.seq.state ≠ .halted) (hi : s.seq.state ≠ .inactive) :
    ownStop s = (settle (enterHalted s), accept []) := by
  simp [ownStop, demandHalt, hh, hi]

theorem ownStop_stays {s : State} (h : s.seq.state = .halted ∨ s.seq.state = .inactive) :
    ownStop s = (settle s, accept []) := by
  rcases h with h | h <;> simp [ownStop, demandHalt, h]

/-- Settles O37: the entry to HALTED sets the brakes, stops the arms, ends serving and pauses the guard. -/
theorem stopHalts : Obligations.StopHalts := by
  unfold Obligations.StopHalts
  refine fun p x s hd => ⟨fun h => exec_of_owner rfl rfl rfl hd (ownStop_stays (s := taken p 28 x s) h),
    fun hh hi => ⟨_, exec_of_owner rfl rfl rfl hd (ownStop_halts (s := taken p 28 x s) hh hi), ?state, ?held, ?drive,
      ?motion, ?jog, ?arms, enterHalted_serving _, ?wind, ?clear, ?wait, ?amber, ?halted, ?phase⟩⟩
  case state => simp [enterHalted_eq]
  case held =>
    have held : (enterHalted (taken p 28 x s)).seq.heldPhase = heldAt s.seq := by rw [enterHalted_eq]; rfl
    rw [held]
    unfold heldAt
    rfl
  case drive =>
    intro k
    obtain ⟨hreleased, hreference, hbolt⟩ := brakesSet_drive (taken p 28 x s) k
    rw [enterHalted_drive, hbolt]
    obtain ⟨hwithdrawing, hdriving, hwaiting⟩ := stopBolt_rests ((taken p 28 x s).drive.bolts.get k)
    exact ⟨hreleased, hreference, hwithdrawing, hdriving, hwaiting⟩
  case motion => rw [enterHalted_drive]; rfl
  case jog => rw [enterHalted_drive]; rfl
  case arms =>
    intro a
    rw [enterHalted_guard]
    have halted := foldl_arms haltArm_arms (brakesSet (taken p 28 x s)) a
    simp only [pauseGuard, halted]
    exact haltedArm_rests _
  case wind => simp [enterHalted_eq, windWaitAt]
  case clear => rw [enterHalted_guard]; exact isRunning_pause _
  case wait => rw [enterHalted_guard]; exact isRunning_pause _
  case amber =>
    intro a
    rw [enterHalted_guard]
    cases a <;> exact isRunning_pause _
  case halted => rw [enterHalted_eq]; exact lit_of_raiseControl .halted _
  case phase =>
    rw [enterHalted_eq]
    have raised := lit_mapSeq (fun q => { q with heldPhase := heldAt (taken p 28 x s).seq }) _
      (lit_phaseChange .halted (halting (taken p 28 x s)))
    have kept : Lit .control 23 (raiseControl .halted _) := lit_raiseControl .halted _ raised
    exact kept

/-! ## RESUME -/

/-- A cause is in a set exactly where its bit is (R94). -/
theorem and_bit_ne_zero (x : BitVec 10) (c : FaultCause) : (x &&& c.bit != 0) = x.getLsbD c.ctorIdx := by
  have place : c.ctorIdx < 10 := by cases c <;> decide
  have hbit : c.bit = BitVec.twoPow 10 c.ctorIdx := rfl
  rw [hbit, BitVec.and_twoPow]
  split
  · next h =>
    have nonzero : BitVec.twoPow 10 c.ctorIdx ≠ 0#10 := fun h0 => by
      have hset := congrArg (fun y => y.getLsbD c.ctorIdx) h0
      simp [place] at hset
    simp [h, nonzero]
  · next h => simpa using h

theorem causePresent_eq (s : State) (c : FaultCause) :
    causePresent s c = (s.seq.causes.getLsbD c.ctorIdx && (c.isEvent || conditionHolds s c)) := by
  rw [causePresent, and_bit_ne_zero]

/-- Two causes share no bit. -/
theorem getLsbD_bit (c d : FaultCause) : d.bit.getLsbD c.ctorIdx = decide (c = d) := by
  cases c <;> cases d <;> decide

/-- A set gathered from a list of causes holds what it held and those of the list that pass the test. -/
theorem getLsbD_gathered (p : FaultCause → Bool) (l : List FaultCause) (x : BitVec 10) (c : FaultCause) :
    (l.foldl (fun x d => if p d then x ||| d.bit else x) x).getLsbD c.ctorIdx =
      (x.getLsbD c.ctorIdx || (decide (c ∈ l) && p c)) := by
  induction l generalizing x with
  | nil => simp
  | cons d l ih =>
    rw [List.foldl_cons, ih]
    by_cases hcd : c = d
    · subst hcd
      cases p c <;> simp [getLsbD_bit]
    · cases p d <;> simp [getLsbD_bit, hcd]

theorem presentCauses_getLsbD (s : State) (c : FaultCause) :
    (presentCauses s).getLsbD c.ctorIdx =
      (s.seq.causes.getLsbD c.ctorIdx && (c.isEvent || conditionHolds s c)) := by
  have listed : c ∈ allCauses := by cases c <;> decide
  rw [presentCauses, getLsbD_gathered, causePresent_eq]
  simp [listed]

theorem resumePhase_eq (s : State) :
    resumePhase s = match s.seq.heldPhase with
      | some q => reenter q (endJog s)
      | none => s := by
  unfold resumePhase
  rfl

theorem endJog_jog (s : State) : (endJog s).drive.jog = if s.drive.motion = .jog then none else s.drive.jog := by
  by_cases h : s.drive.motion = .jog <;> simp [endJog, h, endMotion]

@[simp] theorem endJog_seq (s : State) : (endJog s).seq = s.seq := by
  unfold endJog
  split <;> rfl

/-- Settles O38: each row of R96 and R98 is a case of the owner. -/
theorem resumeByState : Obligations.ResumeByState := by
  unfold Obligations.ResumeByState
  refine fun p x s hd => ⟨fun h hm => ?resumes, fun h hm => ?barred, fun h he => ?stopped, fun h he hc => ?faulted,
    fun q h he hc hq => ?reenters, fun hf hh => ?refused⟩
  case resumes =>
    have own : ownResume (taken p 29 x s) =
        (settle (resumePhase (mapSeq (fun q => { q with causes := 0 }) (taken p 29 x s))), accept []) := by
      simp [ownResume, h, show mayResume (taken p 29 x s) = true from hm]
    rw [resumePhase_eq] at own
    refine ⟨endJog (mapSeq (fun q => { q with causes := 0 }) (taken p 29 x s)), ?_, by simp, endJog_jog _⟩
    exact exec_of_owner rfl rfl rfl hd own
  case barred =>
    have own : ownResume (taken p 29 x s) = (taken p 29 x s,
        { status := .notReady, payload := put2 (presentCauses s).toNat ++ putInt4 (skew s) }) := by
      simp only [ownResume, taken_seq, h, show mayResume (taken p 29 x s) = false from hm]
      rfl
    exact ⟨presentCauses s, exec_of_owner rfl rfl rfl hd own, presentCauses_getLsbD s⟩
  case stopped =>
    have own : ownResume (taken p 29 x s) = (taken p 29 x s, refuse .notReady) := by
      simp [ownResume, h, show RawInputs.emergencyStop (filtered (taken p 29 x s)) = true from he]
    exact exec_of_owner rfl rfl rfl hd own
  case faulted =>
    have own : ownResume (taken p 29 x s) =
        (settle (raiseControl .faultHold (setSeq .faultHold (taken p 29 x s))), accept []) := by
      simp only [ownResume, taken_seq, h, show RawInputs.emergencyStop (filtered (taken p 29 x s)) = false from he]
      simp [show s.seq.causes ≠ 0#10 from hc]
    exact ⟨_, exec_of_owner rfl rfl rfl hd own, by simp, by simp, by simp, lit_of_raiseControl .faultHold _⟩
  case reenters =>
    have own : ownResume (taken p 29 x s) = (settle (reenter q (endJog (taken p 29 x s))), accept []) := by
      simp [ownResume, h, show RawInputs.emergencyStop (filtered (taken p 29 x s)) = false from he, hc, resumePhase, hq]
    exact ⟨endJog (taken p 29 x s), exec_of_owner rfl rfl rfl hd own, endJog_seq _⟩
  case refused =>
    have own : ownResume (taken p 29 x s) = (taken p 29 x s, refuse .notReady) := by
      unfold ownResume
      split
      · exact absurd ‹_› hf
      · exact absurd ‹_› hh
      · rfl
    exact exec_of_owner rfl rfl rfl hd own

/-! ## RECOVER_SEAT and the wind wait -/

theorem allArmsDown_iff (s : State) :
    allArmsDown s = true ↔ ∀ a, (s.guard.arms.get a).state = .down ∨ (s.guard.arms.get a).state = .outOfService := by
  have every : ∀ a : Arm, a ∈ allArms := by intro a; cases a <;> decide
  simp [allArmsDown, every]

theorem channelClear_iff (s : State) : channelClear s = true ↔ s.channel.zoneCount = 0 ∧ beamsClear s = true := by
  simp [channelClear]

theorem withdrawBolt_state (p : Parameters) (r : BoltRecord) :
    (withdrawBolt p r).state = if r.state = .withdrawn then .withdrawn else .withdrawing := by
  cases h : r.state <;> simp [withdrawBolt, h]

@[simp] theorem endJog_bolts (s : State) : (endJog s).drive.bolts = s.drive.bolts := by
  unfold endJog
  split <;> rfl

theorem startRecovery_leaves (s : State) : (startRecovery s).seq.state = .recovering ∧
    ∀ b, ((startRecovery s).drive.bolts.get b).state =
      if (s.drive.bolts.get b).state = .withdrawn then .withdrawn else .withdrawing := by
  refine ⟨by simp [startRecovery, withdrawBolts], fun b => ?_⟩
  simp only [startRecovery, withdrawBolts, mapDrive, setSeq_drive, PerTower.get_map, endJog_bolts, withdrawBolt_state]

theorem recoverSeat_ready (s : State) : (s.seq.state == .positionLost && allArmsDown s && channelClear s) = true ↔
    s.seq.state = .positionLost ∧ (∀ a, (s.guard.arms.get a).state = .down ∨
      (s.guard.arms.get a).state = .outOfService) ∧ s.channel.zoneCount = 0 ∧ beamsClear s = true := by
  rw [Bool.and_eq_true, Bool.and_eq_true, beq_iff_eq, allArmsDown_iff, channelClear_iff, and_assoc]

/-- Settles O39: RECOVER_SEAT withdraws the bolts, and the wind wait ends as an abandonment. -/
theorem seatRecoveryAndWindWait : Obligations.SeatRecoveryAndWindWait := by
  unfold Obligations.SeatRecoveryAndWindWait
  refine ⟨fun p x s hd => ⟨fun h => ?starts, fun h => ?refuses⟩, fun s k l h => ?wind,
    fun s h => congrArg _ (expire_still _ s h)⟩
  case starts =>
    have own : ownRecoverSeat (taken p 30 x s) = (settle (startRecovery (taken p 30 x s)), accept []) :=
      if_pos ((recoverSeat_ready (taken p 30 x s)).mpr h)
    exact ⟨startRecovery (taken p 30 x s), exec_of_owner rfl rfl rfl hd own, startRecovery_leaves (taken p 30 x s)⟩
  case refuses =>
    have own : ownRecoverSeat (taken p 30 x s) = (taken p 30 x s, refuse .notReady) :=
      if_neg fun hready => h ((recoverSeat_ready (taken p 30 x s)).mp hready)
    exact exec_of_owner rfl rfl rfl hd own
  case wind =>
    let ended := raiseControl .windAbandon (mapSeq (fun q => { q with windWait := .stopped }) (elapse (l - k) s))
    have bare := setClosingCall_bare .wind ended
    refine ⟨setClosingCall .wind ended, ?_, lit_setClosingCall _ _ (lit_of_raiseControl .windAbandon _), ?_,
      fun o ho hc => setClosingCall_closingCause .wind (s := ended) (o := o.advance (l - k)) ?_ hc⟩
    · show Host.Outcome.next (expire s.seq.windWait _ s) = _
      rw [h]
      rfl
    · have kept := congrArg Sequence.windWait bare
      exact kept
    · show s.seq.opening.map (·.advance (l - k)) = _
      rw [ho]
      rfl

end Sys2Proof.Machine
end


section
/-!
The lamps, heads and approaches of the warnings (R105 to R119, R140): what a phase makes of the lamps, the timers of an
approach and of a lamp, and the requests at lamps, heads and accrued flags.
-/

namespace Sys2Proof.Machine

/-! ## Phases and lamps -/

/-- A lamp of an in-service head that is switched (R109, R110). -/
def switched (on : Bool) (x : LampRecord) : LampRecord :=
  if x.output = on then x
  else if on then { x with output := true, proving := .start Config.provingMs, offCheck := .stopped }
  else { x with output := false, proving := .stopped, offCheck := .start Config.offCheckFirstMs }

@[simp] theorem switched_output (on : Bool) (x : LampRecord) : (switched on x).output = on := by
  unfold switched
  split
  · assumption
  · split <;> simp_all

@[simp] theorem switched_state (on : Bool) (x : LampRecord) : (switched on x).state = x.state := by
  unfold switched
  (repeat' split) <;> rfl

theorem headRecord_lamps_self (h : Head) (l : Lamp) (s : State) :
    setLamp h l ((s.guard.heads.get h).lamps.get l) s = s := by
  cases h <;> cases l <;> rfl

theorem setLamp_heads (h : Head) (l : Lamp) (r : LampRecord) (s : State) :
    (setLamp h l r s).guard.heads =
      s.guard.heads.set h { s.guard.heads.get h with lamps := (s.guard.heads.get h).lamps.set l r } := rfl

/-- Switching a lamp stores it as switched where its head is in service, and is no change elsewhere. -/
theorem switchLamp_eq (h : Head) (on : Bool) (s : State) (l : Lamp) :
    switchLamp h on s l =
      if (s.guard.heads.get h).inService then setLamp h l (switched on ((s.guard.heads.get h).lamps.get l)) s else s := by
  cases hs : (s.guard.heads.get h).inService
  · simp [switchLamp, hs]
  · by_cases hout : ((s.guard.heads.get h).lamps.get l).output = on
    · simp [switchLamp, hs, hout, switched, headRecord_lamps_self]
    · cases on <;> simp_all [switchLamp, switched]

/-- A head whose lamps take a phase and flasher half (R105, R108). -/
def phased (phase : ApproachPhase) (half : Half) (r : HeadRecord) : HeadRecord :=
  if r.inService then
    { r with lamps := ⟨switched (lampWanted phase half .amber) r.lamps.amber,
      switched (lampWanted phase half .ra) r.lamps.ra, switched (lampWanted phase half .rb) r.lamps.rb⟩ }
  else r

theorem heads_set_get (x : PerHead HeadRecord) (h : Head) : x.set h (x.get h) = x := by cases h <;> rfl

theorem heads_set_set (x : PerHead HeadRecord) (h : Head) (r t : HeadRecord) : (x.set h r).set h t = x.set h t := by
  cases h <;> rfl

theorem applyHead_heads (s : State) (h : Head) :
    (applyHead s h).guard.heads = s.guard.heads.set h
      (phased (s.guard.approaches.get h.approach).phase (s.guard.approaches.get h.approach).half
        (s.guard.heads.get h)) := by
  cases hs : (s.guard.heads.get h).inService
  · simp [applyHead, switchLamp_eq, phased, hs, allLamps, heads_set_get]
  · simp only [applyHead, switchLamp_eq, phased, hs, allLamps, List.foldl_cons, List.foldl_nil, setLamp_heads,
      PerHead.get_set, heads_set_set, if_true]
    rfl

@[simp] theorem applyHead_approaches (s : State) (h : Head) :
    (applyHead s h).guard.approaches = s.guard.approaches :=
  approaches_of_offLamps (offLamps_applyHead s h)

/-- The heads of an approach take its phase; the others are left (R105). -/
theorem applyPhase_heads (a : Approach) (s : State) (h : Head) :
    (applyPhase a s).guard.heads.get h =
      if h.approach = a then
        phased (s.guard.approaches.get a).phase (s.guard.approaches.get a).half (s.guard.heads.get h)
      else s.guard.heads.get h := by
  cases a <;>
    simp only [applyPhase, Approach.heads, List.foldl_cons, List.foldl_nil, applyHead_heads, applyHead_approaches] <;>
    cases h <;> rfl

@[simp] theorem applyPhase_arms (a : Approach) (s : State) : (applyPhase a s).guard.arms = s.guard.arms :=
  congrArg (·.guard.arms) (offLamps_applyPhase a s)
@[simp] theorem applyPhase_detectors (a : Approach) (s : State) :
    (applyPhase a s).guard.detectors = s.guard.detectors :=
  congrArg (·.guard.detectors) (offLamps_applyPhase a s)
@[simp] theorem applyPhase_deck (a : Approach) (s : State) : (applyPhase a s).guard.deck = s.guard.deck :=
  congrArg (·.guard.deck) (offLamps_applyPhase a s)

/-! ## Evaluations -/

/-- All of a state but its approaches and its ports. -/
def offApproaches (s : State) : State :=
  { s with ports := State.reset.ports, guard := { s.guard with approaches := ⟨.reset, .reset⟩ } }

@[simp] theorem offApproaches_setApproach (a : Approach) (r : ApproachRecord) (s : State) :
    offApproaches (setApproach a r s) = offApproaches s := rfl

@[simp] theorem offApproaches_evaluateApproach (a : Approach) (s : State) :
    offApproaches (evaluateApproach a s) = offApproaches s := by
  unfold evaluateApproach
  dsimp only
  split <;> rfl

@[simp] theorem offApproaches_startCount (a : Approach) (s : State) :
    offApproaches (startCount a s) = offApproaches s := rfl

section
variable {s t : State} (kept : offApproaches t = offApproaches s)
include kept
theorem heads_of_offApproaches : t.guard.heads = s.guard.heads := congrArg (·.guard.heads) kept
theorem arms_of_offApproaches : t.guard.arms = s.guard.arms := congrArg (·.guard.arms) kept
theorem detectors_of_offApproaches : t.guard.detectors = s.guard.detectors := congrArg (·.guard.detectors) kept
theorem deck_of_offApproaches : t.guard.deck = s.guard.deck := congrArg (·.guard.deck) kept
end

@[simp] theorem evaluateApproach_heads (a : Approach) (s : State) :
    (evaluateApproach a s).guard.heads = s.guard.heads :=
  heads_of_offApproaches (offApproaches_evaluateApproach a s)

/-- What an evaluation leaves of the approach: all but its warning state and its count (R114). -/
theorem evaluateApproach_approach (a : Approach) (s : State) :
    (evaluateApproach a s).guard.approaches.get a = { s.guard.approaches.get a with
      warning := judgeApproach a s,
      count := (s.guard.approaches.get a).count.map (countAfter s (judgeApproach a s)) } := by
  unfold evaluateApproach
  dsimp only
  split <;> simp [setApproach]

theorem evaluateApproach_other {a b : Approach} (h : b ≠ a) (s : State) :
    (evaluateApproach a s).guard.approaches.get b = s.guard.approaches.get b := by
  unfold evaluateApproach
  dsimp only
  split <;> simp [setApproach, PerApproach.get_set_ne _ _ h]

/-! ## AMBER_TIMER_EXPIRY and FLASHER_HALF -/

/-- The record with which an approach shows RED (R108). -/
def redRecord (r : ApproachRecord) : ApproachRecord :=
  { r with phase := .red, half := .a, flasher := .start Config.flasherHalfMs, amberTimer := .stopped }

theorem showRed_eq (a : Approach) (s : State) :
    showRed a s = evaluateApproach a (applyPhase a (setApproach a (redRecord (s.guard.approaches.get a)) s)) := rfl

/-- A new phase given to an approach, with its lamps. -/
def phaseGiven (a : Approach) (r : ApproachRecord) (s : State) : State := applyPhase a (setApproach a r s)

theorem phaseGiven_approach (a b : Approach) (r : ApproachRecord) (s : State) :
    (phaseGiven a r s).guard.approaches.get b = if b = a then r else s.guard.approaches.get b := by
  simp only [phaseGiven, applyPhase_approaches, setApproach]
  split
  · next h => subst h; simp
  · next h => exact PerApproach.get_set_ne _ _ h

theorem phaseGiven_heads (a : Approach) (r : ApproachRecord) (s : State) (h : Head) :
    (phaseGiven a r s).guard.heads.get h =
      if h.approach = a then phased r.phase r.half (s.guard.heads.get h) else s.guard.heads.get h := by
  simp [phaseGiven, applyPhase_heads, setApproach]

@[simp] theorem phaseGiven_arms (a : Approach) (r : ApproachRecord) (s : State) :
    (phaseGiven a r s).guard.arms = s.guard.arms := by simp [phaseGiven, setApproach]
@[simp] theorem phaseGiven_detectors (a : Approach) (r : ApproachRecord) (s : State) :
    (phaseGiven a r s).guard.detectors = s.guard.detectors := by simp [phaseGiven, setApproach]
@[simp] theorem phaseGiven_deck (a : Approach) (r : ApproachRecord) (s : State) :
    (phaseGiven a r s).guard.deck = s.guard.deck := by simp [phaseGiven, setApproach]

/-- The phase RED given, an approach that enters it is evaluated and may start its count. -/
theorem enterRed_eq (a : Approach) (s : State) :
    enterRed a s = (if (s.guard.approaches.get a).command then startCount a else id)
      (evaluateApproach a (phaseGiven a (redRecord (s.guard.approaches.get a)) s)) := by
  unfold enterRed
  split <;> simp_all [showRed_eq, phaseGiven]

theorem offApproaches_enterRed (a : Approach) (s : State) :
    offApproaches (enterRed a s) = offApproaches (phaseGiven a (redRecord (s.guard.approaches.get a)) s) := by
  rw [enterRed_eq]
  split <;> simp

/-- What RED gives the approach that enters it (R107, R108). -/
theorem enterRed_approach (a : Approach) (s : State) :
    (enterRed a s).guard.approaches.get a = { redRecord (s.guard.approaches.get a) with
      warning := ((enterRed a s).guard.approaches.get a).warning,
      count := ((enterRed a s).guard.approaches.get a).count } := by
  rw [enterRed_eq]
  split <;> simp [startCount, setApproach, evaluateApproach_approach, phaseGiven_approach]

/-- Under the warning command the count starts with RED (R115). -/
theorem enterRed_counts {a : Approach} {s : State} (h : (s.guard.approaches.get a).command = true) :
    ((enterRed a s).guard.approaches.get a).count.isSome = true := by
  simp [enterRed_eq, h, startCount, setApproach]

theorem enterRed_other {a b : Approach} (h : b ≠ a) (s : State) :
    (enterRed a s).guard.approaches.get b = s.guard.approaches.get b := by
  rw [enterRed_eq]
  split <;>
    simp [startCount, setApproach, PerApproach.get_set_ne _ _ h, evaluateApproach_other h, phaseGiven_approach, h]

/-- A change within the road guard's warnings and deck, and of the ports. -/
theorem eq_of_offRoad {s t : State} (h : offRoad t = offRoad s) : t = { s with guard := t.guard, ports := t.ports } := by
  cases s
  cases t
  simp only [offRoad, State.mk.injEq] at h ⊢
  simp only [h, and_self]

theorem enterRed_heads (a : Approach) (s : State) (h : Head) :
    (enterRed a s).guard.heads.get h =
      if h.approach = a then phased .red .a (s.guard.heads.get h) else s.guard.heads.get h := by
  rw [heads_of_offApproaches (offApproaches_enterRed a s), phaseGiven_heads]
  rfl

theorem nextHalf_eq (a : Approach) (s : State) :
    nextHalf a s = phaseGiven a { s.guard.approaches.get a with
      half := (s.guard.approaches.get a).half.other, flasher := .start Config.flasherHalfMs } s := rfl

theorem phaseGiven_ports (a : Approach) (r : ApproachRecord) (s : State) : (phaseGiven a r s).ports = s.ports := by
  simp [phaseGiven]

/-- The lamps of a head in service that takes a phase show what the phase wants. -/
theorem phased_lamps {r : HeadRecord} (hs : r.inService = true) (phase : ApproachPhase) (half : Half) (l : Lamp) :
    (phased phase half r).lamps.get l = switched (lampWanted phase half l) (r.lamps.get l) := by
  rw [phased, if_pos hs]
  cases l <;> rfl

theorem phased_of_out {r : HeadRecord} (hs : r.inService = false) (phase : ApproachPhase) (half : Half) :
    phased phase half r = r := by
  simp [phased, hs]

theorem phased_lamps_only (phase : ApproachPhase) (half : Half) (r : HeadRecord) :
    phased phase half r = { r with lamps := (phased phase half r).lamps } := by
  unfold phased
  split <;> rfl

/-- What a lamp shows after the flasher half changes (R108). -/
theorem lampWanted_other (phase : ApproachPhase) (half : Half) (l : Lamp) :
    lampWanted phase half.other l = (match phase, l with
      | .red, .ra => decide (half = .b)
      | .red, .rb => decide (half = .a)
      | .amber, .amber => true
      | _, _ => false) := by
  cases phase <;> cases l <;> cases half <;> rfl

theorem expire_of_running {t : Timer} {k l : Nat} (h : t = .running k l) (act : State → State) (s : State) :
    expire t act s = act (elapse (l - k) s) := by
  rw [h, expire_running]

theorem elapse_inService (n : Nat) (s : State) (h : Head) :
    ((elapse n s).guard.heads.get h).inService = (s.guard.heads.get h).inService := by
  cases h <;> rfl

theorem elapse_approach (n : Nat) (s : State) (a : Approach) :
    (elapse n s).guard.approaches.get a = (s.guard.approaches.get a).advance n := by
  cases a <;> rfl

theorem elapse_lamp (n : Nat) (s : State) (h : Head) (l : Lamp) :
    ((elapse n s).guard.heads.get h).lamps.get l = ((s.guard.heads.get h).lamps.get l).advance n := by
  cases h <;> cases l <;> rfl

/-- Settles O40: the amber period ends in RED, a flasher half in the other, and the lamps follow. -/
theorem approachTimersExpire : Obligations.ApproachTimers := by
  unfold Obligations.ApproachTimers
  refine ⟨fun s a k l h => ?amber, fun s a k l h => ?flasher,
    fun s a => ⟨fun h => congrArg _ (expire_still _ s h), fun h => congrArg _ (expire_still _ s h)⟩⟩
  case amber =>
    have record := enterRed_approach a (elapse (l - k) s)
    have red := offApproaches_enterRed a (elapse (l - k) s)
    refine ⟨enterRed a (elapse (l - k) s), congrArg _ (expire_of_running h _ s), ?_, ?_, ?_, ?_, fun hc => ?_,
      fun q hq hs => ?_, eq_of_offRoad (offRoad_enterRed _ _), ?_, ?_, ?_, fun b hb => enterRed_other hb _,
      fun q hq => by rw [enterRed_heads, if_neg hq]⟩
    · rw [record]; rfl
    · rw [record]; rfl
    · rw [record]; rfl
    · rw [record]; rfl
    · exact enterRed_counts (by rw [elapse_approach]; exact hc)
    · have inService := (elapse_inService (l - k) s q).trans hs
      rw [enterRed_heads, if_pos hq, phased_lamps inService, phased_lamps inService, phased_lamps inService]
      simp [lampWanted]
    · rw [arms_of_offApproaches red, phaseGiven_arms]
    · rw [detectors_of_offApproaches red, phaseGiven_detectors]
    · rw [deck_of_offApproaches red, phaseGiven_deck]
  case flasher =>
    refine ⟨nextHalf a (elapse (l - k) s), congrArg _ (expire_of_running h _ s), ?_, ?_, ?_, ?_, by simp [nextHalf_eq],
      by simp [nextHalf_eq], by simp [nextHalf_eq], fun b hb => by rw [nextHalf_eq, phaseGiven_approach, if_neg hb],
      fun q hq => ?_, fun q hq hs => ⟨?_, fun x => ?_⟩⟩
    · have kept := eq_of_offRoad (offRoad_nextHalf a (elapse (l - k) s))
      rw [nextHalf_eq, phaseGiven_ports] at kept
      exact kept
    · rw [nextHalf_eq, phaseGiven_approach, if_pos rfl, elapse_approach]
      unfold Half.other
      rfl
    · rw [nextHalf_eq, phaseGiven_approach, if_pos rfl]; rfl
    · rw [nextHalf_eq, phaseGiven_approach, if_pos rfl, elapse_approach]; rfl
    · rw [nextHalf_eq, phaseGiven_heads]
      split
      · next ha => exact phased_of_out ((elapse_inService _ s q).trans (hq.resolve_left fun hn => hn ha)) _ _
      · rfl
    · rw [nextHalf_eq, phaseGiven_heads, if_pos hq]
      exact phased_lamps_only _ _ _
    · have inService := (elapse_inService (l - k) s q).trans hs
      rw [nextHalf_eq, phaseGiven_heads, if_pos hq, phased_lamps inService, switched_state, switched_output,
        elapse_lamp, elapse_approach]
      exact ⟨rfl, lampWanted_other _ _ _⟩

end Sys2Proof.Machine
end


section
/-!
The provings and off-checks of the lamps (R109 to R112), the requests at lamps, heads and accrued flags (R111, R113,
R118, R140), and the warning counts (R115 to R117).
-/

namespace Sys2Proof.Machine

/-! ## Accrued flags -/

theorem accrue_heads (h : Head) (read : HeadRecord → Bool) (write : HeadRecord → HeadRecord) (s : State) :
    (accrue h read write s).guard.heads =
      if read (s.guard.heads.get h) then s.guard.heads else s.guard.heads.set h (write (s.guard.heads.get h)) := by
  unfold accrue
  dsimp only
  split <;> rfl

/-- An accrued flag touches no lamp. -/
theorem accrue_lamps {write : HeadRecord → HeadRecord} (kept : ∀ r, (write r).lamps = r.lamps) (h q : Head)
    (read : HeadRecord → Bool) (s : State) :
    ((accrue h read write s).guard.heads.get q).lamps = (s.guard.heads.get q).lamps := by
  rw [accrue_heads]
  split
  · rfl
  · by_cases hq : q = h
    · subst hq
      simp [kept]
    · rw [PerHead.get_set_ne _ _ hq]

/-- The other red lamp of a head. -/
def otherRed : Lamp → Lamp
  | .ra => .rb
  | _ => .ra

/-- The amber lamp sets its own flag, a red one that of the head's red lamps (R112). -/
theorem accrueFailure_eq (h : Head) (l : Lamp) (s : State) :
    accrueFailure h l s =
      if l = .amber then accrue h (·.amberFail) (fun r => { r with amberFail := true }) s
      else if ((s.guard.heads.get h).lamps.get (otherRed l)).state == .failed then
        accrue h (·.redDark) (fun r => { r with redDark := true }) s
      else accrue h (·.redOneFail) (fun r => { r with redOneFail := true }) s := by
  cases l <;> rfl

theorem accrueFailure_lamps (h q : Head) (l : Lamp) (s : State) :
    ((accrueFailure h l s).guard.heads.get q).lamps = (s.guard.heads.get q).lamps := by
  rw [accrueFailure_eq]
  split
  · exact accrue_lamps (write := fun r => { r with amberFail := true }) (fun _ => rfl) ..
  · split
    · exact accrue_lamps (write := fun r => { r with redDark := true }) (fun _ => rfl) ..
    · exact accrue_lamps (write := fun r => { r with redOneFail := true }) (fun _ => rfl) ..

/-- After an accrual the flag is set. -/
theorem accrue_sets {read : HeadRecord → Bool} {write : HeadRecord → HeadRecord} (set : ∀ r, read (write r) = true)
    (h : Head) (s : State) : read ((accrue h read write s).guard.heads.get h) = true := by
  rw [accrue_heads]
  split
  · assumption
  · rw [PerHead.get_set, set]

theorem accrueFailure_amber (h : Head) (s : State) :
    ((accrueFailure h .amber s).guard.heads.get h).amberFail = true := by
  rw [accrueFailure_eq, if_pos rfl]
  exact accrue_sets (read := (·.amberFail)) (fun _ => rfl) h s

theorem accrueFailure_dark {h : Head} {l : Lamp} {s : State} (red : l ≠ .amber)
    (other : ((s.guard.heads.get h).lamps.get (otherRed l)).state = .failed) :
    ((accrueFailure h l s).guard.heads.get h).redDark = true := by
  rw [accrueFailure_eq, if_neg red, if_pos (beq_iff_eq.mpr other)]
  exact accrue_sets (read := (·.redDark)) (fun _ => rfl) h s

theorem accrueFailure_one {h : Head} {l : Lamp} {s : State} (red : l ≠ .amber)
    (other : ((s.guard.heads.get h).lamps.get (otherRed l)).state ≠ .failed) :
    ((accrueFailure h l s).guard.heads.get h).redOneFail = true := by
  rw [accrueFailure_eq, if_neg red, if_neg fun h => other (beq_iff_eq.mp h)]
  exact accrue_sets (read := (·.redOneFail)) (fun _ => rfl) h s

/-! ## LAMP_PROVING -/

/-- The state of a lamp after its proving (R109). -/
def provenState (x : LampRecord) (good : Bool) : LampState := if x.state == .failed || !good then .failed else .proven

/-- The lamp of a proving, with its accrued flag. -/
def lampProved (h : Head) (l : Lamp) (s : State) : State :=
  let x := (s.guard.heads.get h).lamps.get l
  let st := provenState x (RawInputs.current (filtered s) h l)
  let s1 := setLamp h l { x with state := st, proving := .stopped } s
  if st == .failed && x.state != .failed then accrueFailure h l s1 else s1

theorem proveLamp_eq (h : Head) (l : Lamp) (s : State) :
    proveLamp h l s = (if l = .amber then id else evaluateApproach h.approach) (lampProved h l s) := by
  unfold proveLamp lampProved
  cases l <;> rfl

theorem proveLamp_heads (h : Head) (l : Lamp) (s : State) :
    (proveLamp h l s).guard.heads = (lampProved h l s).guard.heads := by
  rw [proveLamp_eq]
  split <;> simp

theorem setLamp_lamps (h : Head) (l : Lamp) (r : LampRecord) (s : State) :
    ((setLamp h l r s).guard.heads.get h).lamps = (s.guard.heads.get h).lamps.set l r := by
  rw [setLamp_heads, PerHead.get_set]

theorem lampProved_lamp (h : Head) (l : Lamp) (s : State) :
    ((lampProved h l s).guard.heads.get h).lamps.get l = { (s.guard.heads.get h).lamps.get l with
      state := provenState ((s.guard.heads.get h).lamps.get l) (RawInputs.current (filtered s) h l),
      proving := .stopped } := by
  unfold lampProved
  dsimp only
  split
  · rw [accrueFailure_lamps, setLamp_lamps, PerLamp.get_set]
  · rw [setLamp_lamps, PerLamp.get_set]

/-- A lamp that turns FAILED sets its flag (R109, R112). -/
theorem lampProved_failed {h : Head} {l : Lamp} {s : State} (was : ((s.guard.heads.get h).lamps.get l).state ≠ .failed)
    (dark : RawInputs.current (filtered s) h l = false) :
    ∃ t, lampProved h l s = accrueFailure h l t ∧
      ∀ q, q ≠ l → (t.guard.heads.get h).lamps.get q = (s.guard.heads.get h).lamps.get q := by
  refine ⟨setLamp h l { (s.guard.heads.get h).lamps.get l with
    state := provenState ((s.guard.heads.get h).lamps.get l) (RawInputs.current (filtered s) h l),
    proving := .stopped } s, ?_, fun q hq => ?_⟩
  · unfold lampProved
    exact if_pos (by simp [provenState, dark, was])
  · rw [setLamp_lamps, PerLamp.get_set_ne _ _ hq]

theorem elapse_filtered (n : Nat) (s : State) : filtered (elapse n s) = filtered s := rfl

/-! ## OFF_CHECK -/

theorem checkOff_lamp (h : Head) (l : Lamp) (s : State) :
    ((checkOff h l s).guard.heads.get h).lamps.get l =
      { (s.guard.heads.get h).lamps.get l with offCheck := .start Config.offCheckNextMs } := by
  unfold checkOff
  dsimp only
  split
  · rw [accrue_lamps (write := fun r => { r with currentWhenOff := true }) (fun _ => rfl), setLamp_lamps, PerLamp.get_set]
  · rw [setLamp_lamps, PerLamp.get_set]

theorem checkOff_flag (h : Head) (l : Lamp) (s : State) :
    ((checkOff h l s).guard.heads.get h).currentWhenOff =
      ((s.guard.heads.get h).currentWhenOff || RawInputs.current (filtered s) h l) := by
  unfold checkOff
  dsimp only
  split
  · next hc =>
    rw [hc, Bool.or_true]
    exact accrue_sets (read := (·.currentWhenOff)) (fun _ => rfl) ..
  · next hc => simp [setLamp_heads, hc]

/-- The first current found in a dark lamp raises LAMP_FAILURE (R110, R112). -/
theorem checkOff_raises {h : Head} {l : Lamp} {s : State} (clear : (s.guard.heads.get h).currentWhenOff = false)
    (lit : RawInputs.current (filtered s) h l = true) :
    (checkOff h l s).ports.control.attention = s.ports.control.attention ||| 1#24 <<< 16 := by
  simp [checkOff, lit, accrue, setLamp_heads, clear]
  rfl

/-- Settles O41: a proving ends PROVEN or FAILED with its flag, an off-check accrues a current found. -/
theorem lampProvedAndChecked : Obligations.LampProvedAndChecked := by
  unfold Obligations.LampProvedAndChecked
  refine ⟨fun s h l k m hr => ?proving, fun s h l k m hr => ?check,
    fun s h l => ⟨fun hr => congrArg _ (expire_still _ s hr), fun hr => congrArg _ (expire_still _ s hr)⟩⟩
  case proving =>
    have lamp := lampProved_lamp h l (elapse (m - k) s)
    rw [← proveLamp_heads, elapse_lamp] at lamp
    refine ⟨proveLamp h l (elapse (m - k) s), congrArg _ (expire_of_running hr _ s),
      eq_of_offRoad (offRoad_proveLamp _ _ _), by rw [lamp], by rw [lamp]; rfl, ?_, fun was dark => ?_⟩
    · rw [lamp]
      show provenState _ (RawInputs.current (filtered s) h l) = _
      simp [provenState, LampRecord.advance]
    · obtain ⟨t, ht, others⟩ := lampProved_failed (h := h) (l := l) (s := elapse (m - k) s)
        (by rw [elapse_lamp]; exact was) dark
      have stateOf : ∀ q, q ≠ l → ((t.guard.heads.get h).lamps.get q).state =
          ((s.guard.heads.get h).lamps.get q).state := fun q hq => by rw [others q hq, elapse_lamp]; rfl
      rw [proveLamp_heads, ht]
      refine ⟨?_, ?_, ?_, ?_, ?_⟩
      · rintro rfl
        exact accrueFailure_amber h t
      · rintro rfl hf
        exact accrueFailure_dark Lamp.noConfusion ((stateOf .rb Lamp.noConfusion).trans hf)
      · rintro rfl hf
        exact accrueFailure_one Lamp.noConfusion ((stateOf .rb Lamp.noConfusion).trans_ne hf)
      · rintro rfl hf
        exact accrueFailure_dark Lamp.noConfusion ((stateOf .ra Lamp.noConfusion).trans hf)
      · rintro rfl hf
        exact accrueFailure_one Lamp.noConfusion ((stateOf .ra Lamp.noConfusion).trans_ne hf)
  case check =>
    have lamp := checkOff_lamp h l (elapse (m - k) s)
    rw [elapse_lamp] at lamp
    refine ⟨checkOff h l (elapse (m - k) s), congrArg _ (expire_of_running hr _ s),
      eq_of_offRoad (offRoad_checkOff _ _ _), by rw [lamp]; rfl, by rw [lamp]; rfl, ?_, fun clear lit => ?_⟩
    · rw [checkOff_flag]
      cases h <;> rfl
    · exact checkOff_raises (s := elapse (m - k) s) (by cases h <;> exact clear) lit

/-! ## CLEAR_LAMP -/

/-- A lamp after CLEAR_LAMP (R111). -/
def clearedLamp (x : LampRecord) : LampRecord :=
  { x with state := .unproven, proving := if x.output then .start Config.provingMs else x.proving }

theorem clearedLamp_clearedLamp (x : LampRecord) : clearedLamp (clearedLamp x) = clearedLamp x := by
  cases h : x.output <;> simp [clearedLamp, h]

/-- CLEAR_LAMP touches the lamps it names and no other of the head. -/
theorem foldl_clearLamp (h : Head) (q : Lamp) (l : List Lamp) (s : State) :
    ((l.foldl (clearLamp h) s).guard.heads.get h).lamps.get q =
      if q ∈ l then clearedLamp (((s.guard.heads.get h).lamps.get q)) else (s.guard.heads.get h).lamps.get q := by
  induction l generalizing s with
  | nil => simp
  | cons x l ih =>
    have step : ((clearLamp h s x).guard.heads.get h).lamps = (s.guard.heads.get h).lamps.set x
        (clearedLamp ((s.guard.heads.get h).lamps.get x)) := setLamp_lamps ..
    rw [List.foldl_cons, ih, step]
    by_cases hq : q = x
    · subst hq
      simp [clearedLamp_clearedLamp]
    · simp [PerLamp.get_set_ne _ _ hq, hq]

@[simp] theorem offRoad_clearLamps (h : Head) (l : List Lamp) (s : State) :
    offRoad (l.foldl (clearLamp h) s) = offRoad s :=
  foldl_keeps offRoad (fun s l => offRoad_clearLamp h s l) l s

/-! ## HEAD_SERVICE -/

/-- A lamp of a head that goes out of service (R118). -/
def darkLamp : LampRecord := { state := .outOfService, output := false, proving := .stopped, offCheck := .stopped }

/-- A lamp of a head that returns, before it takes the phase (R118). -/
def freshLamp : LampRecord :=
  { state := .unproven, output := false, proving := .stopped, offCheck := .start Config.offCheckFirstMs }

theorem removeHead_head (h : Head) (s : State) :
    (removeHead h s).guard.heads.get h =
      { s.guard.heads.get h with inService := false, lamps := ⟨darkLamp, darkLamp, darkLamp⟩ } := by
  simp [removeHead, setHead, darkLamp]

theorem returnHead_head (h : Head) (s : State) :
    (returnHead h s).guard.heads.get h =
      phased (s.guard.approaches.get h.approach).phase (s.guard.approaches.get h.approach).half
        { s.guard.heads.get h with inService := true, lamps := ⟨freshLamp, freshLamp, freshLamp⟩ } := by
  simp [returnHead, applyHead_heads, setHead, freshLamp]

theorem ownHeadService_already {x : List Byte} {s : State} {h : Head} {out : Bool}
    (hh : named allHeads (byteAt x 0) = some h) (ho : byteAt x 1 = out.toNat)
    (hs : (s.guard.heads.get h).inService = !out) : ownHeadService x s = (s, accept []) := by
  have code : yesNo (byteAt x 1) = some out := by rw [ho]; cases out <;> rfl
  simp [ownHeadService, hh, code, hs]

theorem ownHeadService_changes {x : List Byte} {s : State} {h : Head} {out : Bool}
    (hh : named allHeads (byteAt x 0) = some h) (ho : byteAt x 1 = out.toNat)
    (hs : (s.guard.heads.get h).inService = out) :
    ownHeadService x s = (if out then removeHead h s else returnHead h s, accept []) := by
  have code : yesNo (byteAt x 1) = some out := by rw [ho]; cases out <;> rfl
  simp [ownHeadService, hh, code, hs]

/-! ## CLEAR_ROAD_STATUS -/

theorem oneOrAll_heads {k : Nat} (hk : k ≤ 8) :
    ∃ l, oneOrAll allHeads k = some l ∧ ∀ h : Head, h ∈ l ↔ k = 8 ∨ k = h.ctorIdx := by
  interval_cases k <;> exact ⟨_, rfl, fun h => by cases h <;> decide⟩

theorem oneOrAll_detectors {k : Nat} (hk : k ≤ 6) :
    ∃ l, oneOrAll allDetectors k = some l ∧ ∀ d : Detector, d ∈ l ↔ k = 6 ∨ k = d.ctorIdx := by
  interval_cases k <;> exact ⟨_, rfl, fun d => by cases d <;> decide⟩

theorem clearFlags_clearFlags (n : Nat) (r : HeadRecord) : clearFlags n (clearFlags n r) = clearFlags n r := by
  simp [clearFlags]

theorem foldl_clearHeadFlags (n : Nat) (h : Head) (l : List Head) (s : State) :
    (l.foldl (clearHeadFlags n) s).guard.heads.get h =
      if h ∈ l then clearFlags n (s.guard.heads.get h) else s.guard.heads.get h := by
  induction l generalizing s with
  | nil => simp
  | cons x l ih =>
    rw [List.foldl_cons, ih]
    by_cases hq : h = x
    · subst hq
      simp [clearHeadFlags, setHead, clearFlags_clearFlags]
    · simp [clearHeadFlags, setHead, PerHead.get_set_ne _ _ hq, hq]

/-- All of a state but its road guard. -/
def offGuard (s : State) : State := { s with guard := .reset }

theorem eq_of_offGuard {s t : State} (h : offGuard t = offGuard s) : t = { s with guard := t.guard } := by
  cases s
  cases t
  simp only [offGuard, State.mk.injEq] at h ⊢
  simp only [h, and_self]

theorem foldl_clearHeadFlags_detectors (n : Nat) (l : List Head) (s : State) :
    (l.foldl (clearHeadFlags n) s).guard.detectors = s.guard.detectors :=
  foldl_keeps (f := clearHeadFlags n) (fun s => s.guard.detectors) (fun _ _ => rfl) l s

theorem foldl_clearDetectorFlag_heads (n : Nat) (l : List Detector) (s : State) :
    (l.foldl (clearDetectorFlag n) s).guard.heads = s.guard.heads :=
  foldl_keeps (f := clearDetectorFlag n) (fun s => s.guard.heads) (fun _ _ => rfl) l s

theorem foldl_clearDetectorFlag (n : Nat) (d : Detector) (l : List Detector) (s : State) :
    ((l.foldl (clearDetectorFlag n) s).guard.detectors.get d).occupiedLong =
      ((s.guard.detectors.get d).occupiedLong && !(decide (d ∈ l) && n.testBit 0)) := by
  induction l generalizing s with
  | nil => simp
  | cons x l ih =>
    rw [List.foldl_cons, ih]
    by_cases hq : d = x
    · subst hq
      cases hb : n.testBit 0 <;> simp [clearDetectorFlag, setDetector, hb]
    · simp [clearDetectorFlag, setDetector, PerDetector.get_set_ne _ _ hq, hq]

/-- What CLEAR_ROAD_STATUS leaves (R113, R140). -/
def roadStatusCleared (x : List Byte) (hs : List Head) (ds : List Detector) (s : State) : State :=
  ds.foldl (clearDetectorFlag (byteAt x 3)) (hs.foldl (clearHeadFlags (byteAt x 1)) s)

theorem offGuard_roadStatusCleared (x : List Byte) (hs : List Head) (ds : List Detector) (s : State) :
    offGuard (roadStatusCleared x hs ds s) = offGuard s :=
  (foldl_keeps (f := clearDetectorFlag (byteAt x 3)) offGuard (fun _ _ => rfl) ds _).trans
    (foldl_keeps (f := clearHeadFlags (byteAt x 1)) offGuard (fun _ _ => rfl) hs s)

theorem roadStatusCleared_head (x : List Byte) (hs : List Head) (ds : List Detector) (s : State) (h : Head) :
    (roadStatusCleared x hs ds s).guard.heads.get h =
      if h ∈ hs then clearFlags (byteAt x 1) (s.guard.heads.get h) else s.guard.heads.get h := by
  rw [roadStatusCleared, foldl_clearDetectorFlag_heads, foldl_clearHeadFlags]

theorem roadStatusCleared_detector (x : List Byte) (hs : List Head) (ds : List Detector) (s : State) (d : Detector) :
    ((roadStatusCleared x hs ds s).guard.detectors.get d).occupiedLong =
      ((s.guard.detectors.get d).occupiedLong && !(decide (d ∈ ds) && (byteAt x 3).testBit 0)) := by
  rw [roadStatusCleared, foldl_clearDetectorFlag, foldl_clearHeadFlags_detectors]

/-- Settles O43: the requests at lamps, heads and accrued flags change what they name. -/
theorem lampAndHeadRequests : Obligations.LampAndHeadRequests := by
  unfold Obligations.LampAndHeadRequests
  refine ⟨fun p x s h ls hd hh hl => ⟨fun hs => ?refused, fun hs => ?clears⟩,
    fun p x s h out hd hh ho => ⟨fun hs => ?already, fun hs => ?service⟩, fun p x s hd hheads hflags hdets hdflag => ?status⟩
  case refused =>
    have own : ownClearLamp x (taken p 33 x s) = (taken p 33 x s, refuse .notReady) := by
      simp [ownClearLamp, hh, hl, hs]
    exact exec_of_owner rfl rfl rfl hd own
  case clears =>
    have own : ownClearLamp x (taken p 33 x s) =
        (evaluateApproach h.approach (ls.foldl (clearLamp h) (taken p 33 x s)), accept []) := by
      simp [ownClearLamp, hh, hl, hs]
    refine ⟨_, exec_of_owner rfl rfl rfl hd own, eq_of_offRoad (by simp), fun l => ?_⟩
    rw [evaluateApproach_heads, foldl_clearLamp]
    refine ⟨by split <;> rfl, fun hin => ?_, fun hout => if_neg hout⟩
    rw [if_pos hin]
    exact ⟨rfl, fun hlit => if_pos hlit⟩
  case already => exact exec_of_owner rfl rfl rfl hd (ownHeadService_already (s := taken p 34 x s) hh ho hs)
  case service =>
    have own := ownHeadService_changes (s := taken p 34 x s) hh ho hs
    refine ⟨_, exec_of_owner rfl rfl rfl hd own, eq_of_offRoad (by cases out <;> simp), ?_⟩
    cases out with
    | true =>
      simp only [if_true, removeHead_head, Bool.not_true]
      refine ⟨trivial, rfl, fun l => ?_⟩
      cases l <;> simp [PerLamp.get, darkLamp]
    | false =>
      simp only [Bool.false_eq_true, if_false, returnHead_head]
      refine ⟨rfl, rfl, fun l => ?_⟩
      rw [phased_lamps rfl, switched_state, switched_output]
      cases l <;> simp [PerLamp.get, freshLamp]
  case status =>
    obtain ⟨hs, hheads, inHeads⟩ := oneOrAll_heads hheads
    obtain ⟨ds, hdets, inDetectors⟩ := oneOrAll_detectors hdets
    have own : ownClearRoadStatus x (taken p 35 x s) = (roadStatusCleared x hs ds (taken p 35 x s), accept []) := by
      simp only [ownClearRoadStatus, hheads, hdets, roadStatusCleared]
      rw [if_neg (by simp; omega)]
    refine ⟨_, exec_of_owner rfl rfl rfl hd own, eq_of_offGuard (offGuard_roadStatusCleared ..), fun h => ?_,
      fun d => ?_⟩
    · have named : (byteAt x 0 == 8 || byteAt x 0 == h.ctorIdx) = decide (h ∈ hs) := by
        rw [Bool.eq_iff_iff, Bool.or_eq_true, beq_iff_eq, beq_iff_eq, decide_eq_true_iff, inHeads]
      rw [roadStatusCleared_head, named]
      by_cases hin : h ∈ hs <;> simp [hin, clearFlags]
    · have named : (byteAt x 2 == 6 || byteAt x 2 == d.ctorIdx) = decide (d ∈ ds) := by
        rw [Bool.eq_iff_iff, Bool.or_eq_true, beq_iff_eq, beq_iff_eq, decide_eq_true_iff, inDetectors]
      rw [roadStatusCleared_detector, named]
      rfl

/-! ## Warning counts -/

theorem commandDown_approaches (a : Arm) (s : State) : (commandDown a s).guard.approaches = s.guard.approaches :=
  congrArg (·.guard.approaches) (offArms_commandDown a s)

/-- Once an approach may close, it has its permit and nothing else of it changes (R116, R125). -/
theorem mayClose_approach (a : Approach) (s : State) :
    (mayClose a s).guard.approaches.get a = { s.guard.approaches.get a with permit := true } := by
  unfold mayClose
  simp only [commandDown_approaches]
  split <;> simp [setApproach]

theorem mayClose_state {s : State} (h : s.seq.state = .warning ∨ s.seq.state = .entryClosing) (a : Approach) :
    (mayClose a s).seq.state = .entryClosing := by
  rcases h with h | h <;> simp [mayClose, h]

/-- An arm that is UP lowers where it may. -/
theorem commandDown_lowers {a : Arm} {s : State} (up : (s.guard.arms.get a).state = .up) (may : mayLower a s = true) :
    ((commandDown a s).guard.arms.get a).state = .lowering := by
  simp [commandDown, up, may, setArm, travelArm, restArm]

theorem mayClose_lowers {a : Approach} {s : State} (up : (s.guard.arms.get a.entryArm).state = .up) :
    ((mayClose a s).guard.arms.get a.entryArm).state = .lowering := by
  have own : a.entryArm.approach = a := by cases a <;> rfl
  unfold mayClose
  dsimp only
  split
  · exact commandDown_lowers (by simpa [setApproach] using up) (by simp [mayLower, own, setApproach])
  · exact commandDown_lowers (by simpa [setApproach] using up) (by simp [mayLower, own, setApproach])

/-- The warning count of an approach is set complete (R116). -/
def countCompleted (a : Approach) (c : WarningCount) (s : State) : State :=
  setApproach a { s.guard.approaches.get a with count := some { c with status := .complete } } s

theorem completeCount_eq {a : Approach} {c : WarningCount} {s : State} (h : (s.guard.approaches.get a).count = some c) :
    completeCount a s =
      (if s.seq.state = .warning ∨ s.seq.state = .entryClosing then mayClose a else id) (countCompleted a c s) := by
  unfold completeCount countCompleted
  simp only [h, Option.map_some]
  split <;> rename_i hst <;> simp at hst <;> simp [hst]

theorem countCompleted_approach (a : Approach) (c : WarningCount) (s : State) :
    (countCompleted a c s).guard.approaches.get a =
      { s.guard.approaches.get a with count := some { c with status := .complete } } := by
  simp [countCompleted, setApproach]

theorem completeCount_count {a : Approach} {c : WarningCount} {s : State}
    (h : (s.guard.approaches.get a).count = some c) :
    ((completeCount a s).guard.approaches.get a).count = some { c with status := .complete } := by
  rw [completeCount_eq h]
  split
  · rw [mayClose_approach, countCompleted_approach]
  · rw [id, countCompleted_approach]

/-- A complete count in WARNING or ENTRY_CLOSING closes the approach (R80, R116). -/
theorem completeCount_closes {a : Approach} {c : WarningCount} {s : State}
    (h : (s.guard.approaches.get a).count = some c) (hst : s.seq.state = .warning ∨ s.seq.state = .entryClosing) :
    ((completeCount a s).guard.approaches.get a).permit = true ∧ (completeCount a s).seq.state = .entryClosing ∧
      ((s.guard.arms.get a.entryArm).state = .up →
        ((completeCount a s).guard.arms.get a.entryArm).state = .lowering) := by
  rw [completeCount_eq h, if_pos hst]
  exact ⟨by rw [mayClose_approach], mayClose_state (s := countCompleted a c s) hst a,
    fun up => mayClose_lowers (s := countCompleted a c s) up⟩

theorem elapse_arm (n : Nat) (s : State) (a : Arm) :
    (elapse n s).guard.arms.get a = (s.guard.arms.get a).advance n := by
  cases a <;> rfl

theorem ownConfirmUnwarned_eq {x : List Byte} {s : State} {a : Approach} {c : WarningCount}
    (ha : named allApproaches (byteAt x 0) = some a) (hc : (s.guard.approaches.get a).count = some c) :
    ownConfirmUnwarned x s =
      if c.status = .held ∧ (s.seq.state = .warning ∨ s.seq.state = .entryClosing) then
        (settle (completeCount a s), accept [])
      else (s, refuse .notReady) := by
  simp [ownConfirmUnwarned, ha, countHeld, hc]

/-- Settles O42: a complete count, and a held one confirmed, closes its approach. -/
theorem warningCounts : Obligations.WarningCounts := by
  unfold Obligations.WarningCounts
  refine ⟨fun s a c hc hr => ?complete, fun p x s a c hd ha hc => ⟨fun hh hst => ?confirms, fun hn => ?refuses⟩,
    fun s a h => congrArg _ (expire_still _ s h)⟩
  case complete =>
    let v := elapse (c.required - c.counted) s
    have run : countTimer a s = .running c.counted c.required := by simp [countTimer, hc, WarningCount.timer, hr]
    have counts : (v.guard.approaches.get a).count = some (c.advance (c.required - c.counted)) := by
      rw [elapse_approach]
      simp [ApproachRecord.advance, hc]
    refine ⟨completeCount a v, _, congrArg _ (expire_of_running run _ s), completeCount_count counts, rfl,
      fun hst => ?_, fun hw he w hv => ?_⟩
    · obtain ⟨permit, closing, lowers⟩ := completeCount_closes counts hst
      exact ⟨permit, closing, fun up => lowers (by rw [elapse_arm]; exact up)⟩
    · subst hv
      have same : v.seq.state = s.seq.state := rfl
      rw [completeCount_eq counts, if_neg (by rw [same]; exact not_or.mpr ⟨hw, he⟩)]
      rfl
  case confirms =>
    have own := (ownConfirmUnwarned_eq (s := taken p 32 x s) ha hc).trans (if_pos ⟨hh, hst⟩)
    obtain ⟨permit, closing, -⟩ := completeCount_closes (s := taken p 32 x s) hc hst
    exact ⟨_, _, exec_of_owner rfl rfl rfl hd own, completeCount_count (s := taken p 32 x s) hc, rfl, permit, closing⟩
  case refuses =>
    have held : ¬ (c.status = .held ∧ (s.seq.state = .warning ∨ s.seq.state = .entryClosing)) := by tauto
    exact exec_of_owner rfl rfl rfl hd ((ownConfirmUnwarned_eq (s := taken p 32 x s) ha hc).trans (if_neg held))

end Sys2Proof.Machine
end


section
/-!
The arms at their timers and requests (R126, R127, R131, R133, R134) and the deck's measurement (R136 to R140).
-/

namespace Sys2Proof.Machine

/-! ## Arms -/

theorem setArm_arms (a : Arm) (r : ArmRecord) (s : State) : (setArm a r s).guard.arms = s.guard.arms.set a r := rfl

/-- An arm in FAULT (R127). -/
def faultedArm (why : ArmFaultReason) (r : ArmRecord) : ArmRecord := { restArm .fault r with faultReason := some why }

theorem armFault_arms (a : Arm) (why : ArmFaultReason) (s : State) :
    (armFault a why s).guard.arms = s.guard.arms.set a (faultedArm why (s.guard.arms.get a)) := rfl

theorem lit_armFault_six (a : Arm) (why : ArmFaultReason) (s : State) : Lit .control 6 (armFault a why s) :=
  lit_of_raiseControl .armFault _

theorem mayLower_iff (a : Arm) (s : State) :
    mayLower a s = true ↔ a.isEntry = false ∨ (s.guard.approaches.get a.approach).permit = true := by
  simp [mayLower]

/-- What the end of a retry wait leaves of its arm (R131). -/
theorem retryLowering_arm (a : Arm) (s : State) :
    (retryLowering a s).guard.arms.get a =
      if mayLower a s then travelArm .lowering s.params (s.guard.arms.get a)
      else { s.guard.arms.get a with retryWait := .stopped } := by
  unfold retryLowering
  dsimp only
  split <;> rw [setArm_arms, PerArm.get_set]

/-! ## ARM_RETRY -/

theorem retryRefused_false {a : Arm} {s : State} (h : retryRefused a s = false) :
    (s.guard.arms.get a).state = .fault ∧ bothEnds (filtered s) a = false := by
  simp only [retryRefused, Bool.or_eq_false_iff, bne_eq_false_iff_eq] at h
  obtain ⟨⟨⟨hfault, hends⟩, -⟩, -⟩ := h
  exact ⟨hfault, hends⟩

/-- The arm that an accepted ARM_RETRY leaves (R133). -/
theorem retryArm_arm (a : Arm) (s : State) :
    (retryArm a s).guard.arms.get a = (match (s.guard.arms.get a).commandedEnd with
      | .up => if restUp (filtered s) a then restArm .up { s.guard.arms.get a with obstructions := 0 }
          else travelArm .raising s.params { s.guard.arms.get a with obstructions := 0 }
      | .down => if restDown (filtered s) a then restArm .down { s.guard.arms.get a with obstructions := 0 }
          else travelArm .lowering s.params { s.guard.arms.get a with obstructions := 0 }) := by
  cases hend : (s.guard.arms.get a).commandedEnd <;> simp only [retryArm, hend, setArm_arms, PerArm.get_set]

/-- With not both switches made, each switch is its rest position. -/
theorem rest_of_not_bothEnds {x : RawInputs} {a : Arm} (h : bothEnds x a = false) :
    restUp x a = RawInputs.armUp x a ∧ restDown x a = RawInputs.armDown x a := by
  revert h
  cases hu : RawInputs.armUp x a <;> cases hl : RawInputs.armDown x a <;> simp [bothEnds, restUp, restDown, hu, hl]

/-! ## ARM_SERVICE -/

theorem armServiceState_iff (s : State) :
    armServiceState s = true ↔ s.seq.state = .roadOpen ∨ s.seq.state = .inactive := by
  simp [armServiceState]

/-- ARM_SERVICE by the arm's state and what is asked (R134). -/
theorem ownArmService_eq {x : List Byte} {s : State} {a : Arm} {out : Bool} (ha : named allArms (byteAt x 0) = some a)
    (ho : byteAt x 1 = out.toNat) :
    ownArmService x s =
      if (s.guard.arms.get a).state = .outOfService ↔ out = true then (s, accept [])
      else if out then
        if (s.guard.arms.get a).state = .fault ∨ (s.guard.arms.get a).state = .up ∧ armServiceState s = true then
          (settle (removeArm a s), accept [])
        else (s, refuse .notReady)
      else if armServiceState s then (settle (returnArm a s), accept [])
      else (s, refuse .notReady) := by
  have code : yesNo (byteAt x 1) = some out := by rw [ho]; cases out <;> rfl
  simp only [ownArmService, ha, code]
  cases out <;> by_cases hst : (s.guard.arms.get a).state = .outOfService <;> simp [hst]

theorem removeArm_arm (a : Arm) (s : State) :
    (removeArm a s).guard.arms.get a = restArm .outOfService (s.guard.arms.get a) := by
  simp [removeArm, setArm_arms]

theorem returnArm_arm (a : Arm) (s : State) :
    (returnArm a s).guard.arms.get a =
      if restUp (filtered s) a then
        { restArm .up { s.guard.arms.get a with obstructions := 0 } with commandedEnd := .up }
      else faultedArm .position { s.guard.arms.get a with obstructions := 0, commandedEnd := .down } := by
  unfold returnArm
  dsimp only
  split <;> simp [armFault_arms, setArm_arms]

/-! ## Raising an arm that is UP -/

theorem raiseArm_rests {a : Arm} {s : State} (up : (s.guard.arms.get a).state = .up)
    (rest : (s.guard.arms.get a).retryWait = .stopped) : raiseArm a s = s := by
  simp [raiseArm, armAt, up, rest]

/-- An arm UP that waits to lower again is commanded up: its wait and its count go (R126, R131). -/
theorem raiseArm_waits {a : Arm} {s : State} (up : (s.guard.arms.get a).state = .up)
    (waits : (s.guard.arms.get a).retryWait ≠ .stopped) (secure : spanSecure s = true) :
    raiseArm a s = setArm a { s.guard.arms.get a with
      commandedEnd := .up, obstructions := 0, retryWait := .stopped } s := by
  simp [raiseArm, armAt, up, waits, commandUp, secure]

/-- Settles O44: each arm event leaves its arm's record as the model's lemma for it gives. -/
theorem armEvents : Obligations.ArmEvents := by
  unfold Obligations.ArmEvents
  refine ⟨fun s a k l h => ?timeout, fun s a k l h => ?retryWait, fun p x s a hd ha => ⟨fun hr => ?refused, fun hr => ?retry⟩,
    fun p x s a out hd ha ho => ?service, fun s a r hr up => ?raise,
    fun s a => ⟨fun h => congrArg _ (expire_still _ s h), fun h => congrArg _ (expire_still _ s h)⟩⟩
  case timeout =>
    refine ⟨armFault a .timeout (elapse (l - k) s), congrArg _ (expire_of_running h _ s), ?_, ?_, ?_, ?_,
      lit_armFault_six _ _ _, fun b hb => ?_⟩
    · rw [armFault_arms, PerArm.get_set]; rfl
    · rw [armFault_arms, PerArm.get_set]; rfl
    · rw [armFault_arms, PerArm.get_set]; rfl
    · rw [armFault_arms, PerArm.get_set]; rfl
    · rw [armFault_arms, PerArm.get_set_ne _ _ hb]
  case retryWait =>
    have permits : mayLower a (elapse (l - k) s) = mayLower a s := by
      simp [mayLower, elapse_approach, ApproachRecord.advance]
    have arm := retryLowering_arm a (elapse (l - k) s)
    rw [permits, elapse_arm] at arm
    refine ⟨retryLowering a (elapse (l - k) s), congrArg _ (expire_of_running h _ s), ?_, fun hp => ?_,
      fun he hp => ?_⟩
    · rw [arm]
      split <;> rfl
    · rw [arm, if_pos ((mayLower_iff a s).mpr hp)]
      exact ⟨rfl, rfl⟩
    · rw [arm, if_neg (by simp [mayLower, he, hp])]
      rfl
  case refused =>
    have own : ownArmRetry x (taken p 36 x s) = (taken p 36 x s, refuse .notReady) := by
      have hr' : retryRefused a (taken p 36 x s) = true := hr
      simp [ownArmRetry, ha, hr']
    exact exec_of_owner rfl rfl rfl hd own
  case retry =>
    have own : ownArmRetry x (taken p 36 x s) = (settle (retryArm a (taken p 36 x s)), accept []) := by
      have hr' : retryRefused a (taken p 36 x s) = false := hr
      simp [ownArmRetry, ha, hr']
    obtain ⟨fault, ends⟩ := retryRefused_false hr
    obtain ⟨hup, hdown⟩ := rest_of_not_bothEnds ends
    refine ⟨fault, retryArm a (taken p 36 x s), exec_of_owner rfl rfl rfl hd own, ?_⟩
    rw [retryArm_arm, taken_guard, show filtered (taken p 36 x s) = filtered s from rfl, hup, hdown]
    cases (s.guard.arms.get a).commandedEnd
    · dsimp only
      split <;> exact ⟨rfl, rfl, rfl⟩
    · dsimp only
      split <;> exact ⟨rfl, rfl, rfl⟩
  case service =>
    have own := ownArmService_eq (s := taken p 37 x s) ha ho
    have states : armServiceState (taken p 37 x s) = armServiceState s := rfl
    rw [states, taken_guard] at own
    refine ⟨fun hsame => ?_, fun hout hst => ?_, fun hout hn hf hu => ?_, fun hin hst ho hi => ?_, fun hin hst hss => ?_⟩
    · rw [if_pos hsame] at own
      exact exec_of_owner rfl rfl rfl hd own
    · have differs : ¬ ((s.guard.arms.get a).state = .outOfService ↔ out = true) := by
        rcases hst with hst | ⟨hst, -⟩ <;> simp [hst, hout]
      rw [if_neg differs, if_pos hout, if_pos (by rw [armServiceState_iff]; exact hst)] at own
      exact ⟨_, exec_of_owner rfl rfl rfl hd own, by rw [removeArm_arm]; rfl, by rw [removeArm_arm]; rfl⟩
    · rw [if_neg (by simp [hn, hout]), if_pos hout, if_neg (by rw [armServiceState_iff]; tauto)] at own
      exact exec_of_owner rfl rfl rfl hd own
    · rw [if_neg (by simp [hst, hin]), if_neg (by simp [hin]), if_neg (by rw [armServiceState_iff]; tauto)] at own
      exact exec_of_owner rfl rfl rfl hd own
    · rw [if_neg (by simp [hst, hin]), if_neg (by simp [hin]), if_pos ((armServiceState_iff s).mpr hss)] at own
      refine ⟨returnArm a (taken p 37 x s), exec_of_owner rfl rfl rfl hd own, ?_⟩
      rw [returnArm_arm, show filtered (taken p 37 x s) = filtered s from rfl]
      refine ⟨by split <;> rfl, fun h => ?_, fun h => ?_⟩
      · rw [if_pos h]
        exact ⟨rfl, rfl⟩
      · rw [if_neg (by simp [h])]
        exact ⟨rfl, rfl, rfl⟩
  case raise =>
    subst hr
    exact ⟨fun rest => raiseArm_rests up rest, fun waits secure => raiseArm_waits up waits secure⟩

/-! ## The deck -/

theorem stopOccupancies_detector (s : State) (d : Detector) :
    ((stopOccupancies s).guard.detectors.get d).occupancy = .stopped := by
  simp [stopOccupancies]

theorem commandDown_deck (a : Arm) (s : State) : (commandDown a s).guard.deck = s.guard.deck :=
  congrArg (·.guard.deck) (offArms_commandDown a s)
theorem commandDown_detectors (a : Arm) (s : State) : (commandDown a s).guard.detectors = s.guard.detectors :=
  congrArg (·.guard.detectors) (offArms_commandDown a s)

/-- Leaving DECK_CLEARING other than for a hold drops the measurement (R136). -/
theorem setSeq_exitClosing_guard {s : State} (h : s.seq.state = .deckClearing) :
    (setSeq .exitClosing s).guard = (dropMeasurement s).guard := by
  simp [setSeq, h]
  rfl

/-- The measurement complete, every timer of the deck has stopped (R136). -/
def deckComplete (s : State) : State :=
  stopOccupancies (setDeck { s.guard.deck with measurement := some .complete, clear := .stopped, wait := .stopped } s)

theorem deckIsClear_eq (s : State) :
    deckIsClear s = if s.seq.state = .deckClearing then enterExitClosing (deckComplete s) else deckComplete s := by
  unfold deckIsClear deckComplete
  simp only [beq_iff_eq]

theorem enterExitClosing_state (s : State) : (enterExitClosing s).seq.state = .exitClosing := by
  simp [enterExitClosing]

theorem enterExitClosing_deck {s : State} (h : s.seq.state = .deckClearing) :
    (enterExitClosing s).guard.deck = (dropMeasurement s).guard.deck ∧
      (enterExitClosing s).guard.detectors = (dropMeasurement s).guard.detectors := by
  simp only [enterExitClosing, commandDown_deck, commandDown_detectors, setSeq_exitClosing_guard h, and_self]

theorem deckWaitOver_deck (s : State) :
    (deckWaitOver s).guard.deck = { s.guard.deck with wait := .stopped, notClear := true } := by
  unfold deckWaitOver
  dsimp only
  split <;> rfl

/-- DECK_NOT_CLEAR is raised at its first report (R137). -/
theorem deckWaitOver_control (s : State) :
    (deckWaitOver s).ports.control.attention =
      s.ports.control.attention ||| (if s.guard.deck.notClear then 0#24 else 1#24 <<< 7) := by
  cases h : s.guard.deck.notClear <;> simp [deckWaitOver, h]
  rfl

theorem deckWaitOver_harbour (s : State) : (deckWaitOver s).ports.harbour = s.ports.harbour := by
  unfold deckWaitOver
  dsimp only
  split <;> rfl

theorem elapse_detector (n : Nat) (s : State) (d : Detector) :
    (elapse n s).guard.detectors.get d = (s.guard.detectors.get d).advance n := by
  cases d <;> rfl

/-! ## DETECTOR_SERVICE -/

theorem detectorsClear_iff (s : State) :
    detectorsClear s = true ↔
      ∀ d, (s.guard.detectors.get d).inService = true → RawInputs.occupied (filtered s) d = false := by
  have every : ∀ d : Detector, d ∈ allDetectors := by intro d; cases d <;> decide
  simp only [detectorsClear, List.all_eq_true, Bool.or_eq_true, Bool.not_eq_true']
  constructor
  · exact fun h d hs => (h d (every d)).resolve_left (by simp [hs])
  · intro h d _
    cases hs : (s.guard.detectors.get d).inService
    · exact .inl rfl
    · exact .inr (h d hs)

theorem measuring_iff (s : State) :
    measuring s = true ↔ s.guard.deck.measurement = some .running ∧ s.guard.halted = false := by
  simp [measuring]

/-- The deck once the clear timer has followed the detectors (R136). -/
theorem followClear_deck (s : State) :
    (followClear s).guard.deck = { s.guard.deck with
      clear := if detectorsClear s then
          (if s.guard.deck.clear.isRunning then s.guard.deck.clear else clearStart s.params)
        else .stopped } := rfl

theorem followClear_detectors (s : State) : (followClear s).guard.detectors = s.guard.detectors := rfl

/-- The detector that DETECTOR_SERVICE takes out or returns, before the clear timer follows (R138). -/
def servedDetector (out : Bool) (d : Detector) (s : State) : State :=
  let r := s.guard.detectors.get d
  setDetector d { r with
    inService := !out,
    occupancy := if out then .stopped
      else if measuring s then
        (if RawInputs.occupied (filtered s) d then waitStart s.params else .stopped)
      else r.occupancy } s

theorem detectorService_eq (out : Bool) (d : Detector) (s : State) :
    (if out then removeDetector d s else returnDetector d s) =
      if measuring s then followClear (servedDetector out d s) else servedDetector out d s := by
  cases out
  · cases hm : measuring s
    · have still : ∀ r, measuring (setDetector d r s) = false := fun r => hm
      simp [returnDetector, servedDetector, still, hm]
    · have still : ∀ r, measuring (setDetector d r s) = true := fun r => hm
      simp only [Bool.false_eq_true, if_false, returnDetector, still, if_true, servedDetector, hm, Bool.not_false]
      congr 1
      simp only [startOccupancy, setDetector, PerDetector.get_set]
      cases d <;> rfl
  · cases hm : measuring s
    · have still : ∀ r, measuring (setDetector d r s) = false := fun r => hm
      simp [removeDetector, servedDetector, still]
    · have still : ∀ r, measuring (setDetector d r s) = true := fun r => hm
      simp [removeDetector, servedDetector, still]

theorem servedDetector_detector (out : Bool) (d : Detector) (s : State) :
    (servedDetector out d s).guard.detectors.get d = { s.guard.detectors.get d with
      inService := !out,
      occupancy := if out then .stopped
        else if measuring s then
          (if RawInputs.occupied (filtered s) d then waitStart s.params else .stopped)
        else (s.guard.detectors.get d).occupancy } := by
  simp [servedDetector, setDetector]

theorem servedDetector_other {d e : Detector} (h : e ≠ d) (out : Bool) (s : State) :
    (servedDetector out d s).guard.detectors.get e = s.guard.detectors.get e := by
  simp [servedDetector, setDetector, PerDetector.get_set_ne _ _ h]

theorem ownDetectorService_eq {x : List Byte} {s : State} {d : Detector} {out : Bool}
    (hdet : named allDetectors (byteAt x 0) = some d) (ho : byteAt x 1 = out.toNat) :
    ownDetectorService x s =
      if (s.guard.detectors.get d).inService = !out then (s, accept [])
      else (if measuring s then followClear (servedDetector out d s) else servedDetector out d s, accept []) := by
  have code : yesNo (byteAt x 1) = some out := by rw [ho]; cases out <;> rfl
  rw [← detectorService_eq]
  simp only [ownDetectorService, hdet, code]
  cases out <;> cases (s.guard.detectors.get d).inService <;> rfl

/-- Settles O45: the deck's timers end its measurement, its wait and an occupancy; a detector's service follows. -/
theorem deckEvents : Obligations.DeckEvents := by
  unfold Obligations.DeckEvents
  refine ⟨fun s k l h => ?clear, fun s k l h => ?wait, fun s d k l h => ?occupancy,
    fun p x s d out hd hdet ho => ?service, fun s d => ⟨fun h => congrArg _ (expire_still _ s h),
      fun h => congrArg _ (expire_still _ s h), fun h => congrArg _ (expire_still _ s h)⟩⟩
  case clear =>
    have same : (elapse (l - k) s).seq.state = s.seq.state := rfl
    have shape := deckIsClear_eq (elapse (l - k) s)
    rw [same] at shape
    refine ⟨deckIsClear (elapse (l - k) s), congrArg _ (expire_of_running h _ s), ?_⟩
    rw [shape]
    by_cases hst : s.seq.state = .deckClearing
    · obtain ⟨deck, detectors⟩ := enterExitClosing_deck (s := deckComplete (elapse (l - k) s)) hst
      rw [if_pos hst, deck, detectors]
      exact ⟨fun _ => enterExitClosing_state _, fun hn => absurd hst hn, rfl, rfl, stopOccupancies_detector _⟩
    · rw [if_neg hst]
      exact ⟨fun hc => absurd hc hst, fun _ => ⟨rfl, rfl⟩, rfl, rfl, stopOccupancies_detector _⟩
  case wait =>
    exact ⟨deckWaitOver (elapse (l - k) s), congrArg _ (expire_of_running h _ s),
      eq_of_offRoad (offRoad_deckWaitOver _), deckWaitOver_deck _, deckWaitOver_control _, deckWaitOver_harbour _⟩
  case occupancy =>
    have ran : ((s.guard.detectors.get d).advance (l - k)).occupancy.overrun = .over l := by
      simp [DetectorRecord.advance, h, Timer.advance, Timer.overrun]
    refine ⟨occupiedTooLong d (elapse (l - k) s), congrArg _ (expire_of_running h _ s), rfl, ?_, fun e he => ?_, rfl⟩
    · simp only [occupiedTooLong, setDetector, PerDetector.get_set, elapse_detector, ran]
      rfl
    · simp [occupiedTooLong, setDetector, PerDetector.get_set_ne _ _ he]
  case service =>
    have own := ownDetectorService_eq (s := taken p 38 x s) hdet ho
    have count : measuring (taken p 38 x s) = measuring s := rfl
    rw [count, taken_guard] at own
    refine ⟨fun hs => ?_, fun hs => ?_⟩
    · rw [if_pos hs] at own
      exact exec_of_owner rfl rfl rfl hd own
    · rw [if_neg (by rw [hs]; cases out <;> decide)] at own
      refine ⟨_, exec_of_owner rfl rfl rfl hd own, ?_⟩
      by_cases hm : measuring s = true
      · obtain ⟨running, awake⟩ := (measuring_iff s).mp hm
        have clear := detectorsClear_iff (servedDetector out d (taken p 38 x s))
        rw [if_pos hm, followClear_detectors, followClear_deck, servedDetector_detector]
        refine ⟨rfl, rfl, rfl, fun hout => if_pos hout, fun hstill => ?_, fun _ _ => ⟨fun hin => ?_, fun hall => ?_,
          fun hany => ?_⟩, fun e he => servedDetector_other he _ _⟩
        · rcases hstill with hstill | hstill
          · exact absurd running hstill
          · exact absurd awake (by simp [hstill])
        · rw [hin, count, if_pos hm]
          rfl
        · rw [if_pos (clear.mpr hall)]
          rfl
        · obtain ⟨e, hin, hocc⟩ := hany
          rw [if_neg fun hc => absurd (clear.mp hc e hin) (by
            rw [show filtered (servedDetector out d (taken p 38 x s)) = filtered s from rfl, hocc]; decide)]
          rfl
      · rw [if_neg hm, servedDetector_detector]
        refine ⟨rfl, rfl, rfl, fun hout => if_pos hout, fun _ => ⟨rfl, fun hin => ?_⟩, fun hr hh =>
          absurd ((measuring_iff s).mpr ⟨hr, hh⟩) hm, fun e he => servedDetector_other he _ _⟩
        rw [hin, count, if_neg hm]
        rfl

end Sys2Proof.Machine
end


section
/-!
Fault reports (R94, R95, R160) and what brings them: encoder edges (R143, R144), the timers of the lift drive unit
(R152, R163, R167), with the trim (R156) and JOG (R166 to R168).
-/

namespace Sys2Proof.Machine

/-! ## Fault reports -/

/-- No motion, no jog, both brakes SET. -/
def Rested (u : State) : Prop :=
  u.drive.motion = .none ∧ u.drive.jog = none ∧
    ∀ k, (u.drive.towers.get k).released = false ∧ (u.drive.towers.get k).reference = 0

/-- No bolt travels. -/
def LocksStopped (u : State) : Prop :=
  ∀ b, (u.drive.bolts.get b).state ≠ .withdrawing ∧ (u.drive.bolts.get b).state ≠ .driving

theorem rested_endMotion (s : State) : Rested (endMotion s) :=
  ⟨rfl, rfl, fun k => by cases k <;> exact ⟨rfl, rfl⟩⟩

theorem rested_brakesSet (s : State) : Rested (brakesSet s) := rested_endMotion s

theorem locksStopped_brakesSet (s : State) : LocksStopped (brakesSet s) := by
  intro b
  obtain ⟨-, -, hbolt⟩ := brakesSet_drive s b
  obtain ⟨hwithdrawing, hdriving, -⟩ := stopBolt_rests (s.drive.bolts.get b)
  rw [hbolt]
  exact ⟨hwithdrawing, hdriving⟩

theorem rested_of_drive {s t : State} (h : t.drive = s.drive) (r : Rested s) : Rested t := by
  unfold Rested
  rw [h]
  exact r

theorem locksStopped_of_drive {s t : State} (h : t.drive = s.drive) (r : LocksStopped s) : LocksStopped t := by
  unfold LocksStopped
  rw [h]
  exact r

theorem endJog_of_rested {s : State} (r : Rested s) : endJog s = s := by
  obtain ⟨motion, -, -⟩ := r
  simp [endJog, motion]

/-- The states that a fault report takes to FAULT_HOLD as a held phase (R95). -/
def SeqState.running : SeqState → Bool
  | .inactive | .positionLost | .recovering | .faultHold | .halted => false
  | _ => true

/-- FAULT_HOLD is entered from a running state. -/
def enterFaultHold (s : State) : State :=
  mapSeq (fun q => { q with heldPhase := some s.seq.state, windWait := .stopped })
    (setSeq .faultHold (stopServing (brakesSet s)))

theorem reportFault_inactive {s : State} (h : s.seq.state = .inactive) (c : FaultCause) : reportFault c s = s := by
  simp [reportFault, h]

theorem reportFault_positionLost {s : State} (h : s.seq.state = .positionLost) (c : FaultCause) :
    reportFault c s = raiseControl .faultHold (endJog s) := by
  simp [reportFault, h]

theorem reportFault_recovering {s : State} (h : s.seq.state = .recovering) (c : FaultCause) :
    reportFault c s = raiseControl .faultHold (setSeq .positionLost (brakesSet s)) := by
  simp [reportFault, h]

theorem reportFault_held {s : State} (h : s.seq.state = .faultHold ∨ s.seq.state = .halted) (c : FaultCause) :
    reportFault c s = raiseControl .faultHold (addCause c s) := by
  rcases h with h | h <;> simp [reportFault, h]

theorem reportFault_running {s : State} (h : s.seq.state.running = true) (c : FaultCause) :
    reportFault c s = raiseControl .faultHold (addCause c (enterFaultHold s)) := by
  unfold reportFault enterFaultHold
  cases hst : s.seq.state <;> first | rfl | (rw [hst] at h; exact absurd h (by decide))

/-- A cause added is in the set, with those that were. -/
theorem addCause_has (c : FaultCause) (s : State) : (addCause c s).seq.causes.getLsbD c.ctorIdx = true := by
  simp [addCause, getLsbD_bit]

theorem addCause_keeps {c d : FaultCause} {s : State} (h : s.seq.causes.getLsbD c.ctorIdx = true) :
    (addCause d s).seq.causes.getLsbD c.ctorIdx = true := by
  simp [addCause, h]

theorem lit_faultHold (s : State) : Lit .control 1 (raiseControl .faultHold s) := lit_of_raiseControl .faultHold s

/-- What a report leaves in the states that are held for it. -/
theorem faultReported_running {c : FaultCause} {s u : State} (h : s.seq.state.running = true) :
    FaultReported c s u ↔ Rested u ∧ u.seq.state = .faultHold ∧ u.seq.heldPhase = some s.seq.state ∧ LocksStopped u ∧
      u.seq.causes.getLsbD c.ctorIdx = true ∧ Lit .control 1 u := by
  unfold FaultReported Rested LocksStopped Lit
  cases hst : s.seq.state <;> first
    | (rw [hst] at h; exact absurd h (by decide))
    | simp only [PerPort.get, and_assoc]

theorem faultReported_held {c : FaultCause} {s u : State} (h : s.seq.state = .faultHold ∨ s.seq.state = .halted) :
    FaultReported c s u ↔ Rested u ∧ u.seq.state = s.seq.state ∧ u.seq.heldPhase = s.seq.heldPhase ∧
      u.seq.causes.getLsbD c.ctorIdx = true ∧ Lit .control 1 u := by
  unfold FaultReported Rested Lit
  rcases h with h | h <;> simp only [h, PerPort.get, and_assoc]

theorem faultReported_lost {c : FaultCause} {s u : State} (h : s.seq.state = .positionLost) :
    FaultReported c s u ↔ Rested u ∧ u.seq.state = .positionLost ∧ u.seq.causes = s.seq.causes ∧ Lit .control 1 u := by
  unfold FaultReported Rested Lit
  simp only [h, PerPort.get, and_assoc]

theorem faultReported_recovering {c : FaultCause} {s u : State} (h : s.seq.state = .recovering) :
    FaultReported c s u ↔ Rested u ∧ u.seq.state = .positionLost ∧ LocksStopped u ∧ u.seq.causes = s.seq.causes ∧
      Lit .control 1 u := by
  unfold FaultReported Rested LocksStopped Lit
  simp only [h, PerPort.get, and_assoc]

theorem faultReported_inactive {c : FaultCause} {s u : State} (h : s.seq.state = .inactive) :
    FaultReported c s u ↔ Rested u ∧ u.seq.state = .inactive ∧ u.seq.causes = s.seq.causes := by
  unfold FaultReported Rested
  simp only [h, and_assoc]

/-- The kinds of state that a report tells apart. -/
theorem seqState_kinds (st : SeqState) : st = .inactive ∨ st = .positionLost ∨ st = .recovering ∨
    (st = .faultHold ∨ st = .halted) ∨ st.running = true := by
  cases st <;> simp [SeqState.running]

theorem enterFaultHold_drive (s : State) : (enterFaultHold s).drive = (brakesSet s).drive := by
  simp [enterFaultHold]

/-- The first report (R94, R95): the sequence is still in the state it is compared with, the motion has ended. -/
theorem reportFault_first {s t : State} (same : t.seq = s.seq) (r : Rested t) (c : FaultCause) :
    FaultReported c s (reportFault c t) := by
  have st : t.seq.state = s.seq.state := congrArg (·.state) same
  rcases seqState_kinds s.seq.state with h | h | h | h | h
  · rw [faultReported_inactive h, reportFault_inactive (st.trans h), same]
    exact ⟨r, h, rfl⟩
  · rw [faultReported_lost h, reportFault_positionLost (st.trans h), endJog_of_rested r]
    exact ⟨r, st.trans h, congrArg (·.causes) same, lit_faultHold t⟩
  · rw [faultReported_recovering h, reportFault_recovering (st.trans h)]
    refine ⟨rested_of_drive (setSeq_drive _ _) (rested_brakesSet t), by simp,
      locksStopped_of_drive (setSeq_drive _ _) (locksStopped_brakesSet t), ?_, lit_faultHold _⟩
    have kept : (raiseControl .faultHold (setSeq .positionLost (brakesSet t))).seq.causes = t.seq.causes := by
      simp [brakesSet, stopLocks, endMotion]
    rw [kept, same]
  · rw [faultReported_held h, reportFault_held (by rwa [st])]
    exact ⟨rested_of_drive rfl r, st, congrArg (·.heldPhase) same, addCause_has c t, lit_faultHold _⟩
  · have run : t.seq.state.running = true := by rwa [st]
    rw [faultReported_running h, reportFault_running run]
    refine ⟨rested_of_drive (enterFaultHold_drive t) (rested_brakesSet t), ?_, ?_,
      locksStopped_of_drive (enterFaultHold_drive t) (locksStopped_brakesSet t), addCause_has c (enterFaultHold t),
      lit_faultHold _⟩
    · simp [addCause, enterFaultHold]
    · simp [addCause, enterFaultHold, st]

/-- A report after another (R94): what is held stays so, and the causes gather. -/
theorem reportFault_next {c : FaultCause} {s u : State} (h : FaultReported c s u) (d : FaultCause) :
    FaultReported c s (reportFault d u) ∧ FaultReported d s (reportFault d u) := by
  rcases seqState_kinds s.seq.state with hst | hst | hst | hst | hst
  · rw [faultReported_inactive hst] at h
    rw [faultReported_inactive hst, faultReported_inactive hst, reportFault_inactive h.2.1]
    exact ⟨h, h⟩
  · rw [faultReported_lost hst] at h
    obtain ⟨r, lost, causes, -⟩ := h
    rw [faultReported_lost hst, faultReported_lost hst, reportFault_positionLost lost, endJog_of_rested r, and_self]
    exact ⟨r, lost, causes, lit_faultHold u⟩
  · rw [faultReported_recovering hst] at h
    obtain ⟨r, lost, locks, causes, -⟩ := h
    rw [faultReported_recovering hst, faultReported_recovering hst, reportFault_positionLost lost, endJog_of_rested r,
      and_self]
    exact ⟨r, lost, locks, causes, lit_faultHold u⟩
  · rw [faultReported_held hst] at h
    obtain ⟨r, held, phase, cause, -⟩ := h
    rw [faultReported_held hst, faultReported_held hst, reportFault_held (by rwa [held])]
    exact ⟨⟨r, held, phase, addCause_keeps cause, lit_faultHold _⟩, r, held, phase, addCause_has d u, lit_faultHold _⟩
  · rw [faultReported_running hst] at h
    obtain ⟨r, held, phase, locks, cause, -⟩ := h
    rw [faultReported_running hst, faultReported_running hst, reportFault_held (.inl held)]
    exact ⟨⟨r, held, phase, locks, addCause_keeps cause, lit_faultHold _⟩, r, held, phase, locks, addCause_has d u,
      lit_faultHold _⟩

theorem reportFaults_after {c : FaultCause} {s u : State} (h : FaultReported c s u) (l : List FaultCause) :
    FaultReported c s (l.foldl (fun s c => reportFault c s) u) ∧
      ∀ d ∈ l, FaultReported d s (l.foldl (fun s c => reportFault c s) u) := by
  induction l generalizing c u with
  | nil => exact ⟨h, fun d hd => absurd hd List.not_mem_nil⟩
  | cons d l ih =>
    obtain ⟨hc, hd⟩ := reportFault_next h d
    refine ⟨(ih hc).1, fun e he => ?_⟩
    rcases List.mem_cons.mp he with rfl | he
    · exact (ih hd).1
    · exact (ih hd).2 e he

/-- Every fault of a list found is reported (R160). -/
theorem foundFaults_reported {c : FaultCause} {l : List FaultCause} (hc : c ∈ l) (s : State) :
    FaultReported c s (foundFaults l s) := by
  cases l with
  | nil => exact absurd hc List.not_mem_nil
  | cons d l =>
    have first := reportFault_first (s := s) (t := endMotion s) rfl (rested_endMotion s) d
    rcases List.mem_cons.mp hc with rfl | hc
    · exact (reportFaults_after first l).1
    · exact (reportFaults_after first l).2 c hc

/-- A report is judged by the sequence controller alone. -/
theorem faultReported_congr {c : FaultCause} {s t u : State} (state : t.seq.state = s.seq.state)
    (phase : t.seq.heldPhase = s.seq.heldPhase) (causes : t.seq.causes = s.seq.causes) (h : FaultReported c t u) :
    FaultReported c s u := by
  unfold FaultReported at h ⊢
  rwa [state, phase, causes] at h

/-! ## What a report leaves at the towers -/

/-- What a tower has measured: count, phase, position. -/
def Tower.measured (r : TowerRecord) : Int × Bool × Bool × Int × Bool × Bool :=
  (r.count, r.phaseA, r.phaseB, r.position, r.outOfRange, r.limitBefore)

/-- What both towers have measured. -/
def measured (s : State) : PerTower (Int × Bool × Bool × Int × Bool × Bool) := s.drive.towers.map Tower.measured

@[simp] theorem measured_endMotion (s : State) : measured (endMotion s) = measured s := rfl
@[simp] theorem measured_brakesSet (s : State) : measured (brakesSet s) = measured s := rfl

theorem measured_of_drive {s t : State} (h : t.drive = s.drive) : measured t = measured s :=
  congrArg (fun d : Drive => d.towers.map Tower.measured) h

@[simp] theorem measured_endJog (s : State) : measured (endJog s) = measured s := by
  unfold endJog
  split <;> simp

@[simp] theorem measured_reportFault (c : FaultCause) (s : State) : measured (reportFault c s) = measured s := by
  rcases seqState_kinds s.seq.state with h | h | h | h | h
  · rw [reportFault_inactive h]
  · rw [reportFault_positionLost h]
    exact measured_endJog s
  · rw [reportFault_recovering h]
    exact (measured_of_drive (setSeq_drive .positionLost (brakesSet s)) :)
  · rw [reportFault_held h]
    rfl
  · rw [reportFault_running h]
    exact (measured_of_drive (enterFaultHold_drive s) :)

@[simp] theorem measured_foundFaults (l : List FaultCause) (s : State) : measured (foundFaults l s) = measured s := by
  unfold foundFaults
  split
  · rfl
  · exact foldl_keeps measured (fun s c => measured_reportFault c s) l (endMotion s)

theorem measured_tower {s t : State} (h : measured t = measured s) (k : Tower) :
    Tower.measured (t.drive.towers.get k) = Tower.measured (s.drive.towers.get k) := by
  have kept := congrArg (fun m : PerTower _ => m.get k) h
  simpa only [measured, PerTower.get_map] using kept

/-! ## ENCODER_EDGE -/

theorem phasePlace_lt (a b : Bool) : phasePlace a b < 4 := by cases a <;> cases b <;> decide

theorem phasePlace_inj (a b x y : Bool) : (x, y) = (a, b) ↔ phasePlace x y = phasePlace a b := by
  cases a <;> cases b <;> cases x <;> cases y <;> decide

theorem nextPhase_iff (a b x y : Bool) : (x, y) = nextPhase (a, b) ↔ phasePlace x y = (phasePlace a b + 1) % 4 := by
  cases a <;> cases b <;> cases x <;> cases y <;> decide

theorem phase_before_iff (a b x y : Bool) : (a, b) = nextPhase (x, y) ↔ phasePlace x y = (phasePlace a b + 3) % 4 := by
  have := phasePlace_lt a b
  have := phasePlace_lt x y
  rw [nextPhase_iff]
  omega

/-- An edge by the places of the two phases in their cycle (R143, R144). -/
theorem countEdge_eq (c : Int) (a b x y : Bool) :
    countEdge c (a, b) (x, y) =
      if phasePlace x y = phasePlace a b then (c, false)
      else if phasePlace x y = (phasePlace a b + 1) % 4 then (if c < 8388607 then (c + 1, false) else (c, true))
      else if phasePlace x y = (phasePlace a b + 3) % 4 then (if -8388608 < c then (c - 1, false) else (c, true))
      else (c, true) :=
  if_congr (phasePlace_inj a b x y) rfl
    (if_congr (nextPhase_iff a b x y) rfl (if_congr (phase_before_iff a b x y) rfl rfl))

theorem countEdge_count (c : Int) (a b x y : Bool) :
    (countEdge c (a, b) (x, y)).1 =
      if phasePlace x y = (phasePlace a b + 1) % 4 ∧ c < 8388607 then c + 1
      else if phasePlace x y = (phasePlace a b + 3) % 4 ∧ -8388608 < c then c - 1 else c := by
  have := phasePlace_lt a b
  rw [countEdge_eq]
  split_ifs <;> dsimp only <;> omega

theorem countEdge_legal {c : Int} {a b x y : Bool} (h : phasePlace x y = phasePlace a b ∨
    phasePlace x y = (phasePlace a b + 1) % 4 ∧ c < 8388607 ∨
    phasePlace x y = (phasePlace a b + 3) % 4 ∧ -8388608 < c) : (countEdge c (a, b) (x, y)).2 = false := by
  have := phasePlace_lt a b
  rw [countEdge_eq]
  split_ifs <;> first | rfl | (exfalso; omega)

theorem countEdge_illegal {c : Int} {a b x y : Bool} (h : phasePlace x y = (phasePlace a b + 2) % 4 ∨
    phasePlace x y = (phasePlace a b + 1) % 4 ∧ 8388607 ≤ c ∨
    phasePlace x y = (phasePlace a b + 3) % 4 ∧ c ≤ -8388608) : (countEdge c (a, b) (x, y)).2 = true := by
  have := phasePlace_lt a b
  rw [countEdge_eq]
  split_ifs <;> first | rfl | (exfalso; omega)

/-- The tower that an edge leaves, a fault aside (R143). -/
def edged (k : Tower) (a b : Bool) (s : State) : State :=
  let r := s.drive.towers.get k
  setTower k { r with count := (countEdge r.count (r.phaseA, r.phaseB) (a, b)).1, phaseA := a, phaseB := b } s

theorem encoderEdge_eq (k : Tower) (a b : Bool) (s : State) :
    encoderEdge k a b s =
      if (countEdge (s.drive.towers.get k).count
          ((s.drive.towers.get k).phaseA, (s.drive.towers.get k).phaseB) (a, b)).2 = true ∧
          s.drive.valid = true ∧ s.seq.state ≠ .recovering then foundFaults [.encoder] (edged k a b s)
      else edged k a b s := by
  unfold encoderEdge edged
  simp only [Bool.and_eq_true, bne_iff_ne, and_assoc]

theorem measured_encoderEdge (k : Tower) (a b : Bool) (s : State) :
    measured (encoderEdge k a b s) = measured (edged k a b s) := by
  rw [encoderEdge_eq]
  split <;> simp

theorem edged_self (k : Tower) (a b : Bool) (s : State) :
    (edged k a b s).drive.towers.get k = { s.drive.towers.get k with
      count := (countEdge (s.drive.towers.get k).count
        ((s.drive.towers.get k).phaseA, (s.drive.towers.get k).phaseB) (a, b)).1,
      phaseA := a, phaseB := b } := by
  simp [edged, setTower]

/-- Settles O46: an edge counts by its place in the cycle, and an illegal one is a fault of ENCODER. -/
theorem encoderEdgeCounts : Obligations.EncoderEdgeCounts := by
  unfold Obligations.EncoderEdgeCounts
  rintro s k a b old new c rfl rfl rfl
  have own := measured_tower (measured_encoderEdge k a b s) k
  rw [edged_self] at own
  refine ⟨encoderEdge k a b s, rfl, congrArg (·.2.1) own, congrArg (·.2.2.1) own, fun j hj => ?other, ?count,
    fun legal => ?legal, fun illegal => ⟨fun hv hr => ?fault, fun hn => ?quiet⟩⟩
  case other =>
    have others := measured_tower (measured_encoderEdge k a b s) j
    rw [show (edged k a b s).drive.towers.get j = s.drive.towers.get j by
      simp [edged, setTower, PerTower.get_set_ne _ _ hj]] at others
    exact congrArg (·.1) others
  case count => exact (congrArg (·.1) own).trans (countEdge_count ..)
  case legal =>
    rw [encoderEdge_eq, if_neg fun h => absurd (h.1.symm.trans (countEdge_legal legal)) (by decide)]
    rfl
  case fault =>
    rw [encoderEdge_eq, if_pos ⟨countEdge_illegal illegal, hv, hr⟩]
    exact faultReported_congr (t := edged k a b s) rfl rfl rfl (foundFaults_reported (List.mem_singleton_self _) _)
  case quiet =>
    rw [encoderEdge_eq, if_neg fun h => hn.elim (fun hv => absurd (h.2.1.symm.trans hv) (by decide)) h.2.2]
    rfl

/-! ## The trim -/

/-- The reference of R156 is the one that the statement's formula gives. -/
theorem referenceOf_eq {s : State} (h : s.drive.motion = .raise ∨ s.drive.motion = .lower) (t : Tower) :
    referenceOf s t = trimReference (decide (s.drive.motion = .raise)) s.drive.profile s.params.trimBand
      s.params.trimGain (skew s) (stoppedTowers s) t := by
  have stopped : (stoppedTowers s).get t = (s.drive.towers.get t).stopped := by cases t <;> rfl
  have leads : (leading s.drive.motion (skew s) = t) ↔
      (if decide (s.drive.motion = .raise) then decide (t = if 0 < skew s then Tower.w else .e)
        else decide (t ≠ if 0 < skew s then Tower.w else .e)) = true := by
    rcases h with h | h <;> by_cases hs : 0 < skew s <;> cases t <;> simp [leading, h, hs]
  unfold referenceOf trimReference trimmed
  simp only [stopped, leads]
  by_cases hst : (s.drive.towers.get t).stopped = true
  · simp [hst]
  · have halves : (s.drive.towers.w.stopped || s.drive.towers.e.stopped) =
        ((stoppedTowers s).w || (stoppedTowers s).e) := rfl
    rw [if_neg hst, if_neg hst, halves]
    cases ((stoppedTowers s).w || (stoppedTowers s).e) <;>
      cases (if decide (s.drive.motion = .raise) = true then decide (t = if 0 < skew s then Tower.w else .e)
        else decide (t ≠ if 0 < skew s then Tower.w else .e)) <;>
      cases (decide (|skew s| ≤ s.params.trimBand)) <;> cases (skew s == 0) <;> simp [Config.trimCap]

end Sys2Proof.Machine
end


section
/-!
The timers of the lift drive unit (R152, R163, R167) and JOG (R166 to R168).
-/

namespace Sys2Proof.Machine

/-! ## The motion runs -/

/-- A RAISE or LOWER that begins to run, before its references are set (R152, R158). -/
def beganRunning (s : State) : State :=
  mapDrive (fun d => { d with
    phase := some .running, settle := .stopped, profile := s.params.creepSpeed, towers := d.towers.map takeAnchor }) s

theorem runMotion_level {s : State} (h : s.drive.motion = .raise ∨ s.drive.motion = .lower) :
    runMotion s = setReferences (beganRunning s) := by
  rcases h with h | h <;> (unfold runMotion; rw [h]; rfl)

theorem stoppedTowers_beganRunning (s : State) : stoppedTowers (beganRunning s) = stoppedTowers s := rfl
theorem skew_beganRunning (s : State) : skew (beganRunning s) = skew s := rfl

theorem setReferences_reference (s : State) (t : Tower) :
    ((setReferences s).drive.towers.get t).reference = referenceOf s t := by
  cases t <;> rfl

/-- The first references of a RUNNING RAISE or LOWER (R152, R156). -/
theorem runMotion_reference {s : State} (h : s.drive.motion = .raise ∨ s.drive.motion = .lower) (t : Tower) :
    ((runMotion s).drive.towers.get t).reference =
      trimReference (decide (s.drive.motion = .raise)) s.params.creepSpeed s.params.trimBand s.params.trimGain
        (skew s) (stoppedTowers s) t := by
  rw [runMotion_level h, setReferences_reference, referenceOf_eq (s := beganRunning s) h]
  rfl

theorem runMotion_runs {s : State} (h : s.drive.motion ≠ .none) :
    (runMotion s).drive.phase = some .running ∧ (runMotion s).drive.settle = .stopped ∧
      (runMotion s).drive.motion = s.drive.motion ∧
      (s.drive.motion ≠ .jog → (runMotion s).drive.profile = s.params.creepSpeed) := by
  unfold runMotion
  cases hm : s.drive.motion with
  | none => exact absurd hm h
  | raise | lower | descent => exact ⟨rfl, rfl, hm, fun _ => rfl⟩
  | jog =>
    refine ⟨?_, ?_, ?_, fun hn => absurd rfl hn⟩
    · dsimp only; split <;> rfl
    · dsimp only; split <;> rfl
    · dsimp only; split <;> exact hm

theorem runMotion_descent {s : State} (h : s.drive.motion = .descent) (t : Tower) :
    ((runMotion s).drive.towers.get t).reference =
      if (s.drive.towers.get t).stopped then 0 else s.params.creepSpeed := by
  unfold runMotion
  rw [h]
  cases t <;> rfl

theorem runMotion_jog {s : State} {j : Jog} (h : s.drive.motion = .jog) (hj : s.drive.jog = some j) :
    ((runMotion s).drive.towers.get j.tower).reference = s.params.creepSpeed := by
  unfold runMotion
  simp only [h, hj, setTower, PerTower.get_set]

/-! ## The lock-travel timer -/

/-- A report leaves the bolts, or stops their travel (R164). -/
theorem reportFault_bolts (c : FaultCause) (s : State) :
    (reportFault c s).drive.bolts = s.drive.bolts ∨ (reportFault c s).drive.bolts = s.drive.bolts.map stopBolt := by
  rcases seqState_kinds s.seq.state with h | h | h | h | h
  · exact .inl (by rw [reportFault_inactive h])
  · refine .inl ?_
    rw [reportFault_positionLost h, raiseControl_drive, endJog_bolts]
  · refine .inr ?_
    rw [reportFault_recovering h, raiseControl_drive, setSeq_drive]
    rfl
  · exact .inl (by rw [reportFault_held h]; rfl)
  · refine .inr ?_
    rw [reportFault_running h]
    exact congrArg (·.bolts) (enterFaultHold_drive s)

/-- A bolt in FAULT is no travelling bolt: a report leaves it but for its waiting. -/
theorem foundFault_bolt {b : Tower} {s : State} (h : (s.drive.bolts.get b).state = .fault) (c : FaultCause) :
    ∃ w, (foundFaults [c] s).drive.bolts.get b = { s.drive.bolts.get b with waiting := w } := by
  have faulted : stopBolt (s.drive.bolts.get b) = { s.drive.bolts.get b with waiting := false } := by
    simp [stopBolt, h]
  rcases reportFault_bolts c (endMotion s) with same | stopped
  · exact ⟨(s.drive.bolts.get b).waiting, congrArg (·.get b) same⟩
  · refine ⟨false, ?_⟩
    have at_b := congrArg (·.get b) stopped
    rw [PerTower.get_map] at at_b
    exact at_b.trans faulted

/-- The bolt whose travel timer expires (R163). -/
def timedOut (b : Tower) (s : State) : State :=
  setBolt b { s.drive.bolts.get b with state := .fault, reason := some .timeout, travel := .stopped } s

theorem boltTimeout_eq (b : Tower) (s : State) : boltTimeout b s = foundFaults [.lockTimeout] (timedOut b s) := rfl

/-! ## JOG -/

theorem sameJog_iff {t : Tower} {dir : Vertical} {s : State} {j : Jog} (h : s.drive.jog = some j) :
    sameJog t dir s = true ↔ j.tower = t ∧ j.direction = dir := by
  simp [sameJog, h]

/-- The position figures that an accepted JOG sends (R166). -/
def jogFigures (t : Tower) (s : State) : List Byte :=
  putInt2 (s.drive.towers.get t).position ++ putInt4 (s.drive.towers.w.position - s.drive.towers.e.position) ++
    putBool s.drive.valid

/-- JOG by what is in progress (R166 to R168). -/
theorem ownJog_eq {x : List Byte} {s : State} {t : Tower} {dir : Vertical} (ht : named allTowers (byteAt x 0) = some t)
    (hdir : byteAt x 1 = (match dir with | .up => 0 | .down => 1)) :
    ownJog x s =
      if jogState s = true ∧ jogAllowed t dir s = true ∧ (s.drive.jog = none ∨ sameJog t dir s = true) then
        (settle (if s.drive.jog.isSome then renewJog s else startJog t dir s), accept (jogFigures t s))
      else (settle (if sameJog t dir s then endMotion s else s), refuse .notReady) := by
  have code : named allVerticals (byteAt x 1) = some dir := by rw [hdir]; cases dir <;> rfl
  simp only [ownJog, ht, code, Bool.and_eq_true, Bool.or_eq_true, Option.isNone_iff_eq_none, and_assoc]
  rfl

theorem startJog_drive (t : Tower) (dir : Vertical) (s : State) :
    (startJog t dir s).drive.motion = .jog ∧ (startJog t dir s).drive.phase = some .settling ∧
      (startJog t dir s).drive.jog = some
        { tower := t, direction := dir, keepAlive := .running 0 500, levelMade := RawInputs.level (filtered s) } ∧
      (startJog t dir s).drive.settle = .running 0 s.params.brakeSettle ∧
      ∀ q, ((startJog t dir s).drive.towers.get q).released = decide (q = t) ∧
        ((startJog t dir s).drive.towers.get q).reference = 0 :=
  ⟨rfl, rfl, rfl, rfl, fun q => by cases q <;> cases t <;> exact ⟨rfl, rfl⟩⟩

/-- Settles O48: the three timers of the unit, and JOG by the state and the jog in progress. -/
theorem driveTimersAndJog : Obligations.DriveTimersAndJog := by
  unfold Obligations.DriveTimersAndJog
  refine ⟨fun s k l h hm => ?settles, fun s b k l h => ?lock, fun s j k l hm hj h => ?keepAlive,
    fun p x out s t dir hd ht hdir hout => ?jog, fun s b => ⟨fun h => congrArg _ (expire_still _ s h),
      fun h => congrArg _ (expire_still _ s h), fun h => ?nojog⟩⟩
  case settles =>
    obtain ⟨phase, still, motion, profile⟩ := runMotion_runs (s := elapse (l - k) s) hm
    refine ⟨runMotion (elapse (l - k) s), congrArg _ (expire_of_running h _ s), phase, still, motion, profile,
      fun hl t => runMotion_reference (s := elapse (l - k) s) hl t, fun hl t => runMotion_descent (s := elapse (l - k) s) hl t,
      fun j hl hj => ?_⟩
    have later : (elapse (l - k) s).drive.jog = some { j with keepAlive := j.keepAlive.advance (l - k) } :=
      (congrArg (Option.map fun j : Jog => { j with keepAlive := j.keepAlive.advance (l - k) }) hj :)
    exact (runMotion_jog (s := elapse (l - k) s) hl later :)
  case lock =>
    have bolt : (timedOut b (elapse (l - k) s)).drive.bolts.get b =
        { (elapse (l - k) s).drive.bolts.get b with state := .fault, reason := some .timeout, travel := .stopped } := by
      cases b <;> rfl
    obtain ⟨w, kept⟩ := foundFault_bolt (s := timedOut b (elapse (l - k) s)) (b := b) (by rw [bolt]) .lockTimeout
    rw [← boltTimeout_eq, bolt] at kept
    refine ⟨boltTimeout b (elapse (l - k) s), congrArg _ (expire_of_running h _ s), congrArg (·.state) kept,
      congrArg (·.reason) kept, congrArg (·.travel) kept, ?_⟩
    rw [boltTimeout_eq]
    exact faultReported_congr (t := timedOut b (elapse (l - k) s)) rfl rfl rfl
      (foundFaults_reported (List.mem_singleton_self _) _)
  case keepAlive =>
    have timer : Machine.keepAlive s = .running k l := by simp [Machine.keepAlive, hj, h]
    have ends : endJog (elapse (l - k) s) = endMotion (elapse (l - k) s) := by
      simp [endJog, show (elapse (l - k) s).drive.motion = .jog from hm]
    obtain ⟨motion, jog, towers⟩ := rested_endMotion (elapse (l - k) s)
    rw [← ends] at motion jog towers
    exact ⟨endJog (elapse (l - k) s), congrArg _ (expire_of_running timer _ s), jog, motion, towers⟩
  case jog =>
    subst hout
    have own := ownJog_eq (s := taken p 40 x s) ht hdir
    refine ⟨fun hst ha hn => ?_, fun j hst ha hj htower hdirection => ?_, fun j hj hn => ?_, fun hno hn => ?_,
      fun j hno hj htower hdirection => ?_⟩
    · rw [if_pos ⟨hst, ha, .inl hn⟩, if_neg (by simp [hn])] at own
      obtain ⟨motion, phase, jog, settles, towers⟩ := startJog_drive t dir (taken p 40 x s)
      exact ⟨_, _, exec_of_owner rfl rfl rfl hd own, motion, phase, jog, rfl, rfl, rfl, settles, towers⟩
    · have same := (sameJog_iff (s := taken p 40 x s) hj).mpr ⟨htower, hdirection⟩
      rw [if_pos ⟨hst, ha, .inr same⟩, if_pos (by simp [hj])] at own
      refine ⟨renewJog (taken p 40 x s), exec_of_owner rfl rfl rfl hd own, ?_⟩
      simp [renewJog, mapDrive, hj, Timer.start, Config.keepAliveMs]
    · have other : ¬ sameJog t dir (taken p 40 x s) = true := fun h => hn ((sameJog_iff (s := taken p 40 x s) hj).mp h)
      rw [if_neg (by simp [hj, other]), if_neg other] at own
      exact exec_of_owner rfl rfl rfl hd own
    · have other : ¬ sameJog t dir (taken p 40 x s) = true := by simp [sameJog, hn]
      rw [if_neg (fun hc => hno.elim (fun h0 => absurd (hc.1.symm.trans h0) (by decide))
        fun h0 => absurd (hc.2.1.symm.trans h0) (by decide)), if_neg other] at own
      exact exec_of_owner rfl rfl rfl hd own
    · have same := (sameJog_iff (s := taken p 40 x s) hj).mpr ⟨htower, hdirection⟩
      rw [if_neg (fun hc => hno.elim (fun h0 => absurd (hc.1.symm.trans h0) (by decide))
        fun h0 => absurd (hc.2.1.symm.trans h0) (by decide)), if_pos same] at own
      exact ⟨_, exec_of_owner rfl rfl rfl hd own, rfl, rfl⟩
  case nojog => exact congrArg _ (expire_still _ s (by simp [Machine.keepAlive, h]; rfl))

end Sys2Proof.Machine
end


section
/-!
The sampler and the recognizers (R174, R194, R195).
-/

namespace Sys2Proof.Machine

/-! ## The readings -/

theorem filtered_of_inputs {s t : State} (h : t.inputs = s.inputs) : filtered t = filtered s := by
  simp [filtered, h]

theorem getLsbD_majority (a b c : RawInputs) (k : Nat) :
    (RawInputs.majority a b c).getLsbD k = (a.getLsbD k && b.getLsbD k || a.getLsbD k && c.getLsbD k ||
      b.getLsbD k && c.getLsbD k) := by
  simp [RawInputs.majority]

theorem majority_self (a : RawInputs) : RawInputs.majority a a a = a := by
  simp [RawInputs.majority]

/-! ## An input sample -/

/-- An input sample up to the edges of the channel (log 9). -/
def beforeEdges (raw : RawInputs) (s : State) : State :=
  let s1 := takeReading raw s
  let s2 := sampleBolts s1
  let s3 := if spanSecure s2 != s2.guard.seatedLocked then followSecure s2 else s2
  let s4 := sampleArms s.inputs.isNone s3
  let s5 := if s.inputs.isNone then firstPhases s4 else s4
  deckSample (filtered s) (filtered s1) s5

theorem outer_ite (b : Bool) (f : State → State) (h : ∀ t, outer (f t) = outer t) (s : State) :
    outer (if b then f s else s) = outer s := by
  cases b
  · rfl
  · exact h s

theorem outer_beforeEdges (raw : RawInputs) (s : State) : outer (beforeEdges raw s) = outer (takeReading raw s) := by
  unfold beforeEdges
  dsimp only
  rw [outer_deckSample, outer_ite _ _ outer_firstPhases, outer_sampleArms, outer_ite _ _ outer_followSecure,
    outer_sampleBolts]

/-- The edges of the channel at an input sample. -/
def sampleEdges (raw : RawInputs) (s : State) : State :=
  edgeSample (filtered s) (filtered (takeReading raw s)) .d
    (edgeSample (filtered s) (filtered (takeReading raw s)) .u (beforeEdges raw s))

theorem inputSample_eq (raw : RawInputs) (s : State) :
    inputSample raw s =
      if RawInputs.emergencyStop raw then demandHalt (sampleEdges raw s) else sampleEdges raw s := rfl

/-! ## The recognizers at a sample -/

theorem countEnter_recognizers (s : State) : (countEnter s).channel.recognizers = s.channel.recognizers := by
  unfold countEnter
  split <;> rfl

theorem countExit_recognizers (s : State) : (countExit s).channel.recognizers = s.channel.recognizers := by
  unfold countExit
  split <;> rfl

theorem recognizers_of_outer {s t : State} (h : outer t = outer s) :
    t.channel.recognizers = s.channel.recognizers :=
  congrArg Outer.recognizers h

/-- A sample writes the recognizer of its edge and no other (R174). -/
theorem edgeSample_recognizers (before now : RawInputs) (e : Edge) (s : State) :
    (edgeSample before now e s).channel.recognizers = s.channel.recognizers.set e
      (recognize (s.channel.recognizers.get e) (RawInputs.outer before e) (RawInputs.inner before e)
        (RawInputs.outer now e) (RawInputs.inner now e)).1 := by
  unfold edgeSample
  dsimp only
  generalize recognize _ _ _ _ _ = found
  obtain ⟨r, crossing, ambiguous⟩ := found
  dsimp only
  generalize ht : (if ambiguous then _ else _ : State) = t
  have known : t.channel.recognizers = s.channel.recognizers.set e r := by
    subst ht
    split <;> rfl
  have crossed : (match crossing with
      | some .inward => enterCrossing (Edge.arrivals e) t
      | some .outward => exitCrossing e t
      | none => t).channel.recognizers = t.channel.recognizers := by
    split
    · exact (recognizers_of_outer (outer_enterCrossing _ t)).trans (countEnter_recognizers t)
    · exact (recognizers_of_outer (outer_exitCrossing _ t)).trans (countExit_recognizers t)
    · rfl
  split
  · exact (recognizers_of_outer (outer_approachCleared _ _)).trans (crossed.trans known)
  · exact crossed.trans known

theorem sampleEdges_recognizers (raw : RawInputs) (s : State) (e : Edge) :
    (sampleEdges raw s).channel.recognizers.get e =
      (recognize (s.channel.recognizers.get e) (RawInputs.outer (filtered s) e) (RawInputs.inner (filtered s) e)
        (RawInputs.outer (filtered (takeReading raw s)) e) (RawInputs.inner (filtered (takeReading raw s)) e)).1 := by
  have before : (beforeEdges raw s).channel.recognizers = s.channel.recognizers :=
    (recognizers_of_outer (outer_beforeEdges raw s) :)
  rw [sampleEdges, edgeSample_recognizers, edgeSample_recognizers, before]
  cases e <;> rfl

theorem inputSample_recognizers (raw : RawInputs) (s : State) :
    (settle (inputSample raw s)).channel.recognizers = (sampleEdges raw s).channel.recognizers := by
  rw [recognizers_of_outer (outer_settle _), inputSample_eq]
  split
  · exact recognizers_of_outer (outer_demandHalt _)
  · rfl

/-- The readings after a sample are those taken. -/
theorem edgeSample_inputs (before now : RawInputs) (e : Edge) (s : State) :
    (edgeSample before now e s).inputs = s.inputs :=
  edgeSample_keeps (P := fun t => t.inputs = s.inputs) (fun _ => rfl) (fun _ h => h)
    (fun d t h => (congrArg Outer.inputs (outer_enterCrossing d t) :).trans
      ((by unfold countEnter; split <;> rfl : (countEnter t).inputs = t.inputs).trans h))
    (fun t h => (congrArg Outer.inputs (outer_exitCrossing e t) :).trans
      ((by unfold countExit; split <;> rfl : (countExit t).inputs = t.inputs).trans h))
    (fun d t h => (congrArg Outer.inputs (outer_approachCleared d t) :).trans h)

theorem inputSample_inputs (raw : RawInputs) (s : State) :
    (settle (inputSample raw s)).inputs = (takeReading raw s).inputs := by
  have edges : (sampleEdges raw s).inputs = (takeReading raw s).inputs := by
    rw [sampleEdges, edgeSample_inputs, edgeSample_inputs]
    exact congrArg Outer.inputs (outer_beforeEdges raw s)
  have sampled : (inputSample raw s).inputs = (sampleEdges raw s).inputs := by
    rw [inputSample_eq]
    split
    · exact congrArg Outer.inputs (outer_demandHalt _)
    · rfl
  exact (congrArg Outer.inputs (outer_settle (inputSample raw s)) :).trans (sampled.trans edges)

theorem demandHalt_state (s : State) :
    (demandHalt s).seq.state = .halted ∨ (demandHalt s).seq.state = .inactive := by
  unfold demandHalt
  split
  · next h =>
    simp only [Bool.or_eq_true, beq_iff_eq] at h
    exact h.symm
  · exact .inl (by simp [enterHalted_eq])

/-- Settles O50: the sampler keeps three readings, and each recognizer follows its beams. -/
theorem samplerAndRecognizers : Obligations.SamplerAndRecognizers := by
  unfold Obligations.SamplerAndRecognizers
  refine ⟨fun raw s => ⟨settle (inputSample raw s), inputSample raw s, rfl, rfl, fun h => ?first, fun a b c h => ?later,
    fun h => ?halts⟩, fun ob ib o i f => ?recognizer, fun raw s now e hnow => ?recognizers⟩
  case first =>
    have taken : (settle (inputSample raw s)).inputs = some (raw, raw, raw) := by
      rw [inputSample_inputs]
      simp [takeReading, h]
    refine ⟨taken, ?_⟩
    unfold filtered
    rw [taken]
    exact majority_self raw
  case later =>
    have taken : (settle (inputSample raw s)).inputs = some (b, c, raw) := by
      rw [inputSample_inputs]
      simp [takeReading, h]
    refine ⟨taken, fun k => ?_⟩
    unfold filtered
    rw [taken]
    exact getLsbD_majority b c raw k
  case halts =>
    rw [inputSample_eq, if_pos h]
    exact demandHalt_state _
  case recognizer =>
    refine ⟨rfl, rfl, rfl, rfl, fun broken => if_pos broken, ?_, ?_, rfl⟩ <;> cases f <;> rfl
  case recognizers =>
    subst hnow
    exact ⟨_, rfl, (congrArg (·.get e) (inputSample_recognizers raw s)).trans (sampleEdges_recognizers raw s e)⟩

end Sys2Proof.Machine
end


section
/-!
SET_TIME and CLOCK_STATUS (R204, R205), CONFIGURE, COMMISSION and SET_PARAMETER (R77, R217 to R219).
-/

namespace Sys2Proof.Machine

theorem answered_response (p : Port) (n : Nat) (x : Status) (l : List Byte) (u : State) :
    ((answered p n x l u).ports.get p).response = some ⟨n, x, l⟩ := by
  simp [answered, respond, setPort]

/-! ## SET_TIME -/

theorem clock_of_outer {s t : State} (h : outer t = outer s) : t.clock = s.clock := congrArg Outer.clock h

/-- The clock that SET_TIME leaves (R204). -/
def setTo (minute seconds : Nat) (c : Clock) : Clock :=
  { c with
    minute := minute, seconds := seconds, valid := true,
    stepTimer := if c.lock = .free then .running 0 1000 else c.stepTimer }

theorem setClock_eq (minute seconds : Nat) (s : State) :
    setClock minute seconds s = { s with clock := setTo minute seconds s.clock } := by
  simp [setClock, mapClock, setTo, Timer.start, Config.oscillatorMs]

theorem outer_withDueEvent {f : State → State} (h : ∀ s, outer (f s) = outer s) (s : State) :
    outer (settle (withDueEvent f s)) = outer s := by
  simp [withDueEvent, h]

theorem outer_forwardTable (k old : Nat) (s : State) : outer (forwardTable k old s) = outer s := by
  rw [forwardTable, outer_visitMinutes, outer_ageConcluded]

/-- The forward step is 0 only to the minute the clock shows (R204). -/
theorem forwardStep_eq {c : Clock} {m q : Nat} (hm : m < 1440) (hc : c.minute < 1440) :
    forwardStep c m q = if m = c.minute then (if c.seconds ≤ q then 0 else 1440) else (m + 1440 - c.minute) % 1440 := by
  unfold forwardStep Config.dayMinutes
  by_cases h : m = c.minute
  · subst h
    simp
  · have step : (m + 1440 - c.minute) % 1440 ≠ 0 := by omega
    simp [step, h]

theorem ownSetTime_refused {x : List Byte} {s : State} (h : 1440 ≤ wordAt x 0 ∨ 60 ≤ byteAt x 2 ∨ 2 ≤ byteAt x 3) :
    ownSetTime x s = (s, refuse .outOfRange) := by
  unfold ownSetTime
  rw [if_pos]
  simpa [or_assoc] using h

/-- What an accepted SET_TIME leaves of the clock and answers (R204). -/
theorem ownSetTime_sets {x : List Byte} {s : State} (hm : wordAt x 0 < 1440) (hq : byteAt x 2 < 60)
    (hb : byteAt x 3 < 2) (hc : s.clock.minute < 1440) :
    ∃ u, ownSetTime x s = (u, accept (putBool s.clock.valid ++ putOpt 2 put2
        (if s.clock.valid = true ∧ byteAt x 3 = 0 then some (if wordAt x 0 = s.clock.minute then
          (if s.clock.seconds ≤ byteAt x 2 then 0 else 1440) else (wordAt x 0 + 1440 - s.clock.minute) % 1440)
        else none))) ∧ u.clock = setTo (wordAt x 0) (byteAt x 2) s.clock ∧
      (s.clock.valid = true → byteAt x 3 = 1 → u = { s with clock := setTo (wordAt x 0) (byteAt x 2) s.clock }) := by
  have range : ¬ (decide (1440 ≤ wordAt x 0) || decide (60 ≤ byteAt x 2) || decide (2 ≤ byteAt x 3)) = true := by
    simp only [Bool.or_eq_true, decide_eq_true_eq]
    omega
  unfold ownSetTime
  rw [if_neg range, ← forwardStep_eq hm hc]
  cases hv : s.clock.valid with
  | false =>
    refine ⟨settle (withDueEvent (sweepTable (wordAt x 0)) (setClock (wordAt x 0) (byteAt x 2) s)), by simp [hv], ?_, nofun⟩
    rw [clock_of_outer (outer_withDueEvent (outer_sweepTable _) _), setClock_eq]
  | true =>
    by_cases hback : byteAt x 3 = 1
    · exact ⟨setClock (wordAt x 0) (byteAt x 2) s, by simp [hv, hback], by rw [setClock_eq], fun _ _ => setClock_eq ..⟩
    · have hforward : byteAt x 3 = 0 := by omega
      simp only [hv, hforward, Bool.not_true, Bool.false_eq_true, if_false]
      refine ⟨_, rfl, ?_, fun _ h => absurd h (by decide)⟩
      split
      · rw [setClock_eq]
      · rw [clock_of_outer (outer_withDueEvent (outer_forwardTable _ _) _), setClock_eq]

/-! ## CLOCK_STATUS -/

theorem putOpt_pulseAge {free : Nat} {r : Option Nat} (h : ∀ n, r = some n → n < 65536) :
    putOpt 2 (putPulseAge free) r = putOpt 2 put2 r := by
  cases r with
  | none => rfl
  | some n => simp [putOpt, putPulseAge, h n rfl]

theorem putOpt_mark (r : Option Mark) : putOpt 1 (fun (m : Mark) => put1 m.ctorIdx) r =
    putOpt 1 put1 (r.map (fun m => match m with | .second => 0 | .minute => 1)) := by
  cases r with
  | none => rfl
  | some m => cases m <;> rfl

theorem lock_code (l : LockState) : l.ctorIdx = match l with | .locked => 0 | .free => 1 := by
  cases l <;> rfl

/-- The figures of CLOCK_STATUS (R205). -/
def clockFigures (c : Clock) : List Byte :=
  put2 c.minute ++ put1 c.seconds ++ put1 (c.minute / 15) ++ putBool c.valid ++
    put1 (match c.lock with | .locked => 0 | .free => 1) ++ put1 c.recaptureRun ++ putOpt 2 put2 c.reference ++
    putBool c.early ++ putOpt 1 put1 (c.lastMark.map (fun m => match m with | .second => 0 | .minute => 1))

/-- CLOCK_STATUS with a reference that its two bytes hold (R205). -/
theorem ownClockStatus_eq {x : List Byte} {s : State} {clear : Bool} (hx : byteAt x 0 = clear.toNat)
    (hr : ∀ r, s.clock.reference = some r → r < 65536) :
    ownClockStatus x s = ({ s with clock := { s.clock with early := s.clock.early && !clear } },
      accept (clockFigures s.clock)) := by
  have code : yesNo (byteAt x 0) = some clear := by rw [hx]; cases clear <;> rfl
  have short : (match s.clock.reference with
      | some t => decide (65536 ≤ t)
      | none => false) = false := by
    split
    · next t ht => simpa using hr t ht
    · rfl
  have shown : (if clear then mapClock (fun c => { c with early := false }) s else s) =
      { s with clock := { s.clock with early := s.clock.early && !clear } } := by
    cases clear <;> simp [mapClock]
  simp only [ownClockStatus, code, putOpt_pulseAge hr, putOpt_mark, lock_code]
  rw [← shown]
  exact congrArg (fun u => (u, _)) (if_neg fun h => absurd (h.symm.trans short) (by decide))

/-- Settles O52: SET_TIME sets the clock and answers its step, CLOCK_STATUS sends the clock and may clear EARLY. -/
theorem clockRequests : Obligations.ClockRequests := by
  unfold Obligations.ClockRequests
  refine ⟨fun p x s m q b k hd hm hq hb => ⟨fun h => ?refused, fun hm' hq' hb' hc hk => ?sets⟩,
    fun p x s clear hd hx hr => ?status⟩
  case refused =>
    subst hm hq hb
    exact exec_of_owner rfl rfl rfl hd (ownSetTime_refused h)
  case sets =>
    subst hm hq hb
    obtain ⟨u, own, clock, back⟩ := ownSetTime_sets (s := taken p 44 x s) hm' hq' hb' hc
    refine ⟨_, setTo (wordAt x 0) (byteAt x 2) s.clock, exec_of_owner rfl rfl rfl hd own, rfl, clock, ?_,
      fun hv h1 => ?_⟩
    · rw [answered_response, hk]
      rfl
    · rw [back hv h1]
      simp only [taken_clock, hv, h1]
      rfl
  case status =>
    exact exec_of_owner rfl rfl rfl hd (ownClockStatus_eq (s := taken p 45 x s) hx hr)

end Sys2Proof.Machine
end


section
/-!
CONFIGURE, COMMISSION and SET_PARAMETER (R77, R217 to R219).
-/

namespace Sys2Proof.Machine

/-! ## CONFIGURE -/

theorem noArmTravels_iff (s : State) :
    noArmTravels s = true ↔ ∀ a, (s.guard.arms.get a).state ≠ .lowering ∧ (s.guard.arms.get a).state ≠ .raising := by
  have every : ∀ a : Arm, a ∈ allArms := by intro a; cases a <;> decide
  simp [noArmTravels, every]

theorem mayConfigure_iff (s : State) : mayConfigure s = true ↔
    (s.seq.state = .roadOpen ∨ s.seq.state = .roadClosed ∨ s.seq.state = .positionLost) ∧
      ∀ a, (s.guard.arms.get a).state ≠ .lowering ∧ (s.guard.arms.get a).state ≠ .raising := by
  rw [mayConfigure, Bool.and_eq_true, noArmTravels_iff]
  simp [or_assoc]

/-- The state in which the columns of CONFIGURE are cleared. -/
def configuring (s : State) : State := setSeq .inactive (brakesSet { s with mode := .configuring })

theorem configure_eq (s : State) : configure s = takeWarnings (configureColumns (configuring s)) := rfl

theorem configureColumns_seq (s : State) :
    (configureColumns s).seq = { s.seq with
      heldPhase := none, causes := 0, closureOrigin := none, windWait := .stopped, entryRaise := false } := by
  simp [configureColumns, computePositions, locateTower, dropMeasurement, stopOccupancies, mapSeq]

theorem configureColumns_planner (s : State) :
    (configureColumns s).planner = { s.planner with
      holdOff := .stopped, holdOffElapsed := false, roadPriority := false, roadPriorityTimer := .stopped,
      maxRaised := .stopped } := by
  simp [configureColumns, computePositions, locateTower, dropMeasurement, stopOccupancies, mapPlanner]

theorem configureColumns_motion (s : State) : (configureColumns s).drive.motion = s.drive.motion ∧
    (configureColumns s).drive.jog = s.drive.jog := by
  simp [configureColumns, computePositions, locateTower, dropMeasurement, stopOccupancies, mapDrive, setTower]

theorem configureColumns_table (s : State) : (configureColumns s).table = s.table := by
  simp [configureColumns, computePositions, locateTower, dropMeasurement, stopOccupancies]

theorem configureColumns_ports (s : State) : (configureColumns s).ports = s.ports := by
  simp [configureColumns, computePositions, locateTower, dropMeasurement, stopOccupancies]

theorem takeWarning_count (a : Approach) (s : State) (b : Approach) :
    ((takeWarning a s).guard.approaches.get b).count =
      if b = a then none else (s.guard.approaches.get b).count := by
  unfold takeWarning
  dsimp only
  split <;> cases a <;> cases b <;> simp [enterDark, setApproach, PerApproach.get, PerApproach.set]

theorem takeWarnings_count (s : State) (a : Approach) :
    ((takeWarnings s).guard.approaches.get a).count = none := by
  cases a <;> simp [takeWarnings, takeWarning_count]

theorem takeWarnings_drive (s : State) : (takeWarnings s).drive = s.drive := congrArg (·.drive) (offRoad_takeWarnings s)
theorem takeWarnings_table (s : State) : (takeWarnings s).table = s.table := congrArg (·.table) (offRoad_takeWarnings s)

theorem outer_configure (s : State) : outer (configure s) = outer { s with mode := .configuring } := by
  simp [configure]

theorem configuring_drive (s : State) : (configuring s).drive = (brakesSet { s with mode := .configuring }).drive :=
  setSeq_drive _ _

theorem lit_configure_phase (s : State) : Lit .control 23 (configure s) :=
  lit_takeWarnings _ (lit_of_ports (configureColumns_ports _) (lit_phaseChange .inactive (brakesSet { s with mode := .configuring })))

/-! ## COMMISSION -/

theorem allAt_iff (e : ArmState) (s : State) : allArms.all (fun a => armAt a e s) = true ↔
    ∀ a ∈ allArms, (s.guard.arms.get a).state = e ∨ (s.guard.arms.get a).state = .outOfService := by
  simp [armAt]

/-- The sequence state that COMMISSION computes (R77). -/
theorem computedState_eq (s : State) : computedState s =
    if spanSecure s = true ∧ (∀ a ∈ allArms, (s.guard.arms.get a).state = .up ∨
        (s.guard.arms.get a).state = .outOfService) then .roadOpen
    else if spanSecure s = true ∧ (∀ a ∈ allArms, (s.guard.arms.get a).state = .down ∨
        (s.guard.arms.get a).state = .outOfService) then .roadClosed
    else .positionLost := by
  simp only [computedState, Bool.and_eq_true, allAt_iff]

/-- The state that COMMISSION enters, before its planner is told (R77). -/
def commissioned (s : State) : State :=
  setSeq (computedState s) { mapSeq (fun q => { q with roadClosedByOperator := computedState s == .roadClosed })
    (if computedState s == .positionLost then s else seatZeroing s) with mode := .service }

theorem commission_eq (s : State) : commission s =
    if RawInputs.emergencyStop (filtered (commissioned s)) then enterHalted (commissioned s)
    else tellPlanner (computedState s) (commissioned s) := rfl

theorem outer_commissioned (s : State) : outer (commissioned s) = outer { s with mode := .service } := by
  unfold commissioned
  rw [outer_setSeq]
  have zeroed : outer (if computedState s == .positionLost then s else seatZeroing s) = outer s := by
    split
    · rfl
    · exact outer_seatZeroing s
  exact congrArg (fun o : Outer => { o with mode := Mode.service }) zeroed

theorem seatZeroing_zeroed (s : State) : (seatZeroing s).drive.valid = true ∧
    ∀ k, ((seatZeroing s).drive.towers.get k).count = 0 := by
  unfold seatZeroing
  dsimp only
  exact ⟨rfl, fun k => by cases k <;> rfl⟩

theorem seatZeroing_table (s : State) : (seatZeroing s).table = s.table := by
  unfold seatZeroing
  dsimp only
  split <;> rfl

theorem commissioned_table (s : State) : (commissioned s).table = s.table := by
  unfold commissioned
  rw [setSeq_table]
  dsimp only [mapSeq]
  split
  · rfl
  · exact seatZeroing_table s

theorem commissioned_zeroed {s : State} (h : computedState s ≠ .positionLost) :
    (commissioned s).drive.valid = true ∧ ∀ k, ((commissioned s).drive.towers.get k).count = 0 := by
  have drive : (commissioned s).drive = (seatZeroing s).drive := by
    unfold commissioned
    rw [setSeq_drive]
    simp [h]
  rw [drive]
  exact seatZeroing_zeroed s

theorem ownCommission_inconsistent {s : State} {k : Nat} (h : inconsistent s.params = some k) :
    ownCommission s = (s, { status := .inconsistent, payload := put1 k }) := by
  simp [ownCommission, h]

theorem ownCommission_consistent {s : State} (h : inconsistent s.params = none) :
    ownCommission s = (settle (commission s), accept (put1 (computedState s).ctorIdx)) := by
  simp [ownCommission, h]

/-! ## SET_PARAMETER -/

theorem admits_range {n : ParameterName} {v : Int} (h : n.admits v = true) : n.limits.1 ≤ v ∧ v ≤ n.limits.2.1 := by
  simp only [ParameterName.admits, Bool.and_eq_true, decide_eq_true_eq] at h
  exact h.1

/-- A value stored is the value in force (R219). -/
theorem parameterValue_store {n : ParameterName} {v : Int} (settable : n.settable = true) (h : n.admits v = true)
    (s : State) : parameterValue { s with params := s.params.store v n } n = v := by
  have range := admits_range h
  cases n with
  | tb | qb | navigationClosed => exact absurd settable (by decide)
  | arrivalFilter =>
    simp only [ParameterName.limits] at range
    simp only [Parameters.store, parameterValue, BitVec.toNat_ofNat]
    omega
  | _ =>
    simp only [ParameterName.limits] at range
    first
      | rfl
      | exact Int.toNat_of_nonneg (by omega)

/-- A value stored leaves the others (R219). -/
theorem parameterValue_store_ne {n m : ParameterName} (h : m ≠ n) (v : Int) (s : State) :
    parameterValue { s with params := s.params.store v n } m = parameterValue s m := by
  cases n <;> cases m <;> first | rfl | exact absurd rfl h

/-- What the parameters are read from, the navigation-closed flag aside. -/
theorem parameterValue_of_outer {s t : State} (params : t.params = s.params) (tb : t.table.tb = s.table.tb)
    (qb : t.table.qb = s.table.qb) {n : ParameterName} (h : n ≠ .navigationClosed) :
    parameterValue t n = parameterValue s n := by
  cases n <;> first | exact absurd rfl h | simp only [parameterValue, params, tb, qb]

/-- The parameters and the boundaries of the table, from which all values but the navigation-closed flag are read. -/
def settings (s : State) : Parameters × Nat × Nat := (s.params, s.table.tb, s.table.qb)

theorem settings_of_outer {s t : State} (h : outer t = outer s) : settings t = settings s :=
  congrArg (fun o : Outer => (o.params, o.tableSize.1, o.tableSize.2.1)) h

theorem settings_applyParameter (n : ParameterName) (old v : Int) (s : State) :
    settings (applyParameter n old v s) = settings s := by
  have water : settings (waterEvent (recomputeLevel s)) = settings s :=
    (settings_of_outer (outer_waterEvent (recomputeLevel s)) :)
  cases n with
  | conclusionHold =>
    unfold applyParameter
    dsimp only
    split
    · exact settings_of_outer (outer_ageConcluded 0 s)
    · rfl
  | closedClearance | margin | tideAllowance | maxLift | highWater | gaugeMargin => exact water
  | roadHoldOff => exact settings_of_outer (outer_applyHoldOff s)
  | queueCriticalLevel => exact settings_of_outer (outer_refreshQueueCritical s)
  | _ => rfl

theorem settings_storeParameter (n : ParameterName) (v : Int) (s : State) :
    settings (storeParameter n v s) = settings { s with params := s.params.store v n } :=
  (settings_of_outer (outer_settle _)).trans (settings_applyParameter ..)

theorem parameterValue_of_settings {s t : State} (h : settings t = settings s) {n : ParameterName}
    (hn : n ≠ .navigationClosed) : parameterValue t n = parameterValue s n :=
  parameterValue_of_outer (congrArg (·.1) h) (congrArg (·.2.1) h) (congrArg (·.2.2) h) hn

/-- What SET_PARAMETER leaves in force (R219). -/
theorem storeParameter_values {n : ParameterName} {v : Int} (settable : n.settable = true) (h : n.admits v = true)
    (s : State) : parameterValue (storeParameter n v s) n = v ∧
      ∀ m, m ≠ n → m ≠ .navigationClosed → parameterValue (storeParameter n v s) m = parameterValue s m := by
  have same := settings_storeParameter n v s
  refine ⟨?_, fun m hm hf => ?_⟩
  · rw [parameterValue_of_settings same (by rintro rfl; exact absurd settable (by decide)),
      parameterValue_store settable h]
  · rw [parameterValue_of_settings same hf, parameterValue_store_ne hm]

theorem ownSetParameter_known {x : List Byte} {s : State} {n : ParameterName}
    (h : named allParameters (byteAt x 0) = some n) : ownSetParameter x s =
      if !n.settable then (s, refuse .outOfRange)
      else if s.mode == .service && !n.live then (s, refuse .wrongMode)
      else if !n.admits (longAt x 1) then (s, refuse .outOfRange)
      else (storeParameter n (longAt x 1) s,
        accept (put1 n.ctorIdx ++ putInt4 (parameterValue (storeParameter n (longAt x 1) s) n))) := by
  simp only [ownSetParameter, h]

/-- A parameter's place in the list is its identifier. -/
theorem named_place (k : Nat) (n : ParameterName) : named allParameters k = some n ↔ k = n.ctorIdx := by
  have place (n : ParameterName) : allParameters[n.ctorIdx]? = some n := by cases n <;> rfl
  have distinct : allParameters.Nodup := by decide
  refine ⟨fun h => ?_, fun h => h ▸ place n⟩
  exact (List.getElem?_inj (List.getElem?_eq_some_iff.mp h).1 distinct).mp (h.trans (place n).symm)

theorem settable_iff (n : ParameterName) :
    n.settable = true ↔ n.ctorIdx ≠ 0 ∧ n.ctorIdx ≠ 1 ∧ n.ctorIdx ≠ 39 := by
  cases n <;> decide

theorem admits_iff (n : ParameterName) (v : Int) : n.admits v = true ↔
    n.limits.1 ≤ v ∧ v ≤ n.limits.2.1 ∧ (n.ctorIdx = 6 → v % 100 = 0) := by
  have lift : n = .maxLift ↔ n.ctorIdx = 6 := by cases n <;> decide
  simp only [ParameterName.admits, Bool.and_eq_true, decide_eq_true_eq, Bool.or_eq_true, bne_iff_ne, beq_iff_eq,
    and_assoc, ne_eq, lift, imp_iff_not_or]

/-- A row of the table of 10.6 is that of one parameter. -/
theorem parameterTable_row {i : Nat} {lo hi dflt : Int} {live : Bool}
    (h : parameterTable[i]? = some (lo, hi, dflt, live)) :
    ∃ n : ParameterName, i = n.ctorIdx ∧ n.limits = (lo, hi, dflt) ∧ n.live = live := by
  simp only [parameterTable_eq, List.getElem?_map, Option.map_eq_some_iff] at h
  obtain ⟨n, hn, hrow⟩ := h
  cases hrow
  exact ⟨n, (named_place i n).mp hn, rfl, rfl⟩

theorem valuesInForce_at (s : State) (n : ParameterName) :
    (valuesInForce s)[n.ctorIdx]? = some (parameterValue s n) := by
  have place : allParameters[n.ctorIdx]? = some n := (named_place n.ctorIdx n).mpr rfl
  rw [valuesInForce_eq, List.getElem?_map, place]
  rfl

theorem valuesInForce_beyond (s : State) {j : Nat} (h : named allParameters j = none) :
    (valuesInForce s)[j]? = none := by
  rw [valuesInForce_eq, List.getElem?_map]
  exact congrArg _ h

/-- Settles O53: CONFIGURE and COMMISSION by their conditions, SET_PARAMETER by the row of its parameter. -/
theorem modesAndParameters : Obligations.ModesAndParameters := by
  unfold Obligations.ModesAndParameters
  refine ⟨fun p x s ok hd hok => ⟨fun hno => ?notReady, fun hyes => ?configures⟩, fun p x s st hd => ?commission,
    fun p x s i v hd hi hv => ⟨fun hout => ?unknown, fun lo hi' dflt live hrow h0 h1 h39 => ?parameter⟩⟩
  case notReady =>
    have own : ownConfigure (taken p 46 x s) = (taken p 46 x s, refuse .notReady) :=
      if_neg fun h => hno (hok.mpr ((mayConfigure_iff (taken p 46 x s)).mp h))
    exact exec_of_owner rfl rfl rfl hd own
  case configures =>
    have own : ownConfigure (taken p 46 x s) = (settle (configure (taken p 46 x s)), accept []) :=
      if_pos ((mayConfigure_iff (taken p 46 x s)).mpr (hok.mp hyes))
    have same := outer_configure (taken p 46 x s)
    refine ⟨configure (taken p 46 x s), exec_of_owner rfl rfl rfl hd own, congrArg Outer.mode same, ?_, ?_, ?_, ?_, ?_,
      ?_, ?_, fun a => ⟨takeWarnings_command _ a, takeWarnings_count _ a⟩, ?_, congrArg Outer.water same,
      congrArg Outer.clock same, congrArg Outer.params same, lit_configure_phase _⟩
    · rw [configure_eq, takeWarnings_seq, configureColumns_seq]
      simp [configuring]
    · rw [configure_eq, takeWarnings_seq, configureColumns_seq]
    · rw [configure_eq, takeWarnings_seq, configureColumns_seq]
    · rw [configure_eq, takeWarnings_drive, (configureColumns_motion _).1, configuring_drive]
      rfl
    · rw [configure_eq, takeWarnings_drive, (configureColumns_motion _).2, configuring_drive]
      rfl
    · rw [configure_eq, takeWarnings_planner, configureColumns_planner]
    · rw [configure_eq, takeWarnings_planner, configureColumns_planner]
    · rw [configure_eq, takeWarnings_table, configureColumns_table]
      exact setSeq_table _ _
  case commission =>
    have refuses {k : Nat} (h : inconsistent s.params = some k) :
        exec (.commission p x) s = .next (answered p 47 .inconsistent (put1 k) (taken p 47 x s)) :=
      exec_of_owner rfl rfl rfl hd (ownCommission_inconsistent (s := taken p 47 x s) h)
    refine ⟨fun h => refuses (if_pos h), fun h1 h => refuses ?_, fun h1 h2 h => refuses ?_,
      fun h1 h2 h3 h => refuses ?_, fun h1 h2 h3 h4 hst => ?_⟩
    · rw [inconsistent, if_neg (not_le.mpr h1), if_pos h]
    · rw [inconsistent, if_neg (not_le.mpr h1), if_neg (not_lt.mpr h2), if_pos h]
    · rw [inconsistent, if_neg (not_le.mpr h1), if_neg (not_lt.mpr h2), if_neg (not_le.mpr h3), if_pos h]
    · have consistent : inconsistent s.params = none := by
        rw [inconsistent, if_neg (not_le.mpr h1), if_neg (not_lt.mpr h2), if_neg (not_le.mpr h3), if_neg (not_lt.mpr h4)]
      have computed : computedState (taken p 47 x s) = st := (computedState_eq _).trans hst.symm
      have same := outer_commissioned (taken p 47 x s)
      have own := ownCommission_consistent (s := taken p 47 x s) consistent
      have read : filtered (commissioned (taken p 47 x s)) = filtered s :=
        filtered_of_inputs (congrArg Outer.inputs same)
      rw [commission_eq, computed, read] at own
      refine ⟨commissioned (taken p 47 x s), exec_of_owner rfl rfl rfl hd own, congrArg Outer.mode same, ?_, ?_,
        fun hne => commissioned_zeroed (by rwa [computed]), commissioned_table _, congrArg Outer.params same⟩
      · simp [commissioned, computed]
      · simp only [commissioned, computed, setSeq_seq, mapSeq]
        cases st <;> rfl
  case unknown =>
    subst hi
    cases hn : named allParameters (byteAt x 0) with
    | none =>
      have own : ownSetParameter x (taken p 48 x s) = (taken p 48 x s, refuse .outOfRange) := by
        simp [ownSetParameter, hn]
      exact exec_of_owner rfl rfl rfl hd own
    | some n =>
      have place := (named_place _ n).mp hn
      have bound : n.ctorIdx < 40 := by cases n <;> decide
      have fixed : n.settable = false := by
        rw [← Bool.not_eq_true, settable_iff]
        omega
      have own := ownSetParameter_known (s := taken p 48 x s) hn
      rw [if_pos (by simp [fixed])] at own
      exact exec_of_owner rfl rfl rfl hd own
  case parameter =>
    obtain ⟨n, hplace, hlimits, hlive⟩ := parameterTable_row hrow
    subst hv hlive
    have own := ownSetParameter_known (s := taken p 48 x s) ((named_place _ n).mpr (hi.symm.trans hplace))
    have settable : n.settable = true := (settable_iff n).mpr (by omega)
    have admits := admits_iff n (longAt x 1)
    rw [hlimits] at admits
    dsimp only at admits
    rw [if_neg (by simp [settable])] at own
    refine ⟨fun hmode hdead => ?_, fun hmode hbad => ?_, fun hmode hlo hhi hsix => ?_⟩
    · rw [if_pos (by simp [hmode, hdead])] at own
      exact exec_of_owner rfl rfl rfl hd own
    · have changeable : ¬ ((taken p 48 x s).mode == Mode.service && !n.live) = true := by
        simpa using hmode
      have refused : n.admits (longAt x 1) = false := by
        rw [← Bool.not_eq_true, admits]
        rintro ⟨hlo, hhi, hsix⟩
        rcases hbad with h | h | ⟨h, hh⟩
        · omega
        · omega
        · exact hh (hsix (by omega))
      rw [if_neg changeable, if_pos (by simp [refused])] at own
      exact exec_of_owner rfl rfl rfl hd own
    · have changeable : ¬ ((taken p 48 x s).mode == Mode.service && !n.live) = true := by
        simpa using hmode
      have allowed : n.admits (longAt x 1) = true := admits.mpr ⟨hlo, hhi, fun h => hsix (by omega)⟩
      obtain ⟨stored, others⟩ := storeParameter_values settable allowed (taken p 48 x s)
      rw [if_neg changeable, if_neg (by simp [allowed]), stored] at own
      refine ⟨_, exec_of_owner rfl rfl rfl hd own, ?_, fun j hj hflag => ?_, ?_⟩
      · rw [hplace, valuesInForce_at]
        exact congrArg some stored
      · cases hm : named allParameters j with
        | none => rw [valuesInForce_beyond _ hm, valuesInForce_beyond _ hm]
        | some m =>
          obtain rfl := (named_place j m).mp hm
          rw [valuesInForce_at, valuesInForce_at]
          refine congrArg some (others m (fun h => hj (by rw [h, hplace])) ?_)
          rintro rfl
          exact hflag rfl
      · rw [answered_response, hplace]
        rfl

end Sys2Proof.Machine
end


section
/-!
WATER_LEVEL and the staleness timer (R32 to R37).
-/

namespace Sys2Proof.Machine

/-! ## Readings -/

theorem bne_eq_decide (a b : Int) : (a != b) = decide (a ≠ b) := by
  by_cases h : a = b <;> simp [h]

theorem clampReading_eq (v : Int) : clampReading v = max (-400) (min v 1200) := rfl

/-- A reading is near the level accepted, or none is accepted (R34). -/
def Near (p : Parameters) (w : Water) (c : Int) : Prop :=
  w.accepted = none ∨ ∃ a, w.accepted = some a ∧ |c - a| ≤ p.jumpLimit

theorem judgeReading_near {p : Parameters} {w : Water} {c : Int} (h : Near p w c) :
    judgeReading p w c = .accepted := by
  rcases h with h | ⟨a, ha, hnear⟩
  · simp [judgeReading, h]
  · simp [judgeReading, ha, hnear]

theorem judgeReading_confirmed {p : Parameters} {w : Water} {c a k : Int} (ha : w.accepted = some a)
    (hfar : ¬ |c - a| ≤ p.jumpLimit) (hk : w.candidate = some k) (hnear : |c - k| ≤ p.jumpLimit) :
    judgeReading p w c = .confirmed := by
  simp [judgeReading, ha, hfar, hk, hnear]

theorem judgeReading_held {p : Parameters} {w : Water} {c a : Int} (ha : w.accepted = some a)
    (hfar : ¬ |c - a| ≤ p.jumpLimit) (hcand : ∀ k, w.candidate = some k → ¬ |c - k| ≤ p.jumpLimit) :
    judgeReading p w c = .held := by
  cases hk : w.candidate with
  | none => simp [judgeReading, ha, hfar, hk]
  | some k => simp [judgeReading, ha, hfar, hk, hcand k hk]

/-- The water after an acceptance (R35, R36). -/
def acceptedWater (c : Int) (p : Parameters) : Water :=
  { accepted := some c, candidate := none, gauge := .live, staleness := .running 0 (1000 * p.staleTime),
    effective := c, sinceMs := some 0 }

theorem water_of_outer {s t : State} (h : outer t = outer s) : t.water = s.water := congrArg Outer.water h

theorem accepted_water (c : Int) (s : State) :
    (settle (waterEvent (acceptReading c s))).water = acceptedWater c s.params := by
  rw [water_of_outer (outer_settle _), water_of_outer (outer_waterEvent _)]
  rfl

/-- GAUGE_RANGE for a reading outside the gauge's range (R33). -/
def rangeChecked (c v : Int) (s : State) : State := if c == v then s else raiseControl .gaugeRange s

theorem rangeChecked_water (c v : Int) (s : State) : (rangeChecked c v s).water = s.water := by
  unfold rangeChecked
  split <;> rfl

theorem rangeChecked_params (c v : Int) (s : State) : (rangeChecked c v s).params = s.params := by
  unfold rangeChecked
  split <;> rfl

theorem lit_rangeChecked {c v : Int} (h : c ≠ v) (s : State) : Lit .control 13 (rangeChecked c v s) := by
  rw [rangeChecked, if_neg (by simpa using h)]
  exact lit_of_raiseControl .gaugeRange s

theorem ownWaterLevel_eq (x : List Byte) (s : State) : ownWaterLevel x s =
    (takeReadingOf (clampReading (signedAt x 0)) (rangeChecked (clampReading (signedAt x 0)) (signedAt x 0) s),
      accept (put1 (judgeReading s.params s.water (clampReading (signedAt x 0))).ctorIdx ++
        putBool (clampReading (signedAt x 0) != signedAt x 0) ++
        put1 (takeReadingOf (clampReading (signedAt x 0))
          (rangeChecked (clampReading (signedAt x 0)) (signedAt x 0) s)).water.gauge.ctorIdx ++
        putInt2 (takeReadingOf (clampReading (signedAt x 0))
          (rangeChecked (clampReading (signedAt x 0)) (signedAt x 0) s)).water.effective)) := rfl

theorem takeReadingOf_taken {c : Int} {s : State} (h : judgeReading s.params s.water c ≠ .held) :
    takeReadingOf c s = settle (waterEvent (acceptReading c s)) := by
  unfold takeReadingOf
  split
  · exact absurd ‹_› h
  · rfl

theorem takeReadingOf_held {c : Int} {s : State} (h : judgeReading s.params s.water c = .held) :
    takeReadingOf c s = holdReading c s := by
  simp [takeReadingOf, h]

theorem answered_harbour_control (n : Nat) (x : Status) (l : List Byte) (u : State) :
    (answered .harbour n x l u).ports.control = u.ports.control := rfl

/-- The control port with more pending. -/
def moreAttention (x : BitVec 24) (s : State) : State :=
  { s with ports := { s.ports with
      control := { s.ports.control with attention := s.ports.control.attention ||| x } } }

theorem moreAttention_zero (s : State) : moreAttention 0 s = s := by
  simp [moreAttention]

theorem rangeChecked_eq (c v : Int) (s : State) :
    rangeChecked c v s = moreAttention (if c ≠ v then 1#24 <<< 13 else 0) s := by
  by_cases h : c = v
  · simp only [rangeChecked, h, beq_self_eq_true, if_true, ne_eq, not_true, if_false, moreAttention_zero]
  · simp only [rangeChecked, beq_iff_eq, h, if_false, ne_eq, not_false_iff, if_true]
    rfl

theorem holdReading_eq (c : Int) (s : State) : holdReading c s =
    { moreAttention (if s.water.candidate = none then 1#24 <<< 12 else 0) s with
      water := { s.water with candidate := some c } } := by
  cases h : s.water.candidate with
  | none => simp only [holdReading, h, Option.isNone_none, if_true]; rfl
  | some k => simp only [holdReading, h, Option.isNone_some, Bool.false_eq_true, if_false, reduceCtorEq,
      moreAttention_zero]

/-- The water as the gauge falls silent (R35, R36). -/
def silenced (s : State) : State :=
  raiseHarbour .gaugeStale (raiseControl .gaugeStale
    (recomputeLevel { s with water := { s.water with gauge := .stale, staleness := .stopped } }))

/-- Settles O29: a reading accepted or confirmed sets the level, one held its candidate; a silent gauge is STALE. -/
theorem gaugeReadings : Obligations.GaugeReadings := by
  unfold Obligations.GaugeReadings
  refine ⟨fun x s v c hd hv hc => ⟨fun htake => ?taken, fun a ha hfar hcand => ?held⟩,
    fun s => ⟨fun k l h => ?stale, fun h => congrArg _ (expire_still _ s h)⟩⟩
  case taken =>
    subst hv
    have judged : (Near s.params s.water c → judgeReading s.params s.water c = .accepted) ∧
        (¬ Near s.params s.water c → judgeReading s.params s.water c = .confirmed) := by
      refine ⟨judgeReading_near, fun hn => ?_⟩
      rcases htake with h | h | ⟨a, k, ha, hk, hnear⟩
      · exact absurd (.inl h) hn
      · exact absurd (.inr h) hn
      · exact judgeReading_confirmed ha (fun hc => hn (.inr ⟨a, ha, hc⟩)) hk hnear
    obtain ⟨accepted, confirmed⟩ := judged
    have notHeld : judgeReading s.params s.water c ≠ .held := by
      by_cases hn : Near s.params s.water c
      · rw [accepted hn]; exact nofun
      · rw [confirmed hn]; exact nofun
    have own := ownWaterLevel_eq x (taken .harbour 16 x s)
    rw [clampReading_eq, ← hc, takeReadingOf_taken (by rw [rangeChecked_water, rangeChecked_params]; exact notHeld),
      accepted_water, rangeChecked_params] at own
    refine ⟨_, _, exec_of_owner rfl rfl rfl hd own, answered_response .harbour .., ?_, fun hne => ?_,
      accepted_water c (rangeChecked c (signedAt x 0) (taken .harbour 16 x s)) |>.trans (by rw [rangeChecked_params]; rfl)⟩
    · show put1 (judgeReading s.params s.water c).ctorIdx ++ putBool (c != signedAt x 0) ++ [1] ++ putInt2 c = _
      rw [bne_eq_decide]
      by_cases hn : Near s.params s.water c
      · rw [accepted hn]
        unfold Near at hn
        rw [if_pos hn]
        rfl
      · rw [confirmed hn]
        unfold Near at hn
        rw [if_neg hn]
        rfl
    · have raised := lit_rangeChecked hne (taken .harbour 16 x s)
      have settled : Lit .control 13 (settle (waterEvent (acceptReading c
          (rangeChecked c (signedAt x 0) (taken .harbour 16 x s))))) :=
        lit_settle _ (lit_waterEvent _ (lit_of_ports rfl raised))
      rw [answered_harbour_control]
      exact settled
  case held =>
    subst hv
    have heldHere := judgeReading_held ha hfar hcand
    have own := ownWaterLevel_eq x (taken .harbour 16 x s)
    rw [clampReading_eq, ← hc, takeReadingOf_held (by rw [rangeChecked_water, rangeChecked_params]; exact heldHere)] at own
    rw [holdReading_eq, rangeChecked_eq, bne_eq_decide,
      show judgeReading (taken .harbour 16 x s).params (taken .harbour 16 x s).water c = .held from heldHere] at own
    exact exec_of_owner rfl rfl rfl hd own
  case stale =>
    refine ⟨silenced (elapse (l - k) s), congrArg _ (expire_of_running h _ s), rfl, rfl, rfl, rfl, fun v hv => ?_,
      lit_raiseHarbour _ _ (lit_of_raiseControl .gaugeStale _), lit_of_raiseHarbour .gaugeStale _, ?_⟩
    · show effectiveLevel s.params { (elapse (l - k) s).water with gauge := .stale, staleness := .stopped } = _
      have kept : (elapse (l - k) s).water.accepted = some v := hv
      simp [effectiveLevel, kept]
    · rw [water_of_outer (outer_settle _), water_of_outer (outer_waterEvent _)]

end Sys2Proof.Machine
end


section
/-!
The pulses, the steps and the marks of the clock (R199 to R203).
-/

namespace Sys2Proof.Machine

/-! ## Steps -/

/-- A clock after a second step (R202). -/
def Clock.stepped (c : Clock) : Clock := { c with minute := (steppedTime c).1, seconds := (steppedTime c).2 }

theorem clock_settle (s : State) : (settle s).clock = s.clock := clock_of_outer (outer_settle s)

theorem advanceMinute_clock (s : State) :
    (advanceMinute s).clock = { s.clock with minute := (s.clock.minute + 1) % 1440, seconds := 0 } :=
  (clock_of_outer (outer_minuteEvent _)).trans rfl

theorem secondStep_clock (s : State) : (secondStep s).clock = s.clock.stepped := by
  unfold secondStep Clock.stepped steppedTime
  split
  · exact advanceMinute_clock s
  · rfl

theorem lit_secondStep {port : Port} {bit : Nat} (s : State) (lit : Lit port bit s) : Lit port bit (secondStep s) := by
  unfold secondStep
  split
  · exact lit_minuteEvent _ (lit_of_ports rfl lit)
  · exact lit_of_ports rfl lit

theorem lit_elapse {port : Port} {bit : Nat} (n : Nat) (s : State) (lit : Lit port bit s) : Lit port bit (elapse n s) :=
  lit_of_ports rfl lit

/-! ## The run of the clock to a pulse -/

theorem remaining_of_still {t : Timer} (h : t.isRunning = false) : t.remaining = none := by
  cases t with
  | running k l => simp [Timer.isRunning] at h
  | _ => rfl

theorem remaining_running (k l : Nat) : (Timer.running k l).remaining = some (l - k) := rfl

theorem expired_of_still {t : Timer} (h : t.isRunning = false) : t.expired = false := by
  cases t with
  | running k l => simp [Timer.isRunning] at h
  | _ => rfl

theorem remaining_eq_some {t : Timer} {w : Nat} (h : t.remaining = some w) : ∃ k l, t = .running k l ∧ w = l - k := by
  cases t with
  | running k l => exact ⟨k, l, rfl, (Option.some.inj h).symm⟩
  | _ => exact nomatch h

/-- A timer that has run what remained has expired. -/
theorem expired_advance (k l : Nat) : ((Timer.running k l).advance (l - k)).expired = true := by
  simp [Timer.advance, Timer.expired]
  omega

theorem pulseInTime_iff (n : Nat) (s : State) :
    pulseInTime n s = true ↔ ∃ r, s.clock.reference = some r ∧ r + n ≤ 1200 := by
  unfold pulseInTime
  cases s.clock.reference with
  | none => simp
  | some r => simp only [Option.some.injEq, exists_eq_left']; exact decide_eq_true_iff

/-- With no timer of the clock due, the time just passes (R199). -/
theorem runClock_quiet {n : Nat} {s : State} (h : ClockQuiet n s) (m : Nat) :
    runClock (m + 1) n s = elapse n s := by
  obtain ⟨measuring, step, supervision⟩ := h
  have later : ∀ w ∈ (clockTimers n s).filterMap (fun x => x.1.remaining), n < w := by
    intro w hw
    obtain ⟨x, hx, hr⟩ := List.mem_filterMap.mp hw
    obtain ⟨k, l, ht, rfl⟩ := remaining_eq_some hr
    simp only [clockTimers, List.mem_append, List.mem_cons, List.not_mem_nil, or_false] at hx
    rcases hx with (rfl | rfl) | hx
    · exact measuring k l ht
    · exact step k l ht
    · split at hx
      · exact absurd hx List.not_mem_nil
      · next hin =>
        obtain rfl := List.mem_singleton.mp hx
        exact (supervision k l ht).resolve_right fun hp => hin ((pulseInTime_iff n s).mpr hp)
  unfold runClock
  split
  · rfl
  · next w hw => rw [if_pos (later w (List.min?_mem hw))]

/-- One timer of the clock runs out on the way to a pulse, and it alone (R199, R200). -/
theorem runClock_expiry {n w m : Nat} {s : State} (h : (clockTimers n s).filterMap (fun x => x.1.remaining) = [w])
    (hw : w ≤ n) :
    runClock (m + 1) n s = runClock m (n - w) (settle (clockExpiry (n - w) (elapse w s))) := by
  conv_lhs => unfold runClock
  rw [h]
  exact if_neg (Nat.not_lt.mpr hw)

theorem clockExpiry_single {ms : Nat} {s : State} {x : Timer × (State → State)}
    (h : (clockTimers ms s).filter (fun x => x.1.expired) = [x]) : clockExpiry ms s = x.2 s := by
  unfold clockExpiry
  rw [h]

/-- A pulse is late to its reference, which time does not change (R199). -/
theorem pulseLate_elapse {n w : Nat} {s : State} (h : ∀ r, s.clock.reference = some r → 1200 < r + n) (hw : w ≤ n) :
    pulseInTime (n - w) (elapse w s) = false := by
  rw [← Bool.not_eq_true, pulseInTime_iff]
  rintro ⟨r, hr, hle⟩
  cases href : s.clock.reference with
  | none =>
    have later : (elapse w s).clock.reference = none := (congrArg (Option.map (· + w)) href :)
    exact nomatch later.symm.trans hr
  | some q =>
    have later : (elapse w s).clock.reference = some (q + w) := (congrArg (Option.map (· + w)) href :)
    have same := Option.some.inj (later.symm.trans hr)
    have late := h q href
    omega

theorem pulseLate {n : Nat} {s : State} (h : ∀ r, s.clock.reference = some r → 1200 < r + n) :
    pulseInTime n s = false := by
  rw [← Bool.not_eq_true, pulseInTime_iff]
  rintro ⟨r, hr, hle⟩
  exact absurd (h r hr) (by omega)

/-! ## The pulse itself -/

theorem pulseEdge_late {s : State} (h : ∀ r, s.clock.reference = some r → 1200 < r) :
    pulseEdge s = actOnPulse false (takePulse s) := by
  unfold pulseEdge
  cases href : s.clock.reference with
  | none => rfl
  | some r =>
    have late := h r href
    dsimp only
    rw [if_neg (by unfold Config.pulseEarlyMs; omega),
      show decide (r ≤ Config.pulseLateMs) = false from decide_eq_false (by unfold Config.pulseLateMs; omega)]

theorem pulseEdge_inWindow {s : State} {r : Nat} (h : s.clock.reference = some r) (h1 : 800 ≤ r) (h2 : r ≤ 1200) :
    pulseEdge s = actOnPulse true (takePulse s) := by
  unfold pulseEdge
  rw [h]
  dsimp only
  rw [if_neg (by unfold Config.pulseEarlyMs; omega),
    show decide (r ≤ Config.pulseLateMs) = true from decide_eq_true (by unfold Config.pulseLateMs; omega)]

theorem pulseEdge_early {s : State} {r : Nat} (h : s.clock.reference = some r) (h1 : r < 800) :
    pulseEdge s = earlyPulse s := by
  unfold pulseEdge
  rw [h]
  exact if_pos h1

theorem actOnPulse_locked {s : State} (h : s.clock.lock = .locked) (inWindow : Bool) :
    actOnPulse inWindow s = secondStep (mapClock (fun c => { c with supervision := .start Config.pulseLateMs }) s) := by
  unfold actOnPulse
  rw [h]

theorem actOnPulse_free {s : State} (h : s.clock.lock = .free) :
    actOnPulse false s = mapClock (fun c => { c with recaptureRun := 0 }) s := by
  unfold actOnPulse
  rw [h]
  rfl

theorem actOnPulse_counts {s : State} (h : s.clock.lock = .free) (few : s.clock.recaptureRun < 2) :
    actOnPulse true s = mapClock (fun c => { c with recaptureRun := c.recaptureRun + 1 }) s := by
  unfold actOnPulse
  rw [h]
  exact (if_neg (by decide)).trans (if_neg (by omega))

theorem actOnPulse_relocks {s : State} (h : s.clock.lock = .free) (many : 2 ≤ s.clock.recaptureRun) :
    actOnPulse true s = relock s := by
  unfold actOnPulse
  rw [h]
  exact (if_neg (by decide)).trans (if_pos (by omega))

/-- The clock of a pulse taken in LOCKED (R200). -/
theorem lockedPulse_clock {s : State} (h : s.clock.lock = .locked) (inWindow : Bool) :
    (actOnPulse inWindow (takePulse s)).clock = { s.clock.stepped with
      reference := some 0, measuring := .running 0 300, supervision := .running 0 1200 } := by
  rw [actOnPulse_locked (s := takePulse s) h, secondStep_clock]
  rfl

/-- A pulse of the locked clock, late or in its window (R199, R200). -/
theorem pulseEdge_locked_clock {s : State} (h : s.clock.lock = .locked)
    (due : ∀ r, s.clock.reference = some r → 800 ≤ r) :
    (pulseEdge s).clock = { s.clock.stepped with
      reference := some 0, measuring := .running 0 300, supervision := .running 0 1200 } := by
  unfold pulseEdge
  cases href : s.clock.reference with
  | none => exact lockedPulse_clock h _
  | some r =>
    dsimp only
    rw [if_neg (by have := due r href; unfold Config.pulseEarlyMs; omega)]
    exact lockedPulse_clock h _

theorem execPulse_eq (n : Nat) (s : State) : exec (.timePulseLeadingEdge n) s =
    .next (settle (pulseEdge (runClock (n / 1000 + 4 + 1) n s))) := rfl

theorem execPulse_quiet {n : Nat} {s : State} (h : ClockQuiet n s) : exec (.timePulseLeadingEdge n) s =
    .next (settle (pulseEdge (elapse n s))) := by
  rw [execPulse_eq, runClock_quiet h]

theorem elapse_reference {n r : Nat} {s : State} (h : s.clock.reference = some r) :
    (elapse n s).clock.reference = some (r + n) := (congrArg (Option.map (· + n)) h :)

/-- A bound on the age of the reference at a pulse `n` ms on. -/
theorem elapse_reference_all {n b : Nat} {s : State} (h : ∀ r, s.clock.reference = some r → b ≤ r + n) :
    ∀ r, (elapse n s).clock.reference = some r → b ≤ r := by
  intro r hr
  obtain ⟨q, hq, rfl⟩ := Option.map_eq_some_iff.mp (hr : s.clock.reference.map (· + n) = some r)
  exact h q hq

/-! ## Expiries on the way -/

theorem loseLock_clock (s : State) : (loseLock s).clock = { s.clock.stepped with
    lock := .free, supervision := .stopped, stepTimer := .running 0 1000, recaptureRun := 0 } :=
  (secondStep_clock _).trans rfl

theorem lit_loseLock (s : State) : Lit .control 14 (loseLock s) :=
  lit_secondStep _ (lit_of_raiseControl .clockFree _)

theorem oscillatorStep_clock (s : State) : (oscillatorStep s).clock = { s.clock.stepped with
    stepTimer := .running 0 1000, sinceStep := some 0 } :=
  (secondStep_clock _).trans rfl

/-- The clock of a minute mark (R203). -/
theorem minuteMark_clock (s : State) : (minuteMark s).clock = { s.clock with
    measuring := .stopped, lastMark := some .minute,
    stepTimer := if s.clock.lock = .free then .running 300 1000 else s.clock.stepTimer,
    seconds := 0,
    minute := if s.clock.seconds < 30 then s.clock.minute else (s.clock.minute + 1) % 1440 } := by
  unfold minuteMark
  dsimp only
  by_cases h0 : s.clock.seconds = 0
  · rw [if_pos (by simpa using h0)]
    simp only [mapClock, h0, beq_iff_eq]
    rfl
  · rw [if_neg (by simpa using h0)]
    split
    · simp only [mapClock, beq_iff_eq]
      rfl
    · rw [advanceMinute_clock]
      simp only [mapClock, beq_iff_eq]
      rfl

theorem lit_minuteMark {s : State} (h : s.clock.seconds ≠ 0) : Lit .control 15 (minuteMark s) := by
  unfold minuteMark
  dsimp only
  rw [if_neg (by simpa using h)]
  have raised := lit_of_raiseControl .clockStepped (mapClock (fun c => { c with
    measuring := .stopped, lastMark := some .minute,
    stepTimer := if c.lock == .free then .running Config.minuteMarkMs Config.oscillatorMs else c.stepTimer }) s)
  split
  · exact lit_of_ports rfl raised
  · exact lit_minuteEvent _ (lit_of_ports rfl raised)

/-! ## A pulse with one expiry on the way -/

/-- The one expiry on the way to a pulse happens, and the rest of the way is quiet (R199, R200). -/
theorem execPulse_expiry {n w : Nat} {s u : State} {x : Timer × (State → State)}
    (due : (clockTimers n s).filterMap (fun x => x.1.remaining) = [w]) (hw : w ≤ n)
    (one : (clockTimers (n - w) (elapse w s)).filter (fun x => x.1.expired) = [x])
    (hu : u = settle (x.2 (elapse w s))) (rest : ClockQuiet (n - w) u) :
    exec (.timePulseLeadingEdge n) s = .next (settle (pulseEdge (elapse (n - w) u))) := by
  rw [execPulse_eq, runClock_expiry due hw, clockExpiry_single one, ← hu, runClock_quiet rest]

theorem advance_still {t : Timer} (h : t.isRunning = false) (w : Nat) : (t.advance w).isRunning = false := by
  cases t with
  | running k l => simp [Timer.isRunning] at h
  | _ => rfl

theorem ne_running_of_still {t : Timer} (h : t.isRunning = false) (k l : Nat) : t ≠ .running k l := by
  rintro rfl
  simp [Timer.isRunning] at h

/-- The reference of a late pulse, as seen after a part of the way. -/
theorem late_after {n w : Nat} {s u : State} (h : ∀ r, s.clock.reference = some r → 1200 < r + n) (hw : w ≤ n)
    (hu : u.clock.reference = s.clock.reference.map (· + w)) :
    ∀ r, (elapse (n - w) u).clock.reference = some r → 1200 < r := by
  refine elapse_reference_all (b := 1201) fun r hr => ?_
  obtain ⟨q, hq, rfl⟩ := Option.map_eq_some_iff.mp (hu.symm.trans hr)
  have := h q hq
  omega

/-- The clock of a late pulse taken in FREE (R199, R201). -/
theorem latePulse_clock {s : State} (late : ∀ r, s.clock.reference = some r → 1200 < r) (free : s.clock.lock = .free) :
    (settle (pulseEdge s)).clock =
      { s.clock with reference := some 0, measuring := .running 0 300, recaptureRun := 0 } := by
  rw [clock_settle, pulseEdge_late late, actOnPulse_free (s := takePulse s) free]
  rfl

theorem lit_latePulse {port : Port} {bit : Nat} {s : State}
    (late : ∀ r, s.clock.reference = some r → 1200 < r) (free : s.clock.lock = .free) (lit : Lit port bit s) :
    Lit port bit (settle (pulseEdge s)) := by
  rw [pulseEdge_late late, actOnPulse_free (s := takePulse s) free]
  exact lit_settle _ (lit_of_ports rfl lit)

/-- A supervision expiry on the way to a late pulse (R200). -/
theorem latePulse_losesLock {n k l : Nat} {s : State} (late : ∀ r, s.clock.reference = some r → 1200 < r + n)
    (run : s.clock.supervision = .running k l) (hw : l - k ≤ n) (soon : n < l - k + 1000)
    (measuring : s.clock.measuring.isRunning = false) (step : s.clock.stepTimer.isRunning = false) :
    exec (.timePulseLeadingEdge n) s =
      .next (settle (pulseEdge (elapse (n - (l - k)) (settle (loseLock (elapse (l - k) s)))))) := by
  refine execPulse_expiry (x := ((Timer.running k l).advance (l - k), loseLock)) ?_ hw ?_ rfl ?_
  · simp [clockTimers, remaining_of_still measuring, remaining_of_still step, pulseLate late, run, remaining_running]
  · have advanced : (elapse (l - k) s).clock.supervision = (Timer.running k l).advance (l - k) :=
      (congrArg (Timer.advance (l - k)) run :)
    have m : (elapse (l - k) s).clock.measuring.expired = false := expired_of_still (advance_still measuring _)
    have o : (elapse (l - k) s).clock.stepTimer.expired = false := expired_of_still (advance_still step _)
    simp [clockTimers, pulseLate_elapse late hw, m, o, advanced, expired_advance]
  · have clock := (clock_settle _).trans (loseLock_clock (elapse (l - k) s))
    refine ⟨fun k' l' h => ?_, fun k' l' h => ?_, fun k' l' h => ?_⟩
    · rw [clock] at h
      exact absurd h (ne_running_of_still (advance_still measuring _) k' l')
    · rw [clock] at h
      obtain ⟨rfl, rfl⟩ := Timer.running.inj h
      omega
    · rw [clock] at h
      exact nomatch h

/-- A step of the oscillator on the way to a late pulse in FREE (R200). -/
theorem latePulse_steps {n k l : Nat} {s : State} (late : ∀ r, s.clock.reference = some r → 1200 < r + n)
    (run : s.clock.stepTimer = .running k l) (hw : l - k ≤ n) (soon : n < l - k + 1000)
    (measuring : s.clock.measuring.isRunning = false) (supervision : s.clock.supervision.isRunning = false) :
    exec (.timePulseLeadingEdge n) s =
      .next (settle (pulseEdge (elapse (n - (l - k)) (settle (oscillatorStep (elapse (l - k) s)))))) := by
  refine execPulse_expiry (x := ((Timer.running k l).advance (l - k), oscillatorStep)) ?_ hw ?_ rfl ?_
  · simp [clockTimers, remaining_of_still measuring, remaining_of_still supervision, pulseLate late, run,
      remaining_running]
  · have advanced : (elapse (l - k) s).clock.stepTimer = (Timer.running k l).advance (l - k) :=
      (congrArg (Timer.advance (l - k)) run :)
    have m : (elapse (l - k) s).clock.measuring.expired = false := expired_of_still (advance_still measuring _)
    have v : (elapse (l - k) s).clock.supervision.expired = false := expired_of_still (advance_still supervision _)
    simp [clockTimers, pulseLate_elapse late hw, m, v, advanced, expired_advance]
  · have clock := (clock_settle _).trans (oscillatorStep_clock (elapse (l - k) s))
    refine ⟨fun k' l' h => ?_, fun k' l' h => ?_, fun k' l' h => ?_⟩
    · rw [clock] at h
      exact absurd h (ne_running_of_still (advance_still measuring _) k' l')
    · rw [clock] at h
      obtain ⟨rfl, rfl⟩ := Timer.running.inj h
      omega
    · rw [clock] at h
      exact absurd h (ne_running_of_still (advance_still supervision _) k' l')

/-- A minute mark on the way to a pulse in time (R203). -/
theorem pulse_marksMinute {n r k l : Nat} {s : State} (href : s.clock.reference = some r) (inTime : r + n ≤ 1200)
    (locked : s.clock.lock = .locked) (run : s.clock.measuring = .running k l) (hw : l - k ≤ n)
    (step : s.clock.stepTimer.isRunning = false) :
    exec (.timePulseLeadingEdge n) s =
      .next (settle (pulseEdge (elapse (n - (l - k)) (settle (minuteMark (elapse (l - k) s)))))) := by
  have inTime_now : pulseInTime n s = true := (pulseInTime_iff n s).mpr ⟨r, href, inTime⟩
  have inTime_then : pulseInTime (n - (l - k)) (elapse (l - k) s) = true :=
    (pulseInTime_iff _ _).mpr ⟨r + (l - k), elapse_reference href, by omega⟩
  have clock := (clock_settle _).trans (minuteMark_clock (elapse (l - k) s))
  refine execPulse_expiry (x := ((Timer.running k l).advance (l - k), minuteMark)) ?_ hw ?_ rfl ?_
  · simp [clockTimers, remaining_of_still step, inTime_now, run, remaining_running]
  · have advanced : (elapse (l - k) s).clock.measuring = (Timer.running k l).advance (l - k) :=
      (congrArg (Timer.advance (l - k)) run :)
    have o : (elapse (l - k) s).clock.stepTimer.expired = false := expired_of_still (advance_still step _)
    simp [clockTimers, inTime_then, o, advanced, expired_advance]
  · have lockedThen : (elapse (l - k) s).clock.lock = .locked := locked
    refine ⟨fun k' l' h => ?_, fun k' l' h => ?_, fun k' l' _ => .inr ⟨r + (l - k), ?_, by omega⟩⟩
    · rw [clock] at h
      exact nomatch h
    · rw [clock] at h
      dsimp only at h
      rw [lockedThen, if_neg (by decide)] at h
      exact absurd h (ne_running_of_still (advance_still step _) k' l')
    · rw [clock]
      exact elapse_reference href

/-! ## O51 -/

/-- The clock of a relocking pulse (R201): it steps, unless the oscillator did so less than half a second before. -/
theorem relock_clock (s : State) : (relock s).clock = { s.clock with
    lock := .locked, recaptureRun := 0, stepTimer := .stopped, supervision := .running 0 1200,
    minute := if ∃ k ∈ s.clock.sinceStep, k < 500 then s.clock.minute else (steppedTime s.clock).1,
    seconds := if ∃ k ∈ s.clock.sinceStep, k < 500 then s.clock.seconds else (steppedTime s.clock).2 } := by
  unfold relock
  cases hs : s.clock.sinceStep with
  | none =>
    dsimp only
    rw [if_neg (by decide), secondStep_clock, if_neg (by simp), if_neg (by simp)]
    rfl
  | some t =>
    dsimp only
    by_cases ht : t < 500
    · have near : ∃ k ∈ some t, k < 500 := ⟨t, rfl, ht⟩
      rw [if_pos near, if_pos near, show decide (t < Config.relockMs) = true from decide_eq_true ht]
      rfl
    · have far : ¬ ∃ k ∈ some t, k < 500 := fun ⟨_, hk, hlt⟩ => ht (Option.some.inj hk ▸ hlt)
      rw [if_neg far, if_neg far, show decide (t < Config.relockMs) = false from decide_eq_false ht,
        if_neg (by decide), secondStep_clock]
      rfl

theorem clock_earlyPulse (n : Nat) (s : State) (r : Nat) (href : s.clock.reference = some r) (early : r + n < 800)
    (quiet : ClockQuiet n s) :
    ∃ t, exec (.timePulseLeadingEdge n) s = .next t ∧
      t.clock.early = true ∧ t.clock.minute = s.clock.minute ∧ t.clock.seconds = s.clock.seconds ∧
      t.clock.reference = some (r + n) ∧ t.clock.supervision = s.clock.supervision.advance n ∧
      t.clock.recaptureRun = (if s.clock.lock = .free then 0 else s.clock.recaptureRun) := by
  have clock : (settle (pulseEdge (elapse n s))).clock = { (elapse n s).clock with
      early := true, recaptureRun := if s.clock.lock == .free then 0 else s.clock.recaptureRun } := by
    rw [clock_settle, pulseEdge_early (elapse_reference href) early]
    rfl
  refine ⟨_, execPulse_quiet quiet, ?_⟩
  rw [clock]
  refine ⟨rfl, rfl, rfl, elapse_reference href, rfl, ?_⟩
  simp only [beq_iff_eq]

theorem clock_lockedPulse (n : Nat) (s : State) (due : ∀ r, s.clock.reference = some r → 800 ≤ r + n)
    (locked : s.clock.lock = .locked) (quiet : ClockQuiet n s) :
    ∃ t, exec (.timePulseLeadingEdge n) s = .next t ∧ (t.clock.minute, t.clock.seconds) = steppedTime s.clock ∧
      t.clock.reference = some 0 ∧ t.clock.supervision = .running 0 1200 ∧ t.clock.measuring = .running 0 300 ∧
      t.clock.lock = .locked := by
  have clock := (clock_settle _).trans
    (pulseEdge_locked_clock (s := elapse n s) locked (elapse_reference_all due))
  refine ⟨_, execPulse_quiet quiet, ?_⟩
  rw [clock]
  exact ⟨rfl, rfl, rfl, rfl, locked⟩

theorem clock_latePulse_losesLock (n : Nat) (s : State) (k l : Nat)
    (late : ∀ r, s.clock.reference = some r → 1200 < r + n) (run : s.clock.supervision = .running k l)
    (hw : l - k ≤ n) (soon : n < l - k + 1000) (measuring : s.clock.measuring.isRunning = false)
    (step : s.clock.stepTimer.isRunning = false) :
    ∃ t, exec (.timePulseLeadingEdge n) s = .next t ∧ (t.clock.minute, t.clock.seconds) = steppedTime s.clock ∧
      t.clock.lock = .free ∧ t.clock.recaptureRun = 0 ∧ t.clock.supervision = .stopped ∧
      t.clock.reference = some 0 ∧ t.clock.stepTimer = .running (n - (l - k)) 1000 ∧
      t.ports.control.attention.getLsbD 14 = true := by
  refine ⟨_, latePulse_losesLock late run hw soon measuring step, ?_⟩
  have lost := (clock_settle _).trans (loseLock_clock (elapse (l - k) s))
  generalize hu : settle (loseLock (elapse (l - k) s)) = u at lost ⊢
  have lit : Lit .control 14 u := hu ▸ lit_settle _ (lit_loseLock _)
  have late_u := late_after (u := u) late hw (by rw [lost]; rfl)
  have free : (elapse (n - (l - k)) u).clock.lock = .free := (congrArg Clock.lock lost :)
  refine ⟨?_, ?_, ?_, ?_, ?_, ?_, lit_latePulse late_u free (lit_elapse _ _ lit)⟩
    <;> rw [latePulse_clock late_u free]
  · exact (congrArg (fun c => (c.minute, c.seconds)) lost :)
  · exact free
  · exact (congrArg (fun c => c.supervision.advance (n - (l - k))) lost :)
  · refine (congrArg (fun c => c.stepTimer.advance (n - (l - k))) lost :).trans ?_
    simp [Timer.advance]
    omega

theorem clock_latePulse_free (n : Nat) (s : State) (late : ∀ r, s.clock.reference = some r → 1200 < r + n)
    (free : s.clock.lock = .free) (quiet : ClockQuiet n s) :
    ∃ t, exec (.timePulseLeadingEdge n) s = .next t ∧ t.clock.recaptureRun = 0 ∧ t.clock.reference = some 0 ∧
      t.clock.lock = .free ∧ t.clock.minute = s.clock.minute ∧ t.clock.seconds = s.clock.seconds := by
  have clock := latePulse_clock (s := elapse n s) (elapse_reference_all (b := 1201) late) free
  refine ⟨_, execPulse_quiet quiet, ?_⟩
  rw [clock]
  exact ⟨rfl, rfl, free, rfl, rfl⟩

theorem clock_latePulse_steps (n : Nat) (s : State) (k l : Nat)
    (late : ∀ r, s.clock.reference = some r → 1200 < r + n) (free : s.clock.lock = .free)
    (run : s.clock.stepTimer = .running k l) (hw : l - k ≤ n) (soon : n < l - k + 1000)
    (measuring : s.clock.measuring.isRunning = false) (supervision : s.clock.supervision.isRunning = false) :
    ∃ t, exec (.timePulseLeadingEdge n) s = .next t ∧ (t.clock.minute, t.clock.seconds) = steppedTime s.clock ∧
      t.clock.recaptureRun = 0 ∧ t.clock.reference = some 0 ∧ t.clock.lock = .free ∧
      t.clock.stepTimer = .running (n - (l - k)) 1000 := by
  refine ⟨_, latePulse_steps late run hw soon measuring supervision, ?_⟩
  have stepped := (clock_settle _).trans (oscillatorStep_clock (elapse (l - k) s))
  generalize settle (oscillatorStep (elapse (l - k) s)) = u at stepped ⊢
  have late_u := late_after (u := u) late hw (by rw [stepped]; rfl)
  have free_u : (elapse (n - (l - k)) u).clock.lock = .free := (congrArg Clock.lock stepped :).trans free
  rw [latePulse_clock late_u free_u]
  refine ⟨(congrArg (fun c => (c.minute, c.seconds)) stepped :), rfl, rfl, free_u, ?_⟩
  refine (congrArg (fun c => c.stepTimer.advance (n - (l - k))) stepped :).trans ?_
  simp [Timer.advance]
  omega

theorem clock_recapture (n : Nat) (s : State) (r : Nat) (href : s.clock.reference = some r) (notEarly : 800 ≤ r + n)
    (notLate : r + n ≤ 1200) (free : s.clock.lock = .free) (quiet : ClockQuiet n s) :
    ∃ t, exec (.timePulseLeadingEdge n) s = .next t ∧ t.clock.reference = some 0 ∧
      (s.clock.recaptureRun < 2 → t.clock.recaptureRun = s.clock.recaptureRun + 1 ∧ t.clock.lock = .free ∧
        t.clock.minute = s.clock.minute ∧ t.clock.seconds = s.clock.seconds) ∧
      (2 ≤ s.clock.recaptureRun → t.clock.recaptureRun = 0 ∧ t.clock.lock = .locked ∧
        t.clock.stepTimer = .stopped ∧ t.clock.supervision = .running 0 1200 ∧
        (t.clock.minute, t.clock.seconds) =
          (if ∃ k ∈ s.clock.sinceStep, k + n < 500 then (s.clock.minute, s.clock.seconds)
           else steppedTime s.clock)) := by
  refine ⟨_, execPulse_quiet quiet, ?_⟩
  rw [clock_settle, pulseEdge_inWindow (elapse_reference href) notEarly notLate]
  rcases Nat.lt_or_ge s.clock.recaptureRun 2 with few | many
  · rw [actOnPulse_counts (s := takePulse (elapse n s)) free few]
    exact ⟨rfl, fun _ => ⟨rfl, free, rfl, rfl⟩, fun h => absurd h (by omega)⟩
  · rw [actOnPulse_relocks (s := takePulse (elapse n s)) free many, relock_clock]
    refine ⟨rfl, fun h => absurd h (by omega), fun _ => ⟨rfl, rfl, rfl, rfl, ?_⟩⟩
    have since : (∃ k ∈ (takePulse (elapse n s)).clock.sinceStep, k < 500) ↔
        ∃ k ∈ s.clock.sinceStep, k + n < 500 := by
      show (∃ k ∈ s.clock.sinceStep.map (· + n), k < 500) ↔ _
      simp
    simp only [since]
    split <;> rfl

theorem clock_minuteMarked (n : Nat) (s : State) (r k l : Nat) (href : s.clock.reference = some r)
    (notEarly : 800 ≤ r + n) (inTime : r + n ≤ 1200) (locked : s.clock.lock = .locked)
    (run : s.clock.measuring = .running k l) (hw : l - k ≤ n) (step : s.clock.stepTimer.isRunning = false) :
    ∃ t, exec (.timePulseLeadingEdge n) s = .next t ∧ t.clock.lastMark = some .minute ∧ t.clock.seconds = 1 ∧
      t.clock.minute = (if s.clock.seconds < 30 then s.clock.minute else (s.clock.minute + 1) % 1440) ∧
      t.clock.lock = .locked := by
  refine ⟨_, pulse_marksMinute href inTime locked run hw step, ?_⟩
  have marked := (clock_settle _).trans (minuteMark_clock (elapse (l - k) s))
  generalize settle (minuteMark (elapse (l - k) s)) = u at marked ⊢
  have locked_u : (elapse (n - (l - k)) u).clock.lock = .locked := (congrArg Clock.lock marked :).trans locked
  have reference : u.clock.reference = some (r + (l - k)) :=
    (congrArg Clock.reference marked).trans (elapse_reference href)
  have due : ∀ q, (elapse (n - (l - k)) u).clock.reference = some q → 800 ≤ q :=
    elapse_reference_all fun q hq => by
      have := Option.some.inj (reference.symm.trans hq)
      omega
  have seconds : (elapse (n - (l - k)) u).clock.seconds = 0 := (congrArg Clock.seconds marked :)
  have notLast : ¬ 59 ≤ (elapse (n - (l - k)) u).clock.seconds := by omega
  rw [clock_settle, pulseEdge_locked_clock locked_u due]
  refine ⟨(congrArg Clock.lastMark marked :), ?_, ?_, locked_u⟩
  · show (steppedTime (elapse (n - (l - k)) u).clock).2 = 1
    rw [steppedTime, if_neg notLast, seconds]
  · show (steppedTime (elapse (n - (l - k)) u).clock).1 = _
    rw [steppedTime, if_neg notLast]
    exact (congrArg Clock.minute marked :)

theorem clock_mark (s : State) (k l : Nat) (run : s.clock.measuring = .running k l) :
    (k < l → exec .secondMark s =
      .next { s with clock := { s.clock with measuring := .stopped, lastMark := some .second } }) ∧
    (l ≤ k → exec .secondMark s = .next s) ∧
    ∃ t, exec .minuteMarkCorrection s = .next t ∧ t.clock.lastMark = some .minute ∧
      t.clock.measuring = .stopped ∧ t.clock.seconds = 0 ∧
      t.clock.minute = (if s.clock.seconds < 30 then s.clock.minute else (s.clock.minute + 1) % 1440) ∧
      (s.clock.seconds ≠ 0 → t.ports.control.attention.getLsbD 15 = true) ∧
      (s.clock.lock = .free → t.clock.stepTimer = .running 300 1000) := by
  have falls : exec .secondMark s = .next (if s.clock.measuring.isRunning && !s.clock.measuring.expired then
    mapClock (fun c => { c with measuring := .stopped, lastMark := some .second }) s else s) := rfl
  have corrects : exec .minuteMarkCorrection s = .next (settle (minuteMark (elapse (l - k) s))) :=
    congrArg Host.Outcome.next (expire_of_running run (fun s => settle (minuteMark s)) s)
  have clock := (clock_settle _).trans (minuteMark_clock (elapse (l - k) s))
  have lit (h : s.clock.seconds ≠ 0) : Lit .control 15 (settle (minuteMark (elapse (l - k) s))) :=
    lit_settle _ (lit_minuteMark (s := elapse (l - k) s) h)
  refine ⟨fun early => ?_, fun late => ?_, _, corrects, ?_, ?_, ?_, ?_, lit, fun free => ?_⟩
  · rw [falls, run, if_pos (by simpa [Timer.isRunning, Timer.expired] using early)]
    rfl
  · rw [falls, run, if_neg (by simpa [Timer.isRunning, Timer.expired] using late)]
  · rw [clock]
  · rw [clock]
  · rw [clock]
  · rw [clock]
    rfl
  · rw [clock]
    exact if_pos free

theorem clock_supervisionExpires (s : State) (k l : Nat) (run : s.clock.supervision = .running k l) :
    ∃ t, exec .supervisionTimerExpiry s = .next t ∧
      t.clock.lock = .free ∧ t.clock.recaptureRun = 0 ∧ t.clock.stepTimer = .running 0 1000 ∧
      t.clock.supervision = .stopped ∧ t.clock.reference = s.clock.reference.map (· + (l - k)) ∧
      t.ports.control.attention.getLsbD 14 = true ∧
      (t.clock.minute, t.clock.seconds) = steppedTime s.clock := by
  have clock := (clock_settle _).trans (loseLock_clock (elapse (l - k) s))
  refine ⟨_, congrArg Host.Outcome.next (expire_of_running run (fun s => settle (loseLock s)) s), ?_, ?_, ?_, ?_, ?_,
    lit_settle _ (lit_loseLock _), ?_⟩ <;> rw [clock] <;> rfl

theorem clock_oscillatorSteps (s : State) (k l : Nat) (run : s.clock.stepTimer = .running k l) :
    ∃ t, exec .oscillatorStep s = .next t ∧
      t.clock.stepTimer = .running 0 1000 ∧ (t.clock.minute, t.clock.seconds) = steppedTime s.clock ∧
      t.clock.lock = s.clock.lock := by
  have clock := (clock_settle _).trans (oscillatorStep_clock (elapse (l - k) s))
  refine ⟨_, congrArg Host.Outcome.next (expire_of_running run (fun s => settle (oscillatorStep s)) s), ?_⟩
  rw [clock]
  exact ⟨rfl, rfl, rfl⟩

theorem clock_still (s : State) :
    (s.clock.measuring.isRunning = false →
      exec .secondMark s = .next s ∧ exec .minuteMarkCorrection s = .next s) ∧
    (s.clock.supervision.isRunning = false → exec .supervisionTimerExpiry s = .next s) ∧
    (s.clock.stepTimer.isRunning = false → exec .oscillatorStep s = .next s) := by
  refine ⟨fun h => ⟨?_, congrArg Host.Outcome.next (expire_still _ s h)⟩, fun h => congrArg Host.Outcome.next (expire_still _ s h),
    fun h => congrArg Host.Outcome.next (expire_still _ s h)⟩
  have falls : exec .secondMark s = .next (if s.clock.measuring.isRunning && !s.clock.measuring.expired then
    mapClock (fun c => { c with measuring := .stopped, lastMark := some .second }) s else s) := rfl
  rw [falls, h]
  rfl

/-- Settles O51: an event of the clock by what its timers bring on the way to it. -/
theorem clockEvents : Obligations.ClockEvents :=
  ⟨clock_earlyPulse, clock_lockedPulse, clock_latePulse_losesLock, clock_latePulse_free, clock_latePulse_steps,
    clock_recapture, clock_minuteMarked, clock_mark, clock_supervisionExpires, clock_oscillatorSteps, clock_still⟩

end Sys2Proof.Machine
end


section
/-!
What is read of the passage table on its tags: the refusals of the tag check, and the requests that read records.
-/

namespace Sys2Proof.Machine

/-! ## The tag check on a sound table -/

/-- An index or a generation out of its range (R4, R214). -/
theorem checkTag_out_of_range {i g : Nat} (s : State) (h : 64 ≤ i ∨ 16 ≤ g) :
    checkTag i g s = (s, some .outOfRange) := by
  unfold checkTag
  by_cases hi : Config.entryCount ≤ i
  · rw [if_pos hi]
  · rw [if_neg hi, if_pos (h.resolve_left hi)]

/-- A generation other than the one held (R4). -/
theorem checkTag_old {s : State} {i g : Nat} (hs : TableSound s) (hi : i < 64) (hg : g < 16)
    (h : (generationAt s i).value.toNat ≠ g) : checkTag i g s = (s, some .stale) := by
  have hindex : ¬ Config.entryCount ≤ i := Nat.not_le.mpr hi
  simp [checkTag, hindex, Nat.not_le.mpr hg, verifyGeneration_good i s (generationAt_good hs i), h]

/-- A tag of a VACANT entry (R4). -/
theorem checkTag_vacant {s : State} {i g : Nat} (hs : TableSound s) (hi : i < 64)
    (hg : (generationAt s i).value.toNat = g) (h : (entryAt s i).state = .vacant) :
    checkTag i g s = (s, some .stale) := by
  have hindex : ¬ Config.entryCount ≤ i := Nat.not_le.mpr hi
  have hgeneration : ¬ 16 ≤ g := Nat.not_le.mpr (hg ▸ (generationAt s i).value.isLt)
  simp [checkTag, hindex, hgeneration, verifyGeneration_good i s (generationAt_good hs i),
    verifyEntry_good i s (entryAt_good hs i), hg, h]

theorem withTag_refused {p : Port} {look : Bool} {x : List Byte} (owner : Nat → State → State × Answer) {s : State}
    {st : Status} (h : checkTag (byteAt x 0) (byteAt x 1) s = (s, some st)) :
    withTag p look x owner s = (settle s, refuse st) := by
  simp [withTag, h]

/-- AMEND and WITHDRAW check their tag as the other requests do. -/
theorem amendTagged_eq (p : Port) (x : List Byte) : amendTagged p x = withTag p false x (ownAmend x) := by
  funext s
  simp [amendTagged, withTag]

theorem withdrawTagged_eq (p : Port) (x : List Byte) : withdrawTagged p x = withTag p false x ownWithdraw := by
  funext s
  simp [withdrawTagged, withTag]

/-! ## O22 -/

/-- The five requests that name a tag hand it to the tag check. -/
theorem exec_tagged {c : Instr} {p : Port} {x : List Byte} {row : CatalogueRow}
    (hc : c ∈ [Instr.amend p x, .withdraw p x, .release p x, .deleteTimetable p x, .lookUp p x])
    (hr : requestRow c = some (p, row)) : ∃ look owner,
    (∀ s, exec c s = .next (request p row x (withTag p look x owner) s)) ∧ c.requestPayload = some x ∧
      (look = true → c = .lookUp p x) := by
  simp only [List.mem_cons, List.not_mem_nil, or_false] at hc
  rcases hc with rfl | rfl | rfl | rfl | rfl <;> cases hr
  · exact ⟨false, ownAmend x, fun s => by rw [← amendTagged_eq]; rfl, rfl, nofun⟩
  · exact ⟨false, ownWithdraw, fun s => by rw [← withdrawTagged_eq]; rfl, rfl, nofun⟩
  · exact ⟨false, ownRelease, fun s => rfl, rfl, nofun⟩
  · exact ⟨false, ownDeleteTimetable, fun s => rfl, rfl, nofun⟩
  · exact ⟨true, ownLookUp, fun s => rfl, rfl, fun _ => rfl⟩

/-- Settles O22: what the tag check refuses, it refuses whatever the owner would do. -/
theorem tagRefusals : Obligations.TagRefusals := by
  intro p x s c row hc hr hd hs
  obtain ⟨look, owner, run, hp, hlook⟩ := exec_tagged hc hr
  have refused {st : Status} (h : checkTag (byteAt x 0) (byteAt x 1) (taken p row.code x s) =
      (taken p row.code x s, some st)) :
      exec c s = .next (answered p row.code st [] (settle (taken p row.code x s))) :=
    exec_of_owner (run s) hr hp hd (withTag_refused owner h)
  refine ⟨fun h => refused (checkTag_out_of_range _ h), fun hi hg h => refused (checkTag_old (s := taken p _ x s) hs hi hg h),
    fun hi hg h => refused (checkTag_vacant (s := taken p _ x s) hs hi hg h), ?_⟩
  rintro hn rfl ht notLook
  cases look with
  | true => exact absurd (hlook rfl) (notLook _ _)
  | false =>
    exact exec_of_owner (run s) hr hp hd (withTag_not_permitted (s := taken .harbour row.code x s) owner hs hn ht)

/-! ## O26 -/

@[simp] theorem length_putOpt_putBool (o : Option Bool) : (putOpt 1 putBool o).length = 2 :=
  length_putOpt _ _ _ fun _ => rfl
@[simp] theorem length_putOpt_word (o : Option (BitVec 16)) : (putOpt 2 (fun n => put2 n.toNat) o).length = 3 :=
  length_putOpt _ _ _ fun _ => rfl
@[simp] theorem length_putOpt_recurrence (o : Option (Nat × Nat)) :
    (putOpt 2 (fun r => put1 r.1 ++ put1 r.2) o).length = 3 := length_putOpt _ _ _ fun _ => rfl

/-- The kind of an index as its code on the line (R1). -/
theorem kindOf_ctorIdx (t : Table) (i : Nat) :
    (kindOf t i).ctorIdx = if i < t.tb then 0 else if i < t.qb then 1 else 2 := by
  unfold kindOf
  split
  · rfl
  · split <;> rfl

/-- The fields of a record after its tag and state, as LOOK_UP sends them (R225). -/
def recordBody (s : State) (i : Nat) : List Byte :=
  let e := entryAt s i
  put1 (if i < s.table.tb then 0 else if i < s.table.qb then 1 else 2) ++ e.identity ++
    put1 e.direction.ctorIdx ++ putInt2 e.airDraft ++ put1 e.cls ++ putOpt 2 put2 e.earliest ++
    putOpt 2 put2 e.latest ++ putOpt 2 (fun (r : Nat × Nat) => put1 r.1 ++ put1 r.2) e.recurrence ++
    putOpt 1 putBool e.skip ++ putOpt 1 (fun (o : PassageOutcome) => put1 o.ctorIdx) e.lastOutcome ++
    putOpt 2 (fun (n : BitVec 16) => put2 n.toNat) e.dueStamp ++ putOpt 1 putBool e.tideHold ++
    putOpt 1 putBool e.lapseMark ++ putOpt 2 (fun (n : BitVec 16) => put2 n.toNat) e.openingNumber ++
    putOpt 1 (fun (o : PassageOutcome) => put1 o.ctorIdx) e.outcome ++
    putOpt 2 put2 e.concludedMinute ++ putOpt 1 put1 e.holdAge

theorem length_recordBody (s : State) (i : Nat) : (recordBody s i).length = 35 + (entryAt s i).identity.length := by
  simp [recordBody]
  omega

theorem tagOf_eq (s : State) (i : Nat) :
    tagOf s i = [BitVec.ofNat 8 i, (generationAt s i).value.zeroExtend 8] := by
  simp [tagOf, putTag, put1]

theorem putRecord_eq (s : State) (i : Nat) :
    putRecord s i = [BitVec.ofNat 8 i, (generationAt s i).value.zeroExtend 8,
      BitVec.ofNat 8 (entryAt s i).state.ctorIdx] ++
        (if (entryAt s i).state = .damaged then [] else recordBody s i) := by
  unfold putRecord recordBody
  dsimp only
  rw [tagOf_eq, kindOf_ctorIdx]
  by_cases h : (entryAt s i).state = .damaged
  · simp [h, put1]
  · simp [h, put1]

theorem ownFind_sound {x : List Byte} {s : State} (hs : TableSound s) (h : identityOk (identityAt x 0) = true) :
    ownFind x s = (settle s, accept (((List.range 64).filter (fun i =>
      (entryAt s i).state.live && (entryAt s i).identity == identityAt x 0)).flatMap (tagOf s))) := by
  simp [ownFind, h, verifyEntries_good _ _ (entryAt_good hs), verifyGenerations_good _ _ (generationAt_good hs),
    allIndexes, Config.entryCount]

theorem ownListDue_sound {x : List Byte} {s : State} (hs : TableSound s) :
    ownListDue x s = (settle s, accept (((s.table.dueList.drop (byteAt x 0)).take 16).flatMap (tagOf s) ++
      [BitVec.ofNat 8 s.table.dueList.length])) := by
  simp [ownListDue, put1, verifyEntries_good _ _ (entryAt_good hs), verifyGenerations_good _ _ (generationAt_good hs)]

/-- Behind the tags that are sent, the rest of the list goes on with the members that pass the test. -/
theorem readTags_rest (p : Entry → Bool) (l : List Nat) (n : Nat) {s : State} (h : TableSound s) :
    (readTags p l n s).2.2.find? (fun i => p (entryAt s i)) = ((l.filter (fun i => p (entryAt s i))).drop n).head? := by
  induction l generalizing n with
  | nil => cases n <;> rfl
  | cons i l ih =>
    have hv := verifyEntry_good i s (entryAt_good h i)
    have hg := verifyGeneration_good i s (generationAt_good h i)
    cases n with
    | zero => simp [readTags]
    | succ n =>
      by_cases hp : p (entryAt s i) = true
      · simp [readTags, hv, hg, hp, ih]
      · simp [readTags, hv, hp, ih]

/-- The indexes from a start on, as members of the whole range. -/
theorem filter_range'_eq (p : Nat → Bool) {start : Nat} (h : start < 64) :
    (List.range' start (64 - start)).filter p = (List.range 64).filter (fun i => decide (start ≤ i) && p i) := by
  have cut : List.range 64 = List.range start ++ List.range' start (64 - start) := by
    have joined := List.range'_append_1 (s := 0) (m := start) (n := 64 - start)
    rw [Nat.zero_add, show start + (64 - start) = 64 by omega] at joined
    rw [List.range_eq_range', List.range_eq_range', joined]
  have low : (List.range start).filter (fun i => decide (start ≤ i) && p i) = [] := by
    simp only [List.filter_eq_nil_iff, List.mem_range, Bool.and_eq_true, decide_eq_true_eq]
    omega
  rw [cut, List.filter_append, low, List.nil_append]
  refine List.filter_congr fun i hi => ?_
  simp only [List.mem_range'_1] at hi
  simp [hi.1]

theorem ownList_sound {x : List Byte} {s : State} {l : List Nat} (hs : TableSound s) (h : byteAt x 1 < 64)
    (hl : l = (List.range 64).filter (fun i =>
      decide (byteAt x 1 ≤ i) && (byteAt x 0).testBit (entryAt s i).state.ctorIdx)) :
    ownList x s = (settle s, accept ((l.take 16).flatMap (tagOf s) ++ putOpt 1 put1 (l.drop 16).head?)) := by
  rw [← filter_range'_eq (fun i => (byteAt x 0).testBit (entryAt s i).state.ctorIdx) h] at hl
  obtain ⟨kept, found⟩ := readTags_sound (fun e => (byteAt x 0).testBit e.state.ctorIdx)
    (List.range' (byteAt x 1) (64 - byteAt x 1)) 16 hs
  have rest := readTags_rest (fun e => (byteAt x 0).testBit e.state.ctorIdx)
    (List.range' (byteAt x 1) (64 - byteAt x 1)) 16 hs
  unfold ownList
  dsimp only
  rw [if_neg (by unfold Config.entryCount; omega)]
  simp only [Config.entryCount, kept, readFirst_sound _ _ hs, found, rest, ← hl]

theorem lookUp_sends (p : Port) (x : List Byte) (s : State) (i : Nat) (e : Entry) (hd : decoded (.lookUp p x) s = true)
    (hs : TableSound s) (hi : i = byteAt x 0) (hn : Names s i (byteAt x 1)) (he : e = entryAt s i) :
    exec (.lookUp p x) s = .next (answered p 8 .ok (putRecord s i) (settle (taken p 8 x s))) := by
  subst hi
  refine exec_of_owner (owner := withTag p true x ownLookUp) (u := settle (taken p 8 x s))
    (a := accept (putRecord s (byteAt x 0))) rfl rfl rfl hd ?_
  simp [withTag, checkTag_of_names (s := taken p 8 x s) hs hn, ownLookUp]
  rfl

/-- Settles O26: on a sound table the reads find what they ask for and change nothing. -/
theorem tableReadsAnswer : Obligations.TableReadsAnswer := by
  refine ⟨fun p x s i e hd hs hi hn he => ⟨_, lookUp_sends p x s i e hd hs hi hn he, ?_⟩,
    fun p x s hd hs h => exec_of_owner rfl rfl rfl hd (ownFind_sound (s := taken p 9 x s) hs h),
    fun p x s l hd hs h hl => exec_of_owner rfl rfl rfl hd (ownList_sound (s := taken p 10 x s) hs h hl),
    fun p x s hd hs => exec_of_owner rfl rfl rfl hd (ownListDue_sound (s := taken p 11 x s) hs)⟩
  subst he
  refine ⟨putRecord_eq s i, fun h => ?_, fun h hid => ?_⟩
  · simp [putRecord_eq, h]
  · simp [putRecord_eq, h, length_recordBody, hid]

end Sys2Proof.Machine
end


section
/-!
The requests about the whole table (R2, R27, R30).
-/

namespace Sys2Proof.Machine

/-- The queue-critical flag falls where the count of DUE arrivals is below the level (R10, R55). -/
theorem refreshQueueCritical_low {s : State} (h : dueArrivals s.table < s.params.queueCriticalLevel) :
    refreshQueueCritical s = { s with
      planner := { s.planner with
        queueCritical := false
        evaluationOwed := s.planner.evaluationOwed || (s.planner.queueCritical && s.seq.opening.isNone) } } := by
  unfold refreshQueueCritical
  rw [decide_eq_false (Nat.not_le.mpr h)]
  cases hq : s.planner.queueCritical with
  | false =>
    simp only [beq_self_eq_true, if_true, Bool.false_and, Bool.or_false]
    rw [← hq]
  | true => rfl

theorem dueArrivals_clearedTable (t : Table) : dueArrivals (clearedTable t) = 0 := rfl

theorem clearTable_leaves (p : Port) (x : List Byte) (s : State) (hd : decoded (.clearTable p x) s = true) :
    ∃ u, exec (.clearTable p x) s = .next (answered p 14 .ok [] (settle u)) ∧
      u.table = {
        tb := s.table.tb, qb := s.table.qb, entries := List.replicate 64 Entry.vacant,
        generations := List.replicate 64 ⟨0, true⟩, dueList := [], arrivalOrder := [], counter := 0,
        lastLost := none, firstDamaged := none, moreDamaged := false } ∧
      u = refreshQueueCritical { taken p 14 x s with table := u.table } ∧
      (1 ≤ s.params.queueCriticalLevel → u = { taken p 14 x s with
        table := u.table,
        planner := { s.planner with
          queueCritical := false,
          evaluationOwed := s.planner.evaluationOwed ||
            (s.planner.queueCritical && s.seq.opening.isNone) } }) := by
  have table : (refreshQueueCritical (mapTable clearedTable (taken p 14 x s))).table = clearedTable s.table :=
    refreshQueueCritical_table _
  have own : ownClearTable (taken p 14 x s) =
    (settle (refreshQueueCritical (mapTable clearedTable (taken p 14 x s))), accept []) := rfl
  refine ⟨refreshQueueCritical (mapTable clearedTable (taken p 14 x s)), exec_of_owner rfl rfl rfl hd own, table, ?_,
    fun level => ?_⟩
  · rw [table]
    rfl
  · rw [table]
    exact refreshQueueCritical_low (s := mapTable clearedTable (taken p 14 x s)) level

theorem ownSetRegions_out_of_range {x : List Byte} (s : State)
    (h : longAt x 0 < 0 ∨ 64 < longAt x 0 ∨ longAt x 4 < longAt x 0 ∨ 64 < longAt x 4) :
    ownSetRegions x s = (s, refuse .outOfRange) := by
  unfold ownSetRegions
  dsimp only
  rw [if_pos (by simpa [or_assoc] using h)]

/-- SET_REGIONS on a sound table, its values in range (R2). -/
theorem ownSetRegions_in_range {x : List Byte} {s : State} {tb qb : Nat} (hs : TableSound s)
    (htb : (tb : Int) = longAt x 0) (hqb : (qb : Int) = longAt x 4) (h1 : tb ≤ qb) (h2 : qb ≤ 64) :
    ownSetRegions x s =
      if (allIndexes.filter (fun i => kindOf s.table i != kindOf { s.table with tb := tb, qb := qb } i)).any
          (fun i => (entryAt s i).state != .vacant) then (settle s, refuse .regionInUse)
      else (settle { s with table := { s.table with tb := tb, qb := qb } }, accept []) := by
  unfold ownSetRegions
  dsimp only
  rw [← htb, ← hqb, if_neg (by simp; omega)]
  simp only [Int.toNat_natCast, verifyEntries_good _ _ (entryAt_good hs)]
  rfl

/-- A boundary moves over an entry that is not VACANT. -/
theorem any_changing_iff (s : State) (new : Table) :
    (allIndexes.filter (fun i => kindOf s.table i != kindOf new i)).any (fun i => (entryAt s i).state != .vacant) = true ↔
      ∃ i, i < 64 ∧ kindOf s.table i ≠ kindOf new i ∧ (entryAt s i).state ≠ .vacant := by
  simp [allIndexes, Config.entryCount]

/-- Settles O27: each request's effect on the table, and what the count of DUE arrivals makes of the flag. -/
theorem wholeTableRequests : Obligations.WholeTableRequests := by
  refine ⟨fun p x s hd => exec_of_owner (owner := ownClearDamage) rfl rfl rfl hd rfl, clearTable_leaves, fun p x s hd =>
    ⟨fun h => exec_of_owner rfl rfl rfl hd (ownSetRegions_out_of_range _ h), fun tb qb htb hqb h1 h2 hs => ?_⟩⟩
  have own := ownSetRegions_in_range (s := taken p 15 x s) hs htb hqb h1 h2
  refine ⟨fun inUse => exec_of_owner rfl rfl rfl hd (own.trans (if_pos ?_)),
    fun free => exec_of_owner rfl rfl rfl hd (own.trans (if_neg ?_))⟩
  · exact (any_changing_iff (taken p 15 x s) _).mpr inUse
  · rw [any_changing_iff]
    rintro ⟨i, hi, hk, hv⟩
    exact hv (free i hi hk)

end Sys2Proof.Machine
end


section
/-!
WITHDRAW (R19): what the conclusion of an entry leaves of the table, and the slot that it frees.
-/

namespace Sys2Proof.Machine

/-! ## The conclusion of an entry (R6) -/

/-- An entry of a kind after its conclusion with an outcome at a minute. -/
def Entry.concludedAs (e : Entry) (k : Kind) (o : PassageOutcome) (minute : Nat) : Entry :=
  match k with
  | .timetable => { e with
      tideHold := none, lapseMark := none, openingNumber := none, state := .pending, lastOutcome := some o,
      dueStamp := none, codeGood := true }
  | _ => { e with
      tideHold := none, lapseMark := none, openingNumber := none, state := .concluded, outcome := some o,
      concludedMinute := some minute, holdAge := some 0, codeGood := true }

@[simp] theorem refreshQueueCritical_seq (s : State) : (refreshQueueCritical s).seq = s.seq := by
  unfold refreshQueueCritical
  dsimp only
  split
  · rfl
  · split <;> rfl

@[simp] theorem refreshQueueCritical_clock (s : State) : (refreshQueueCritical s).clock = s.clock := by
  unfold refreshQueueCritical
  dsimp only
  split
  · rfl
  · split <;> rfl

/-- The conclusion's whole effect on the table. -/
theorem concludeEntry_table (i : Nat) (o : PassageOutcome) (s : State) :
    (concludeEntry i o s).table = { s.table with
      dueList := s.table.dueList.filter (· != i)
      entries := s.table.entries.set i ((entryAt s i).concludedAs (kindOf s.table i) o s.clock.minute) } := by
  unfold concludeEntry Entry.concludedAs
  cases kindOf s.table i with
  | timetable => simp only [writeEntry, mapTable_table, leaveDue_table]
  | booked => simp only [writeEntry, raiseHarbour_table, mapTable_table, leaveDue_table]
  | arrival => simp only [writeEntry, raiseHarbour_table, mapTable_table, leaveDue_table]

theorem concludeEntry_seq (i : Nat) (o : PassageOutcome) (s : State) : (concludeEntry i o s).seq = s.seq := by
  have left : (leaveDue i s).seq = s.seq := refreshQueueCritical_seq _
  unfold concludeEntry
  cases kindOf s.table i with
  | timetable => exact left
  | booked => exact left
  | arrival => exact left

theorem entryAt_concludeEntry {i : Nat} (o : PassageOutcome) {s : State} (hi : i < s.table.entries.length) :
    entryAt (concludeEntry i o s) i = (entryAt s i).concludedAs (kindOf s.table i) o s.clock.minute := by
  simp [entryAt, concludeEntry_table, hi]

theorem entryAt_concludeEntry_ne {i j : Nat} (o : PassageOutcome) (s : State) (h : j ≠ i) :
    entryAt (concludeEntry i o s) j = entryAt s j := by
  simp [entryAt, concludeEntry_table, Ne.symm h, List.getD]

theorem not_mem_dueList_concludeEntry (i : Nat) (o : PassageOutcome) (s : State) :
    i ∉ (concludeEntry i o s).table.dueList := by
  simp [concludeEntry_table]

theorem kindOf_ne_timetable {t : Table} {i : Nat} (h : t.tb ≤ i) : kindOf t i ≠ .timetable :=
  fun hk => absurd ((kindOf_eq_timetable_iff t i).mp hk) (Nat.not_lt.mpr h)

/-- An entry that is no timetable entry is CONCLUDED (R6). -/
theorem concludedAs_other (e : Entry) {k : Kind} (h : k ≠ .timetable) (o : PassageOutcome) (m : Nat) :
    e.concludedAs k o m = { e with
      tideHold := none, lapseMark := none, openingNumber := none, state := .concluded, outcome := some o,
      concludedMinute := some m, holdAge := some 0, codeGood := true } := by
  cases k with
  | timetable => exact absurd rfl h
  | booked => rfl
  | arrival => rfl

theorem concludedAs_timetable (e : Entry) {k : Kind} (h : k = .timetable) (o : PassageOutcome) (m : Nat) :
    e.concludedAs k o m = { e with
      tideHold := none, lapseMark := none, openingNumber := none, state := .pending, lastOutcome := some o,
      dueStamp := none, codeGood := true } := by
  subst h
  rfl

/-- PASSAGE_CONCLUDED is raised at the harbour port for an entry that is CONCLUDED (R6). -/
theorem lit_of_concludeEntry {i : Nat} (o : PassageOutcome) {s : State} (h : kindOf s.table i ≠ .timetable) :
    Lit .harbour 3 (concludeEntry i o s) := by
  unfold concludeEntry
  cases hk : kindOf s.table i with
  | timetable => exact absurd hk h
  | booked => exact lit_of_raiseHarbour .passageConcluded _
  | arrival => exact lit_of_raiseHarbour .passageConcluded _

/-! ## The freed slot (R19) -/

@[simp] theorem reportIfLost_seq (x : Slot) (s : State) : (reportIfLost x s).seq = s.seq := by
  unfold reportIfLost
  split <;> rfl

@[simp] theorem reportIfLost_table (x : Slot) (s : State) : (reportIfLost x s).table = s.table := by
  unfold reportIfLost
  split <;> rfl

@[simp] theorem reportIfLost_clock (x : Slot) (s : State) : (reportIfLost x s).clock = s.clock := by
  unfold reportIfLost
  split <;> rfl

@[simp] theorem removeSlot_table (n : Nat) (s : State) : (removeSlot n s).table = s.table := by
  unfold removeSlot
  split
  · rfl
  · exact reportIfLost_table _ _

@[simp] theorem freeSlot_table (i : Nat) (s : State) : (freeSlot i s).table = s.table := by
  unfold freeSlot
  split
  · rfl
  · exact removeSlot_table _ _

/-- The slots left by the removal of one that the record holds. -/
theorem removeSlot_opening {y : Slot} {o : Opening} {s : State} (ho : s.seq.opening = some o) (hy : y ∈ o.slots) :
    (removeSlot y.serial s).seq.opening =
      some { o with slots := o.slots.filter (fun k => k.serial != y.serial) } := by
  unfold removeSlot
  cases hf : findSlot y.serial s with
  | none =>
    have missing : o.slots.find? (fun k => k.serial == y.serial) = none := by simpa only [findSlot, slots, ho] using hf
    exact absurd (beq_self_eq_true y.serial) (List.find?_eq_none.mp missing y hy)
  | some x =>
    dsimp only
    rw [reportIfLost_seq]
    exact (congrArg (Option.map fun o : Opening => { o with
      slots := o.slots.filter (fun k => k.serial != y.serial) }) ho :)

theorem freeSlot_opening {i : Nat} {y : Slot} {o : Opening} {s : State} (ho : s.seq.opening = some o)
    (hy : o.slots.find? (fun y => y.entry == some i && y.state != .done) = some y) :
    ∃ o', (freeSlot i s).seq.opening = some o' ∧ o'.withdrawn = o.withdrawn + 1 ∧
      o'.slots = o.slots.filter (fun k => k.serial != y.serial) := by
  have found : (slots s).find? (fun x => x.entry == some i && x.state != .done) = some y := by
    simpa [slots, ho] using hy
  refine ⟨{ o with
    withdrawn := o.withdrawn + 1
    slots := o.slots.filter (fun k => k.serial != y.serial) }, ?_, rfl, rfl⟩
  unfold freeSlot
  rw [found]
  exact congrArg (Option.map _) (removeSlot_opening ho (List.mem_of_find?_eq_some hy))

/-! ## The owner's cases -/

theorem ownWithdraw_concludes {i : Nat} {s : State}
    (h : (entryAt s i).state = .pending ∧ s.table.tb ≤ i ∨ (entryAt s i).state = .due) :
    ownWithdraw i s = (concludeEntry i .withdrawn s, accept []) := by
  unfold ownWithdraw
  dsimp only
  rcases h with ⟨h, ht⟩ | h
  · rw [h]
    dsimp only
    split
    · next hk => exact absurd hk (kindOf_ne_timetable ht)
    · rfl
  · rw [h]

theorem ownWithdraw_skips {i : Nat} {s : State} (h : (entryAt s i).state = .pending) (ht : i < s.table.tb) :
    ownWithdraw i s = (writeEntry i { entryAt s i with skip := some true, lastOutcome := some .withdrawn } s,
      accept []) := by
  unfold ownWithdraw
  dsimp only
  rw [h, (kindOf_eq_timetable_iff s.table i).mpr ht]

theorem ownWithdraw_refuses {i : Nat} {s : State} :
    ((entryAt s i).state = .cleared ∨ (entryAt s i).state = .transiting →
      ownWithdraw i s = (s, refuse .committed)) ∧
    ((entryAt s i).state = .concluded → ownWithdraw i s = (s, refuse .concluded)) ∧
    ((entryAt s i).state = .damaged → ownWithdraw i s = (s, refuse .frozen)) := by
  unfold ownWithdraw
  refine ⟨fun h => ?_, fun h => ?_, fun h => ?_⟩
  · rcases h with h | h <;> simp only [h]
  · simp only [h]
  · simp only [h]

theorem ownWithdraw_frees {i : Nat} {s : State} (h : (entryAt s i).state = .assigned) :
    ownWithdraw i s = (afterFreed (concludeEntry i .withdrawn (freeSlot i s)), accept []) := by
  unfold ownWithdraw
  dsimp only
  rw [h]

/-- A WITHDRAW that its port may make answers what its owner gives for the entry. -/
theorem exec_withdraw_of_owner {p : Port} {x : List Byte} {s u : State} {a : Answer}
    (hd : decoded (.withdraw p x) s = true) (hs : TableSound s) (hn : Names s (byteAt x 0) (byteAt x 1))
    (hp : ¬ (p = .harbour ∧ byteAt x 0 < s.table.tb)) (h : ownWithdraw (byteAt x 0) (taken p 5 x s) = (u, a)) :
    exec (.withdraw p x) s = .next (answered p 5 a.status a.payload (settle u)) := by
  have tagged := withTag_permitted (s := taken p 5 x s) false ownWithdraw hs hn hp
  rw [h] at tagged
  refine exec_of_owner (owner := withdrawTagged p x) rfl rfl rfl hd ?_
  rw [withdrawTagged_eq]
  exact tagged

/-- The conclusion as WITHDRAW makes it of a sound table's entry (R6, R19). -/
theorem concludeEntry_withdrawn {i : Nat} {s : State} (hs : TableSound s) (hi : i < 64) (ht : s.table.tb ≤ i) :
    (entryAt (concludeEntry i .withdrawn s) i) = { entryAt s i with
      tideHold := none, lapseMark := none, openingNumber := none, state := .concluded, outcome := some .withdrawn,
      concludedMinute := some s.clock.minute, holdAge := some 0, codeGood := true } := by
  rw [entryAt_concludeEntry _ (by rw [hs.1]; exact hi), concludedAs_other _ (kindOf_ne_timetable ht)]

theorem concludeEntry_withdrawn_timetable {i : Nat} {s : State} (hs : TableSound s) (hi : i < 64)
    (ht : i < s.table.tb) :
    (entryAt (concludeEntry i .withdrawn s) i) = { entryAt s i with
      tideHold := none, lapseMark := none, openingNumber := none, state := .pending,
      lastOutcome := some .withdrawn, dueStamp := none, codeGood := true } := by
  rw [entryAt_concludeEntry _ (by rw [hs.1]; exact hi),
    concludedAs_timetable _ ((kindOf_eq_timetable_iff s.table i).mpr ht)]

/-! ## O24 -/

/-- Settles O24, by the state of the entry and, where it is withdrawn, its kind. -/
theorem withdrawConcludes : Obligations.WithdrawConcludes := by
  rintro p x s _ hd hs rfl hn hp
  have hi : byteAt x 0 < 64 := hn.1
  have run {u a} := exec_withdraw_of_owner (u := u) (a := a) hd hs hn hp
  have hs' : TableSound (taken p 5 x s) := hs
  refine ⟨fun hst ht => ?live, fun hst ht => ?skipped, fun hst ht => ?returned, fun hst => ?assigned,
    fun hst => run (ownWithdraw_refuses (s := taken p 5 x s).1 hst),
    fun hst => run (ownWithdraw_refuses (s := taken p 5 x s).2.1 hst),
    fun hst => run (ownWithdraw_refuses (s := taken p 5 x s).2.2 hst)⟩
  case live =>
    have entry := concludeEntry_withdrawn hs' hi ht
    refine ⟨_, run (ownWithdraw_concludes (s := taken p 5 x s) (hst.imp (⟨·, ht⟩) id)), ?_⟩
    rw [entry]
    exact ⟨rfl, rfl, rfl, rfl, rfl, rfl, not_mem_dueList_concludeEntry _ _ _,
      lit_of_concludeEntry _ (kindOf_ne_timetable ht), fun j hj => entryAt_concludeEntry_ne _ _ hj⟩
  case skipped =>
    refine ⟨_, run (ownWithdraw_skips (s := taken p 5 x s) hst ht), ?_, fun j hj => entryAt_writeEntry_ne _ _ _ _ hj⟩
    have good : (entryAt s (byteAt x 0)).codeGood = true := entryAt_good hs _
    rw [entryAt_writeEntry _ _ _ (by rw [hs'.1]; exact hi), ← good]
    rfl
  case returned =>
    have entry := concludeEntry_withdrawn_timetable hs' hi ht
    refine ⟨_, run (ownWithdraw_concludes (s := taken p 5 x s) (.inr hst)), ?_⟩
    rw [entry]
    exact ⟨rfl, rfl, rfl, not_mem_dueList_concludeEntry _ _ _, fun j hj => entryAt_concludeEntry_ne _ _ hj⟩
  case assigned =>
    have table : (freeSlot (byteAt x 0) (taken p 5 x s)).table = s.table := freeSlot_table _ _
    have sound : TableSound (freeSlot (byteAt x 0) (taken p 5 x s)) := by
      unfold TableSound
      rw [table]
      exact hs
    refine ⟨_, run (ownWithdraw_frees (s := taken p 5 x s) hst), fun ht => ?_, fun ht => ?_, fun o y ho hy => ?_⟩
    · rw [concludeEntry_withdrawn sound hi (by rw [table]; exact ht)]
      exact ⟨rfl, rfl⟩
    · rw [concludeEntry_withdrawn_timetable sound hi (by rw [table]; exact ht)]
      exact ⟨rfl, rfl⟩
    · rw [concludeEntry_seq]
      exact freeSlot_opening (s := taken p 5 x s) ho hy

end Sys2Proof.Machine
end


section
/-!
A record made DUE (R9, R10, R12): on a sound table the counter moves on, the entry joins the due list, and no other entry
changes but for its due stamp.
-/

namespace Sys2Proof.Machine

/-! ## What the counter's advance leaves -/

/-- A state but for the entries of its table. -/
def offEntries (s : State) : State := { s with table := { s.table with entries := [] } }

theorem clock_of_offEntries {s t : State} (h : offEntries t = offEntries s) : t.clock = s.clock :=
  (congrArg State.clock h :)

theorem offEntries_writeEntry (i : Nat) (e : Entry) (s : State) : offEntries (writeEntry i e s) = offEntries s := rfl

theorem offEntries_moveStamp (c : BitVec 16) (i : Nat) {s : State} (h : TableSound s) :
    offEntries (moveStamp c s i) = offEntries s := by
  unfold moveStamp
  simp only [verifyEntry_good i s (entryAt_good h i)]
  split
  · rfl
  · rfl

theorem offEntries_foldl_moveStamp (c : BitVec 16) (l : List Nat) {s : State} (h : TableSound s) :
    offEntries (l.foldl (moveStamp c) s) = offEntries s := by
  induction l generalizing s with
  | nil => rfl
  | cons i l ih => exact (ih (moveStamp_sound c i h).1).trans (offEntries_moveStamp c i h)

theorem offEntries_advanceCounter {s : State} (h : TableSound s) :
    offEntries (advanceCounter s) =
      offEntries (mapTable (fun t => { t with counter := s.table.counter + 1 }) s) :=
  offEntries_foldl_moveStamp _ _ (s := mapTable (fun t => { t with counter := s.table.counter + 1 }) s) h

/-! ## An entry that becomes DUE -/

theorem refreshQueueCritical_water (s : State) : (refreshQueueCritical s).water = s.water := by
  unfold refreshQueueCritical
  dsimp only
  split
  · rfl
  · split <;> rfl

theorem refreshQueueCritical_params (s : State) : (refreshQueueCritical s).params = s.params := by
  unfold refreshQueueCritical
  dsimp only
  split
  · rfl
  · split <;> rfl

theorem sound_of_table {s t : State} (h : t.table = s.table) (hs : TableSound s) : TableSound t := by
  unfold TableSound
  rw [h]
  exact hs

theorem entryAt_of_table {s t : State} (h : t.table = s.table) (i : Nat) : entryAt t i = entryAt s i :=
  congrArg (fun x : Table => x.entries.getD i Entry.vacant) h

/-- A sound table stays sound where only lists and counters change. -/
theorem sound_of_entries {s t : State} (he : t.table.entries = s.table.entries)
    (hg : t.table.generations = s.table.generations) (hs : TableSound s) : TableSound t := by
  unfold TableSound
  rw [he, hg]
  exact hs

theorem entryAt_of_entries {s t : State} (he : t.table.entries = s.table.entries) (i : Nat) :
    entryAt t i = entryAt s i :=
  congrArg (fun l : List Entry => l.getD i Entry.vacant) he

/-- An entry made DUE, its air draft tested for the tide hold (R12). -/
def Entry.madeDue (e : Entry) (stamp : BitVec 16) (held : Bool) : Entry :=
  { e with state := .due, dueStamp := some stamp, tideHold := some held, codeGood := true }

theorem madeDue_of_unstamped {e f : Entry} (h : unstamped e = unstamped f) (stamp : BitVec 16) (held : Bool) :
    e.madeDue stamp held = f.madeDue stamp held :=
  (congrArg (fun e : Entry => e.madeDue stamp held) h :)

/-- The second half of `becomeDue`: after the counter's advance to `a` the entry is written and joins the due list. -/
def joinWithStamp (i : Nat) (s a : State) : State := joinDue (· ++ [i]) (writeEntry i
  { entryAt a i with
    state := .due, dueStamp := some s.table.counter, tideHold := some (tideHeld s (entryAt a i).airDraft) } a)

theorem becomeDue_eq (i : Nat) (s : State) : becomeDue i s = joinWithStamp i s (advanceCounter s) := by
  unfold becomeDue
  generalize advanceCounter s = a
  rfl

theorem joinWithStamp_table (i : Nat) (s a : State) : (joinWithStamp i s a).table = { a.table with
    dueList := a.table.dueList ++ [i]
    entries := a.table.entries.set i ((entryAt a i).madeDue s.table.counter (tideHeld s (entryAt a i).airDraft)) } :=
  joinDue_table _ _

theorem joinWithStamp_clock (i : Nat) (s a : State) : (joinWithStamp i s a).clock = a.clock :=
  refreshQueueCritical_clock _

theorem becomeDue_sound (i : Nat) {s : State} (h : TableSound s) : TableSound (becomeDue i s) := by
  have written := writeEntry_sound i ((entryAt (advanceCounter s) i).madeDue s.table.counter
    (tideHeld s (entryAt (advanceCounter s) i).airDraft)) (advanceCounter_sound h).1
  rw [becomeDue_eq]
  generalize advanceCounter s = a at written ⊢
  unfold TableSound at written ⊢
  rw [joinWithStamp_table]
  exact written

/-- The entry that becomes DUE takes the counter's value as its stamp, and its tide hold (R9, R12). -/
theorem entryAt_becomeDue {i : Nat} {s : State} (h : TableSound s) (hi : i < 64) :
    entryAt (becomeDue i s) i = (entryAt s i).madeDue s.table.counter (tideHeld s (entryAt s i).airDraft) := by
  obtain ⟨sound, kept⟩ := advanceCounter_sound h
  rw [becomeDue_eq]
  generalize advanceCounter s = a at sound kept ⊢
  have air : (entryAt a i).airDraft = (entryAt s i).airDraft := (congrArg Entry.airDraft (kept i) :)
  have entry : entryAt (joinWithStamp i s a) i =
      (entryAt a i).madeDue s.table.counter (tideHeld s (entryAt a i).airDraft) := by
    unfold entryAt
    rw [joinWithStamp_table]
    simp [sound.1, hi, entryAt]
  rw [entry, air]
  exact madeDue_of_unstamped (kept i) _ _

theorem becomeDue_others (i : Nat) {s : State} (h : TableSound s) : OthersKept i s (becomeDue i s) := by
  intro j hj
  obtain ⟨-, kept⟩ := advanceCounter_sound h
  rw [becomeDue_eq]
  generalize advanceCounter s = a at kept ⊢
  refine (congrArg unstamped ?_).trans (kept j)
  unfold entryAt
  rw [joinWithStamp_table]
  simp [List.getD, Ne.symm hj]

/-- The table of an entry that becomes DUE, but for the entries (R9, R10). -/
theorem becomeDue_table (i : Nat) {s : State} (h : TableSound s) : (becomeDue i s).table = { s.table with
    counter := s.table.counter + 1
    dueList := s.table.dueList ++ [i]
    entries := (becomeDue i s).table.entries } := by
  have advanced : { (advanceCounter s).table with entries := [] } =
      { s.table with counter := s.table.counter + 1, entries := [] } :=
    (congrArg State.table (offEntries_advanceCounter h) :)
  rw [becomeDue_eq]
  generalize advanceCounter s = a at advanced ⊢
  have moved := (congrArg (fun t : Table => { t with
    dueList := t.dueList ++ [i], entries := (joinWithStamp i s a).table.entries }) advanced :)
  rw [joinWithStamp_table]
  rw [joinWithStamp_table] at moved
  exact moved

theorem advanceCounter_clock {s : State} (h : TableSound s) : (advanceCounter s).clock = s.clock :=
  clock_of_offEntries (t := advanceCounter s)
    (s := mapTable (fun t => { t with counter := s.table.counter + 1 }) s) (offEntries_advanceCounter h)

theorem becomeDue_clock (i : Nat) {s : State} (h : TableSound s) : (becomeDue i s).clock = s.clock := by
  rw [becomeDue_eq, joinWithStamp_clock, advanceCounter_clock h]

end Sys2Proof.Machine
end


section
/-!
AMEND (R18): the fields it names, the owner's refusals, and the record it stores.
-/

namespace Sys2Proof.Machine

/-! ## The fields that an AMEND names -/

theorem optional_of_lt {α : Type} {k : Nat} (v : α) (h : k < 2) :
    optional k v = some (if k = 1 then some v else none) := by
  match k, h with
  | 0, _ => rfl
  | 1, _ => rfl

/-- The amended values, in range. -/
def AmendInRange (x : List Byte) : Prop :=
  (byteAt x 2 = 1 → 100 ≤ wordAt x 3 ∧ wordAt x 3 ≤ 6000) ∧ (byteAt x 5 = 1 → byteAt x 6 ≤ 7) ∧
    (byteAt x 7 = 1 → wordAt x 8 < 1440) ∧ (byteAt x 10 = 1 → byteAt x 7 = 1 ∧ WindowInRange (wordAt x 8) (wordAt x 11))

/-- The values that an AMEND names (R18). -/
def amendedAir (x : List Byte) : Option Int := if byteAt x 2 = 1 then some (wordAt x 3 : Int) else none
def amendedClass (x : List Byte) : Option Nat := if byteAt x 5 = 1 then some (byteAt x 6) else none
def amendedWindow (x : List Byte) : Option (Nat × Option Nat) :=
  if byteAt x 7 = 1 then some (wordAt x 8, if byteAt x 10 = 1 then some (wordAt x 11) else none) else none

theorem windowOk_iff (e z : Nat) : windowOk e z = true ↔ WindowInRange e z := by
  unfold windowOk WindowInRange
  simp only [Bool.and_eq_true]
  exact ⟨fun ⟨⟨h, h1⟩, h2⟩ => ⟨of_decide_eq_true h, of_decide_eq_true h1, of_decide_eq_true h2⟩,
    fun ⟨h, h1, h2⟩ => ⟨⟨decide_eq_true h, decide_eq_true h1⟩, decide_eq_true h2⟩⟩

theorem amendFields_of_presence {x : List Byte} (h2 : byteAt x 2 < 2) (h5 : byteAt x 5 < 2) (h7 : byteAt x 7 < 2)
    (h10 : byteAt x 10 < 2) :
    (AmendInRange x → amendFields x = some (amendedAir x, amendedClass x, amendedWindow x)) ∧
      (¬ AmendInRange x → amendFields x = none) := by
  have air : (match (if byteAt x 2 = 1 then some (wordAt x 3) else none : Option Nat) with
      | some x => decide (100 ≤ x) && decide (x ≤ 6000) | none => true) = true ↔
      (byteAt x 2 = 1 → 100 ≤ wordAt x 3 ∧ wordAt x 3 ≤ 6000) := by
    by_cases h : byteAt x 2 = 1 <;> simp [h]
  have cls : (match (if byteAt x 5 = 1 then some (byteAt x 6) else none : Option Nat) with
      | some x => decide (x ≤ 7) | none => true) = true ↔ (byteAt x 5 = 1 → byteAt x 6 ≤ 7) := by
    by_cases h : byteAt x 5 = 1 <;> simp [h]
  have window : (match (if byteAt x 7 = 1 then some (wordAt x 8) else none : Option Nat),
        (if byteAt x 10 = 1 then some (wordAt x 11) else none : Option Nat) with
      | some e, some z => decide (e < 1440) && windowOk e z
      | some e, none => decide (e < 1440)
      | none, some _ => false
      | none, none => true) = true ↔
      (byteAt x 7 = 1 → wordAt x 8 < 1440) ∧
        (byteAt x 10 = 1 → byteAt x 7 = 1 ∧ WindowInRange (wordAt x 8) (wordAt x 11)) := by
    by_cases h : byteAt x 7 = 1 <;> by_cases h' : byteAt x 10 = 1 <;> simp [h, h', windowOk_iff]
  unfold amendFields
  simp only [optional_of_lt _ h2, optional_of_lt _ h5, optional_of_lt _ h7, optional_of_lt _ h10]
  refine ⟨fun h => ?_, fun h => if_neg ?_⟩
  · obtain ⟨ha, hc, hw⟩ := h
    rw [if_pos (by rw [Bool.and_eq_true, Bool.and_eq_true]; exact ⟨⟨air.mpr ha, cls.mpr hc⟩, window.mpr hw⟩)]
    unfold amendedAir amendedClass amendedWindow
    by_cases hair : byteAt x 2 = 1 <;> by_cases hwin : byteAt x 7 = 1 <;> simp [hair, hwin]
  · rw [Bool.and_eq_true, Bool.and_eq_true]
    exact fun ⟨⟨ha, hc⟩, hw⟩ => h ⟨air.mp ha, cls.mp hc, window.mp hw⟩

theorem amendFields_of_bad_presence {x : List Byte}
    (h : 2 ≤ byteAt x 2 ∨ 2 ≤ byteAt x 5 ∨ 2 ≤ byteAt x 7 ∨ 2 ≤ byteAt x 10) : amendFields x = none := by
  unfold amendFields
  dsimp only
  split
  · next h2 h5 h7 h10 =>
    rcases h with h | h | h | h
    · exact nomatch (optional_none _ h).symm.trans h2
    · exact nomatch (optional_none _ h).symm.trans h5
    · exact nomatch (optional_none _ h).symm.trans h7
    · exact nomatch (optional_none _ h).symm.trans h10
  · rfl

/-- The presence bytes are those of fields, and the values that are present are in range. -/
theorem not_amendOutOfRange_iff (x : List Byte) : ¬ AmendOutOfRange x ↔
    (byteAt x 2 < 2 ∧ byteAt x 5 < 2 ∧ byteAt x 7 < 2 ∧ byteAt x 10 < 2) ∧ AmendInRange x := by
  unfold AmendOutOfRange AmendInRange
  by_cases hw : WindowInRange (wordAt x 8) (wordAt x 11)
  · simp only [hw, not_true_eq_false, and_true, and_false, or_false]
    omega
  · simp only [hw, not_false_eq_true, and_true, and_false, imp_false]
    omega

theorem amendFields_in_range {x : List Byte} (h : ¬ AmendOutOfRange x) :
    amendFields x = some (amendedAir x, amendedClass x, amendedWindow x) := by
  obtain ⟨⟨h2, h5, h7, h10⟩, range⟩ := (not_amendOutOfRange_iff x).mp h
  exact (amendFields_of_presence h2 h5 h7 h10).1 range

theorem amendFields_out_of_range {x : List Byte} (h : AmendOutOfRange x) : amendFields x = none := by
  by_cases presence : byteAt x 2 < 2 ∧ byteAt x 5 < 2 ∧ byteAt x 7 < 2 ∧ byteAt x 10 < 2
  · obtain ⟨h2, h5, h7, h10⟩ := presence
    refine (amendFields_of_presence h2 h5 h7 h10).2 fun range => ?_
    exact (not_amendOutOfRange_iff x).mpr ⟨⟨h2, h5, h7, h10⟩, range⟩ h
  · exact amendFields_of_bad_presence (by omega)

theorem amendOutOfRange_iff (x : List Byte) : AmendOutOfRange x ↔ amendFields x = none := by
  refine ⟨amendFields_out_of_range, fun h => ?_⟩
  by_contra inRange
  exact nomatch (amendFields_in_range inRange).symm.trans h

/-! ## The window test after an amendment (R18) -/

/-- An entry but for what the window test may change. -/
def Entry.offWindow (e : Entry) : Entry := { e with state := .vacant, dueStamp := none, tideHold := none }

/-- The state of a PENDING or DUE entry after the window test (R18). -/
def retestedState (s : State) (e : Entry) : EntryState :=
  if s.clock.valid = false then e.state else if windowContains e s.clock.minute then .due else .pending

theorem offWindow_of_unstamped {e f : Entry} (h : unstamped e = unstamped f) : e.offWindow = f.offWindow :=
  (congrArg Entry.offWindow h :)

/-- The tide hold of a DUE entry is the test's result for its air draft. -/
def HoldsTested (s : State) (e : Entry) : Prop := e.state = .due → e.tideHold = some (tideHeld s e.airDraft)

/-- A PENDING or DUE entry through the window test. -/
theorem retestWindow_entry {i : Nat} {s : State} (hs : TableSound s) (hi : i < 64)
    (hst : (entryAt s i).state = .pending ∨ (entryAt s i).state = .due) (held : HoldsTested s (entryAt s i)) :
    OthersKept i s (retestWindow i s) ∧ (entryAt (retestWindow i s) i).offWindow = (entryAt s i).offWindow ∧
      (entryAt (retestWindow i s) i).state = retestedState s (entryAt s i) ∧
      HoldsTested s (entryAt (retestWindow i s) i) := by
  unfold retestWindow retestedState
  cases valid : s.clock.valid with
  | false => exact ⟨fun _ _ => rfl, rfl, rfl, held⟩
  | true =>
    simp only [Bool.not_true, Bool.false_eq_true, if_false, reduceCtorEq]
    cases inside : windowContains (entryAt s i) s.clock.minute with
    | true =>
      rcases hst with h | h
      · simp only [h, beq_self_eq_true, Bool.and_true, if_true]
        rw [entryAt_becomeDue hs hi]
        exact ⟨becomeDue_others i hs, by simp [Entry.offWindow, Entry.madeDue, entryAt_good hs i], rfl, fun _ => rfl⟩
      · simp only [h, Bool.not_true, Bool.and_false, Bool.and_true, beq_iff_eq, reduceCtorEq, Bool.false_eq_true, if_false, if_true]
        exact ⟨fun _ _ => rfl, trivial, trivial, held⟩
    | false =>
      rcases hst with h | h
      · simp only [h, Bool.and_false, Bool.not_false, Bool.and_true, beq_iff_eq, reduceCtorEq, Bool.false_eq_true, if_false]
        exact ⟨fun _ _ => rfl, trivial, trivial, held⟩
      · simp only [h, Bool.and_false, Bool.false_eq_true, if_false, Bool.not_false, Bool.and_true, beq_self_eq_true,
          if_true]
        have left : (leaveDue i s).table.entries = s.table.entries := by rw [leaveDue_table]
        rw [entryAt_writeEntry _ _ _ (by rw [left, hs.1]; exact hi)]
        refine ⟨fun j hj => ?_, by simp [Entry.offWindow, entryAt_good hs i], rfl, fun h => nomatch h⟩
        rw [entryAt_writeEntry_ne _ _ _ _ hj, entryAt_of_entries left]

/-! ## The amended record -/

/-- An entry with the amended air draft and class, its tide hold tested again where it is DUE (R18). -/
def Entry.amended (e : Entry) (air : Int) (cls : Nat) (held : Bool) : Entry :=
  { e with airDraft := air, cls := cls, tideHold := if e.state = .due then some held else e.tideHold, codeGood := true }

theorem storeAmended_plain (i : Nat) (a : Int) (c : Nat) (s : State) :
    storeAmended i a c none s = writeEntry i ((entryAt s i).amended a c (tideHeld s a)) s := by
  simp [storeAmended, Entry.amended, writeEntry]

theorem storeAmended_window (i : Nat) (a : Int) (c f : Nat) (z : Option Nat) (s : State) :
    storeAmended i a c (some (f, z)) s = retestWindow i (writeEntry i
      { (entryAt s i).amended a c (tideHeld s a) with earliest := some f, latest := z } s) := by
  simp [storeAmended, Entry.amended, writeEntry]

/-- The values of the entry that an AMEND of the model leaves (R18). -/
def AmendedTo (s u : State) (i : Nat) (air : Int) (cls : Nat) : Prop :=
  OthersKept i s u ∧ (entryAt u i).airDraft = air ∧ (entryAt u i).cls = cls ∧
    (entryAt u i).identity = (entryAt s i).identity ∧ (entryAt u i).direction = (entryAt s i).direction ∧
    ((entryAt u i).state = .due → (entryAt u i).tideHold = some (decide (s.params.maxLift < requiredLift s air)))

theorem storeAmended_plain_spec {i : Nat} {s : State} (hs : TableSound s) (hi : i < 64) (air : Int) (cls : Nat) :
    AmendedTo s (storeAmended i air cls none s) i air cls ∧
      (entryAt (storeAmended i air cls none s) i).state = (entryAt s i).state ∧
      (entryAt (storeAmended i air cls none s) i).dueStamp = (entryAt s i).dueStamp ∧
      (entryAt (storeAmended i air cls none s) i).earliest = (entryAt s i).earliest ∧
      (entryAt (storeAmended i air cls none s) i).latest = (entryAt s i).latest ∧
      (storeAmended i air cls none s).table.dueList = s.table.dueList := by
  unfold AmendedTo
  rw [storeAmended_plain, entryAt_writeEntry _ _ _ (by rw [hs.1]; exact hi)]
  exact ⟨⟨fun j hj => by rw [entryAt_writeEntry_ne _ _ _ _ hj], rfl, rfl, rfl, rfl, fun h => if_pos h⟩,
    rfl, rfl, rfl, rfl, rfl⟩

theorem windowContains_eq (e : Entry) {f : Nat} (h : e.earliest = some f) (m : Nat) :
    windowContains e m = decide ((m + 1440 - f) % 1440 < match e.latest with
      | some z => (z + 1440 - f) % 1440 | none => 720) := by
  unfold windowContains
  rw [h]
  cases e.latest <;> rfl

theorem storeAmended_window_spec {i : Nat} {s : State} (hs : TableSound s) (hi : i < 64)
    (hst : (entryAt s i).state = .pending ∨ (entryAt s i).state = .due) (air : Int) (cls f : Nat) (z : Option Nat) :
    AmendedTo s (storeAmended i air cls (some (f, z)) s) i air cls ∧
      (entryAt (storeAmended i air cls (some (f, z)) s) i).earliest = some f ∧
      (entryAt (storeAmended i air cls (some (f, z)) s) i).latest = z ∧
      (entryAt (storeAmended i air cls (some (f, z)) s) i).state =
        (if s.clock.valid = false then (entryAt s i).state
         else if (s.clock.minute + 1440 - f) % 1440 <
             (match z with | some z => (z + 1440 - f) % 1440 | none => 720) then .due
         else .pending) := by
  rw [storeAmended_window]
  generalize hw : writeEntry i { (entryAt s i).amended air cls (tideHeld s air) with earliest := some f, latest := z } s = w
  have entry : entryAt w i = { (entryAt s i).amended air cls (tideHeld s air) with earliest := some f, latest := z } := by
    rw [← hw, entryAt_writeEntry _ _ _ (by rw [hs.1]; exact hi)]
    rfl
  have sound : TableSound w := hw ▸ writeEntry_sound i _ hs
  have clock : w.clock = s.clock := hw ▸ rfl
  have tested (a : Int) : tideHeld w a = tideHeld s a := hw ▸ rfl
  have held : HoldsTested w (entryAt w i) := by
    rw [entry]
    intro h
    exact (if_pos h).trans (by rw [tested]; rfl)
  obtain ⟨others, frame, state, hold⟩ := retestWindow_entry sound hi (by rw [entry]; exact hst) held
  have air' : (entryAt (retestWindow i w) i).airDraft = air :=
    (congrArg Entry.airDraft frame :).trans (by rw [entry]; rfl)
  refine ⟨⟨fun j hj => ?_, air', ?_, ?_, ?_, fun h => ?_⟩, ?_, ?_, ?_⟩
  · rw [others j hj, ← hw, entryAt_writeEntry_ne _ _ _ _ hj]
  · exact (congrArg Entry.cls frame :).trans (by rw [entry]; rfl)
  · exact (congrArg Entry.identity frame :).trans (by rw [entry]; rfl)
  · exact (congrArg Entry.direction frame :).trans (by rw [entry]; rfl)
  · rw [hold h, air', tested]
    rfl
  · exact (congrArg Entry.earliest frame :).trans (by rw [entry]; rfl)
  · exact (congrArg Entry.latest frame :).trans (by rw [entry]; rfl)
  · rw [state, retestedState, windowContains_eq _ (by rw [entry]), clock, entry]
    simp only [decide_eq_true_eq]
    rfl

/-! ## The owner -/

theorem ownAmend_fixed {i : Nat} {s : State} (x : List Byte) :
    ((entryAt s i).state = .assigned ∨ (entryAt s i).state = .cleared ∨ (entryAt s i).state = .transiting ∨
      (entryAt s i).state = .damaged → ownAmend x i s = (s, refuse .frozen)) ∧
    ((entryAt s i).state = .concluded → ownAmend x i s = (s, refuse .concluded)) := by
  unfold ownAmend
  refine ⟨fun h => ?_, fun h => ?_⟩
  · rcases h with h | h | h | h <;> simp [h, EntryState.inOpening]
  · simp [h, EntryState.inOpening]

/-- The owner's treatment of a PENDING or DUE entry (R18). -/
theorem ownAmend_live {i : Nat} {s : State} (x : List Byte)
    (h : (entryAt s i).state = .pending ∨ (entryAt s i).state = .due) :
    ownAmend x i s = match amendFields x with
      | none => (s, refuse .outOfRange)
      | some (a, c, w) =>
        if w.isSome && kindOf s.table i != .booked then (s, refuse .outOfRange)
        else if tooTall s.params (a.getD (entryAt s i).airDraft) then (s, refuse .tooTall)
        else if fitsUnder s.params (a.getD (entryAt s i).airDraft) s.water.effective then
          (concludeEntry i .notNeeded s, refuse .noOpeningNeeded)
        else (amendEvent i (storeAmended i (a.getD (entryAt s i).airDraft) (c.getD (entryAt s i).cls) w s),
          accept (tagOf s i)) := by
  unfold ownAmend
  rcases h with h | h <;> simp [h, EntryState.inOpening] <;> rfl

theorem kindOf_eq_booked_iff (t : Table) (i : Nat) : kindOf t i = .booked ↔ t.tb ≤ i ∧ i < t.qb := by
  unfold kindOf
  split
  · simp; omega
  · split <;> simp <;> omega

/-- An AMEND that its port may make answers what its owner gives for the entry. -/
theorem exec_amend_of_owner {p : Port} {x : List Byte} {s u : State} {a : Answer}
    (hd : decoded (.amend p x) s = true) (hs : TableSound s) (hn : Names s (byteAt x 0) (byteAt x 1))
    (hp : ¬ (p = .harbour ∧ byteAt x 0 < s.table.tb)) (h : ownAmend x (byteAt x 0) (taken p 4 x s) = (u, a)) :
    exec (.amend p x) s = .next (answered p 4 a.status a.payload (settle u)) := by
  have tagged := withTag_permitted (s := taken p 4 x s) false (ownAmend x) hs hn hp
  rw [h] at tagged
  refine exec_of_owner (owner := amendTagged p x) rfl rfl rfl hd ?_
  rw [amendTagged_eq]
  exact tagged

/-! ## O23 -/

theorem amendedAir_getD (x : List Byte) (d : Int) :
    (amendedAir x).getD d = if byteAt x 2 = 1 then (wordAt x 3 : Int) else d := by
  unfold amendedAir
  split <;> rfl

theorem amendedWindow_isSome (x : List Byte) : (amendedWindow x).isSome = true ↔ byteAt x 7 = 1 := by
  unfold amendedWindow
  split <;> simp [*]

/-- A window is named for an entry that is not booked. -/
theorem window_refused_iff {α : Type} (w : Option α) (t : Table) (i : Nat) :
    (w.isSome && kindOf t i != .booked) = true ↔ w.isSome = true ∧ ¬ (t.tb ≤ i ∧ i < t.qb) := by
  rw [Bool.and_eq_true, bne_iff_ne, Ne, kindOf_eq_booked_iff]

/-- An AMEND that is refused for its values, or that concludes its entry (R18). -/
theorem amend_tests {p : Port} {x : List Byte} {s : State} (hd : decoded (.amend p x) s = true) (hs : TableSound s)
    (hn : Names s (byteAt x 0) (byteAt x 1)) (hp : ¬ (p = .harbour ∧ byteAt x 0 < s.table.tb)) (air : Int)
    (live : (entryAt s (byteAt x 0)).state = .pending ∨ (entryAt s (byteAt x 0)).state = .due)
    (range : ¬ AmendOutOfRange x) (booked : byteAt x 7 = 1 → s.table.tb ≤ byteAt x 0 ∧ byteAt x 0 < s.table.qb)
    (hair : air = (if byteAt x 2 = 1 then (wordAt x 3 : Int) else (entryAt s (byteAt x 0)).airDraft)) :
    (tooTall s.params air = true →
      exec (.amend p x) s = .next (answered p 4 .tooTall [] (settle (taken p 4 x s)))) ∧
    (tooTall s.params air = false → fitsUnder s.params air s.water.effective = true →
      exec (.amend p x) s = .next (answered p 4 .noOpeningNeeded []
        (settle (concludeEntry (byteAt x 0) .notNeeded (taken p 4 x s))))) := by
  have own := ownAmend_live (s := taken p 4 x s) x live
  have allowed : ¬ ((amendedWindow x).isSome && kindOf (taken p 4 x s).table (byteAt x 0) != .booked) = true := by
    rw [window_refused_iff, amendedWindow_isSome]
    exact fun ⟨h, hb⟩ => hb (booked h)
  have same : (amendedAir x).getD (entryAt (taken p 4 x s) (byteAt x 0)).airDraft = air :=
    (amendedAir_getD x _).trans hair.symm
  simp only [amendFields_in_range range] at own
  rw [if_neg allowed, same] at own
  refine ⟨fun tall => exec_amend_of_owner hd hs hn hp (own.trans (if_pos tall)), fun low fits => ?_⟩
  exact exec_amend_of_owner hd hs hn hp
    ((own.trans (if_neg (by rw [taken_params, low]; decide))).trans (if_pos fits))

/-- What the conclusion NOT_NEEDED leaves (R6, R18). -/
theorem concludeEntry_notNeeded {i : Nat} {s : State} (hs : TableSound s) (hi : i < 64) :
    i ∉ (concludeEntry i .notNeeded s).table.dueList ∧
    (∀ j, j ≠ i → entryAt (concludeEntry i .notNeeded s) j = entryAt s j) ∧
    (s.table.tb ≤ i → (entryAt (concludeEntry i .notNeeded s) i).state = .concluded ∧
      (entryAt (concludeEntry i .notNeeded s) i).outcome = some .notNeeded ∧
      Lit .harbour 3 (concludeEntry i .notNeeded s)) ∧
    (i < s.table.tb → (entryAt (concludeEntry i .notNeeded s) i).state = .pending ∧
      (entryAt (concludeEntry i .notNeeded s) i).lastOutcome = some .notNeeded) := by
  rw [entryAt_concludeEntry _ (by rw [hs.1]; exact hi)]
  refine ⟨not_mem_dueList_concludeEntry _ _ _, fun j hj => entryAt_concludeEntry_ne _ _ hj, fun ht => ?_, fun ht => ?_⟩
  · rw [concludedAs_other _ (kindOf_ne_timetable ht)]
    exact ⟨rfl, rfl, lit_of_concludeEntry _ (kindOf_ne_timetable ht)⟩
  · rw [concludedAs_timetable _ ((kindOf_eq_timetable_iff s.table i).mpr ht)]
    exact ⟨rfl, rfl⟩

/-- An AMEND that is stored (R18). -/
theorem amend_stored {p : Port} {x : List Byte} {s : State} (hd : decoded (.amend p x) s = true) (hs : TableSound s)
    (hn : Names s (byteAt x 0) (byteAt x 1)) (hp : ¬ (p = .harbour ∧ byteAt x 0 < s.table.tb)) (a : Option Int)
    (cl : Option Nat) (w : Option (Nat × Option Nat)) (air : Int)
    (live : (entryAt s (byteAt x 0)).state = .pending ∨ (entryAt s (byteAt x 0)).state = .due)
    (fields : amendFields x = some (a, cl, w))
    (booked : w ≠ none → s.table.tb ≤ byteAt x 0 ∧ byteAt x 0 < s.table.qb)
    (hair : air = a.getD (entryAt s (byteAt x 0)).airDraft) (low : tooTall s.params air = false)
    (high : fitsUnder s.params air s.water.effective = false) :
    exec (.amend p x) s = .next (answered p 4 .ok (tagOf s (byteAt x 0)) (settle (amendEvent (byteAt x 0)
      (storeAmended (byteAt x 0) air (cl.getD (entryAt s (byteAt x 0)).cls) w (taken p 4 x s))))) := by
  have own := ownAmend_live (s := taken p 4 x s) x live
  have allowed : ¬ (w.isSome && kindOf (taken p 4 x s).table (byteAt x 0) != .booked) = true := by
    rw [window_refused_iff]
    exact fun ⟨h, hb⟩ => hb (booked (Option.isSome_iff_ne_none.mp h))
  have same : a.getD (entryAt (taken p 4 x s) (byteAt x 0)).airDraft = air := hair.symm
  simp only [fields] at own
  rw [if_neg allowed, same, if_neg (by rw [taken_params, low]; decide),
    if_neg (by rw [taken_params, taken_water, high]; decide)] at own
  exact exec_amend_of_owner hd hs hn hp own

/-- Settles O23, by the state of the entry, the range of the values, the two tests and the window. -/
theorem amendStores : Obligations.AmendStores := by
  rintro p x s _ hd hs rfl hn hp
  have hi : byteAt x 0 < 64 := hn.1
  have hs' : TableSound (taken p 4 x s) := hs
  refine ⟨fun h => exec_amend_of_owner hd hs hn hp ((ownAmend_fixed (s := taken p 4 x s) x).1 h),
    fun h => exec_amend_of_owner hd hs hn hp ((ownAmend_fixed (s := taken p 4 x s) x).2 h), amendOutOfRange_iff x,
    fun live bad => ?range, fun air live range booked hair => ?tests,
    fun a cl w air live fields booked hair low high => ?stored⟩
  case range =>
    have own := ownAmend_live (s := taken p 4 x s) x live
    refine exec_amend_of_owner hd hs hn hp (a := refuse .outOfRange) (own.trans ?_)
    by_cases range : AmendOutOfRange x
    · simp only [amendFields_out_of_range range]
    · simp only [amendFields_in_range range]
      refine if_pos ((window_refused_iff _ _ _).mpr ?_)
      rw [amendedWindow_isSome]
      exact bad.resolve_left range
  case tests =>
    obtain ⟨tall, fits⟩ := amend_tests hd hs hn hp air live range booked hair
    exact ⟨tall, fun h1 h2 => ⟨_, fits h1 h2, concludeEntry_notNeeded hs' hi⟩⟩
  case stored =>
    have run := amend_stored hd hs hn hp a cl w air live fields booked hair low high
    refine ⟨storeAmended (byteAt x 0) air (cl.getD (entryAt s (byteAt x 0)).cls) w (taken p 4 x s), _, run, ?_, ?_⟩
    · unfold amendEvent
      simp only [beq_iff_eq]
    · cases w with
      | none =>
        obtain ⟨⟨others, air', cls', id', dir', hold⟩, kept⟩ :=
          storeAmended_plain_spec hs' hi air (cl.getD (entryAt s (byteAt x 0)).cls)
        exact ⟨others, air', cls', id', dir', hold, fun _ => kept, nofun⟩
      | some w =>
        obtain ⟨⟨others, air', cls', id', dir', hold⟩, kept⟩ :=
          storeAmended_window_spec hs' hi live air (cl.getD (entryAt s (byteAt x 0)).cls) w.1 w.2
        refine ⟨others, air', cls', id', dir', hold, nofun, fun e z h => ?_⟩
        obtain rfl := Option.some.inj h
        exact kept

end Sys2Proof.Machine
end


section
/-!
The create requests (R13 to R15): the checks of a new record on a sound table, and the record stored.
-/

namespace Sys2Proof.Machine

/-! ## The vessel and the checks of R13 -/

theorem vesselFields_of_ok {x : List Byte} {d : Direction} (h : VesselOk x d) :
    vesselFields x = some (identityAt x 0, d, (wordAt x 9 : Int), byteAt x 11) := by
  obtain ⟨id, direction, low, high, cls⟩ := h
  simp [vesselFields, id, direction, low, high, cls]

theorem vesselFields_of_not_ok {x : List Byte} (h : ∀ d, ¬ VesselOk x d) : vesselFields x = none := by
  unfold vesselFields
  dsimp only
  split
  · next d direction =>
    refine if_neg fun fields => h d ?_
    simp only [Bool.and_eq_true, decide_eq_true_eq] at fields
    obtain ⟨⟨⟨id, low⟩, high⟩, cls⟩ := fields
    exact ⟨id, direction, low, high, cls⟩
  · rfl

/-- The reads of the duplicate check change nothing on a sound table. -/
theorem readForDuplicate_sound (id : List Byte) (d : Direction) {s : State} (hs : TableSound s) :
    readForDuplicate id d s = s := by
  unfold readForDuplicate
  dsimp only
  rw [verifyEntries_good _ _ (entryAt_good hs)]
  split
  · exact verifyGeneration_good _ _ (generationAt_good hs _)
  · rfl

/-- The duplicate test as a test on the entry at an index. -/
theorem duplicate_test_iff (x : List Byte) (d : Direction) (s : State) (j : Nat) :
    ((entryAt s j).state.live && (entryAt s j).identity == identityAt x 0 && (entryAt s j).direction == d) = true ↔
      DuplicateAt x d s j := by
  simp [DuplicateAt, and_assoc]

theorem duplicateOf_first {x : List Byte} {d : Direction} {s : State} {j : Nat} (hj : j < 64)
    (h : DuplicateAt x d s j) (first : ∀ k, k < j → ¬ DuplicateAt x d s k) :
    duplicateOf (identityAt x 0) d s = some j := by
  refine List.find?_range_eq_some.mpr ⟨(duplicate_test_iff x d s j).mpr h, List.mem_range.mpr hj, fun k hk => ?_⟩
  rw [Bool.not_eq_true', ← Bool.not_eq_true]
  exact fun hdup => first k hk ((duplicate_test_iff x d s k).mp hdup)

theorem duplicateOf_none {x : List Byte} {d : Direction} {s : State} (h : NoDuplicate x d s) :
    duplicateOf (identityAt x 0) d s = none :=
  List.find?_eq_none.mpr fun k hk hdup =>
    h k (List.mem_range.mp hk) ((duplicate_test_iff x d s k).mp hdup)

theorem admission_duplicate {x : List Byte} {d : Direction} {s : State} {j : Nat} (air level : Int) (hj : j < 64)
    (h : DuplicateAt x d s j) (first : ∀ k, k < j → ¬ DuplicateAt x d s k) :
    admission (identityAt x 0) d air level s = some { status := .duplicate, payload := tagOf s j } := by
  simp [admission, duplicateOf_first hj h first]

theorem admission_tooTall {x : List Byte} {d : Direction} {s : State} {air : Int} (level : Int)
    (h : NoDuplicate x d s) (tall : tooTall s.params air = true) :
    admission (identityAt x 0) d air level s = some (refuse .tooTall) := by
  simp [admission, duplicateOf_none h, tall]

theorem admission_fitsUnder {x : List Byte} {d : Direction} {s : State} {air level : Int}
    (h : NoDuplicate x d s) (low : tooTall s.params air = false) (fits : fitsUnder s.params air level = true) :
    admission (identityAt x 0) d air level s = some (refuse .noOpeningNeeded) := by
  simp [admission, duplicateOf_none h, low, fits]

theorem admission_of_admitted {x : List Byte} {d : Direction} {s : State} {level : Int} (h : Admitted x level d s) :
    admission (identityAt x 0) d (wordAt x 9) level s = none := by
  obtain ⟨-, noDuplicate, low, high⟩ := h
  simp [admission, duplicateOf_none noDuplicate, low, high]

/-! ## Allocation (R13) -/

theorem allocate_sound (l : List Nat) {s : State} (hs : TableSound s) :
    allocate l s = (s, l.find? (fun i => (entryAt s i).state == .vacant)) := by
  induction l with
  | nil => rfl
  | cons i l ih =>
    have hv := verifyEntry_good i s (entryAt_good hs i)
    have hg := verifyGeneration_good i s (generationAt_good hs i)
    by_cases h : (entryAt s i).state = .vacant
    · simp [allocate, hv, hg, h]
    · simp [allocate, hv, h, ih]

/-- The lowest VACANT index is the one that is allocated. -/
theorem find_vacant_of_lowest {s : State} {lo hi i : Nat} (h : LowestVacant s lo hi i) :
    (List.range' lo (hi - lo)).find? (fun i => (entryAt s i).state == .vacant) = some i := by
  obtain ⟨hlo, hhi, -, vacant, lowest⟩ := h
  refine List.find?_range'_eq_some.mpr ⟨beq_iff_eq.mpr vacant, List.mem_range'_1.mpr ⟨hlo, by omega⟩, fun j h1 h2 => ?_⟩
  simpa using lowest j h1 h2

theorem find_vacant_none {s : State} {lo hi : Nat} (h : ∀ j, lo ≤ j → j < hi → (entryAt s j).state ≠ .vacant) :
    (List.range' lo (hi - lo)).find? (fun i => (entryAt s i).state == .vacant) = none := by
  refine List.find?_eq_none.mpr fun j hj => ?_
  have bounds := List.mem_range'_1.mp hj
  simpa using h j bounds.1 (by omega)

theorem regionOf_timetable (t : Table) : regionOf t .timetable = List.range' 0 (t.tb - 0) := List.range_eq_range'

/-! ## The record stored -/

/-- A record stored, with what R9 and R12 add where it is DUE at once. -/
def Entry.stored (e : Entry) (due : Bool) (stamp : BitVec 16) (held : Bool) : Entry :=
  { e with
    state := if due then .due else e.state, dueStamp := if due then some stamp else e.dueStamp,
    tideHold := if due then some held else e.tideHold, codeGood := true }

theorem storeRecord_pending (i : Nat) (e : Entry) (s : State) : storeRecord false i e s = writeEntry i e s := by
  unfold storeRecord
  exact if_neg (by decide)

theorem storeRecord_due (i : Nat) (e : Entry) (s : State) :
    storeRecord true i e s = becomeDue i (writeEntry i e s) := by
  unfold storeRecord
  exact if_pos rfl

theorem storeRecord_entry {i : Nat} {s : State} (due : Bool) (e : Entry) (hs : TableSound s) (hi : i < 64) :
    entryAt (storeRecord due i e s) i = e.stored due s.table.counter (tideHeld s e.airDraft) := by
  have written := entryAt_writeEntry i e s (by rw [hs.1]; exact hi)
  cases due with
  | false =>
    rw [storeRecord_pending, written]
    rfl
  | true =>
    rw [storeRecord_due, entryAt_becomeDue (writeEntry_sound i e hs) hi, written]
    rfl

theorem storeRecord_others (i : Nat) {s : State} (due : Bool) (e : Entry) (hs : TableSound s) :
    OthersKept i s (storeRecord due i e s) := by
  intro j hj
  have written := entryAt_writeEntry_ne i j e s hj
  cases due with
  | false =>
    rw [storeRecord_pending]
    exact congrArg unstamped written
  | true =>
    rw [storeRecord_due]
    exact (becomeDue_others i (writeEntry_sound i e hs) j hj).trans (congrArg unstamped written)

/-- The table of a stored record, but for the entries. -/
theorem storeRecord_table (i : Nat) {s : State} (due : Bool) (e : Entry) (hs : TableSound s) :
    (storeRecord due i e s).table = { s.table with
      counter := if due then s.table.counter + 1 else s.table.counter
      dueList := s.table.dueList ++ (if due then [i] else [])
      entries := (storeRecord due i e s).table.entries } := by
  cases due with
  | false =>
    rw [storeRecord_pending]
    simp only [Bool.false_eq_true, if_false, List.append_nil]
    rfl
  | true =>
    rw [storeRecord_due]
    exact becomeDue_table i (writeEntry_sound i e hs)

theorem tagOf_storeRecord (i : Nat) {s : State} (due : Bool) (e : Entry) (hs : TableSound s) (j : Nat) :
    tagOf (storeRecord due i e s) j = tagOf s j := by
  unfold tagOf generationAt
  rw [storeRecord_table i due e hs]

/-! ## CREATE_BOOKING -/

theorem latestAt_ok {x : List Byte} {k e : Nat} {z : Option Nat}
    (h : byteAt x k = 0 ∧ z = none ∨ byteAt x k = 1 ∧ z = some (wordAt x (k + 1)) ∧ WindowInRange e (wordAt x (k + 1))) :
    latestAt x k e = some z := by
  unfold latestAt
  rcases h with ⟨h, rfl⟩ | ⟨h, rfl, hw⟩
  · rw [h]
    rfl
  · rw [h]
    exact if_pos ((windowOk_iff _ _).mpr hw)

theorem latestAt_bad {x : List Byte} {k e : Nat}
    (h : 2 ≤ byteAt x k ∨ byteAt x k = 1 ∧ ¬ WindowInRange e (wordAt x (k + 1))) : latestAt x k e = none := by
  unfold latestAt
  rcases h with h | ⟨h, hw⟩
  · rw [optional_none _ h]
  · rw [h]
    exact if_neg fun ok => hw ((windowOk_iff _ _).mp ok)

/-- The record of a booking (R3, R13). -/
def bookingRecord (x : List Byte) (d : Direction) (z : Option Nat) : Entry :=
  { newEntry (identityAt x 0) d (wordAt x 9) (byteAt x 11) with earliest := some (wordAt x 12), latest := z }

/-- CREATE_BOOKING on a sound table, its values in range (R13, R14). -/
theorem ownCreateBooking_sound {x : List Byte} {d : Direction} {z : Option Nat} {s : State} (hs : TableSound s)
    (vessel : VesselOk x d) (window : latestAt x 14 (wordAt x 12) = some z) (he : wordAt x 12 < 1440) :
    ownCreateBooking x s = match admission (identityAt x 0) d (wordAt x 9) s.params.highWater s with
      | some answer => (settle s, answer)
      | none => match (regionOf s.table .booked).find? (fun i => (entryAt s i).state == .vacant) with
        | none => (settle s, refuse .full)
        | some i => (settleStored (s.clock.valid && windowContains (bookingRecord x d z) s.clock.minute) i
            (storeRecord (s.clock.valid && windowContains (bookingRecord x d z) s.clock.minute) i
              (bookingRecord x d z) s), accept (tagOf s i)) := by
  unfold ownCreateBooking
  simp only [vesselFields_of_ok vessel, window, readForDuplicate_sound _ _ hs, allocate_sound _ hs]
  rw [if_neg (Nat.not_le.mpr he)]
  cases admission (identityAt x 0) d (wordAt x 9) s.params.highWater s with
  | some answer => rfl
  | none =>
    dsimp only
    cases (regionOf s.table .booked).find? (fun i => (entryAt s i).state == .vacant) with
    | none => rfl
    | some i =>
      dsimp only
      rw [tagOf_storeRecord i _ _ hs]
      rfl

theorem ownCreateBooking_out_of_range {x : List Byte} (s : State)
    (h : (∀ d, ¬ VesselOk x d) ∨ 1440 ≤ wordAt x 12 ∨ latestAt x 14 (wordAt x 12) = none) :
    ownCreateBooking x s = (s, refuse .outOfRange) := by
  unfold ownCreateBooking
  dsimp only
  split
  · next vessel window =>
    refine if_pos ?_
    rcases h with h | h | h
    · exact nomatch (vesselFields_of_not_ok h).symm.trans vessel
    · exact h
    · exact nomatch h.symm.trans window
  · rfl

/-! ## O19 -/

theorem booking_refused (p : Port) (x : List Byte) (s : State) (d : Direction)
    (hd : decoded (.createBooking p x) s = true) (vessel : VesselOk x d)
    (hz : byteAt x 14 = 0 ∨ byteAt x 14 = 1 ∧ WindowInRange (wordAt x 12) (wordAt x 15)) (he : wordAt x 12 < 1440)
    (hs : TableSound s) :
    (∀ j, j < 64 → DuplicateAt x d s j → (∀ k, k < j → ¬ DuplicateAt x d s k) →
      exec (.createBooking p x) s = .next (answered p 1 .duplicate (tagOf s j) (settle (taken p 1 x s)))) ∧
    (NoDuplicate x d s → tooTall s.params (wordAt x 9) = true →
      exec (.createBooking p x) s = .next (answered p 1 .tooTall [] (settle (taken p 1 x s)))) ∧
    (NoDuplicate x d s → tooTall s.params (wordAt x 9) = false →
      fitsUnder s.params (wordAt x 9) s.params.highWater = true →
      exec (.createBooking p x) s = .next (answered p 1 .noOpeningNeeded [] (settle (taken p 1 x s)))) ∧
    (Admitted x s.params.highWater d s → (∀ j, s.table.tb ≤ j → j < s.table.qb → (entryAt s j).state ≠ .vacant) →
      exec (.createBooking p x) s = .next (answered p 1 .full [] (settle (taken p 1 x s)))) := by
  obtain ⟨z, window⟩ : ∃ z, latestAt x 14 (wordAt x 12) = some z := by
    rcases hz with h | ⟨h, hw⟩
    · exact ⟨none, latestAt_ok (.inl ⟨h, rfl⟩)⟩
    · exact ⟨some (wordAt x 15), latestAt_ok (.inr ⟨h, rfl, hw⟩)⟩
  have own := ownCreateBooking_sound (s := taken p 1 x s) hs vessel window he
  rw [taken_params] at own
  have run {a : Answer} (h : ownCreateBooking x (taken p 1 x s) = (settle (taken p 1 x s), a)) :
      exec (.createBooking p x) s = .next (answered p 1 a.status a.payload (settle (taken p 1 x s))) :=
    exec_of_owner rfl rfl rfl hd h
  refine ⟨fun j hj dup first => run (a := { status := .duplicate, payload := tagOf s j }) ?_,
    fun noDup tall => run (a := refuse .tooTall) ?_, fun noDup low fits => run (a := refuse .noOpeningNeeded) ?_,
    fun admitted full => run (a := refuse .full) ?_⟩
  · rw [own, admission_duplicate (s := taken p 1 x s) _ _ hj dup first]
    rfl
  · rw [own, admission_tooTall (s := taken p 1 x s) _ noDup tall]
  · rw [own, admission_fitsUnder (s := taken p 1 x s) noDup low fits]
  · have none_ := find_vacant_none (s := taken p 1 x s) full
    rw [own, admission_of_admitted (s := taken p 1 x s) admitted]
    simp only [regionOf, taken_table] at none_ ⊢
    rw [none_]

theorem booking_stored (p : Port) (x : List Byte) (s : State) (d : Direction) (i e : Nat) (z : Option Nat) (due : Bool)
    (hd : decoded (.createBooking p x) s = true) (hs : TableSound s) (admitted : Admitted x s.params.highWater d s)
    (hE : e = wordAt x 12) (he : e < 1440)
    (hdue : due = (s.clock.valid && decide ((s.clock.minute + 1440 - e) % 1440 <
      match z with | some z => (z + 1440 - e) % 1440 | none => 720)))
    (hz : byteAt x 14 = 0 ∧ z = none ∨ byteAt x 14 = 1 ∧ z = some (wordAt x 15) ∧ WindowInRange e (wordAt x 15))
    (lowest : LowestVacant s s.table.tb s.table.qb i) :
    exec (.createBooking p x) s = .next (answered p 1 .ok (tagOf s i) (settle
      (if due then dueEvent [i] (storeRecord due i (bookingRecord x d z) (taken p 1 x s))
       else storeRecord due i (bookingRecord x d z) (taken p 1 x s)))) := by
  subst hE
  have own := ownCreateBooking_sound (s := taken p 1 x s) hs admitted.1 (latestAt_ok hz) he
  rw [taken_params] at own
  have same : ((taken p 1 x s).clock.valid && windowContains (bookingRecord x d z) (taken p 1 x s).clock.minute) = due := by
    rw [windowContains_eq _ rfl, hdue]
    cases z <;> rfl
  have found := find_vacant_of_lowest (s := taken p 1 x s) lowest
  rw [admission_of_admitted (s := taken p 1 x s) admitted] at own
  simp only [regionOf, same] at own found
  rw [taken_table, found] at own
  exact exec_of_owner rfl rfl rfl hd own

/-- Settles O19: the checks in their order, and the record that is stored. -/
theorem createBookingStores : Obligations.CreateBookingStores := by
  refine ⟨fun p x s hd h => exec_of_owner rfl rfl rfl hd (ownCreateBooking_out_of_range _ (.inl h)), booking_refused,
    fun p x s d hd vessel h => exec_of_owner rfl rfl rfl hd (ownCreateBooking_out_of_range _ (.inr ?_)),
    fun p x s d i e z due hd hs admitted hE he hz lowest hdue =>
      ⟨_, booking_stored p x s d i e z due hd hs admitted hE he hdue hz lowest, ?_⟩⟩
  · exact h.imp id latestAt_bad
  · have hi : i < 64 := by
      obtain ⟨-, h1, h2, -⟩ := lowest
      omega
    have entry := storeRecord_entry (s := taken p 1 x s) due (bookingRecord x d z) hs hi
    have table := storeRecord_table (s := taken p 1 x s) i due (bookingRecord x d z) hs
    refine ⟨?_, (congrArg Table.dueList table :), (congrArg Table.counter table :),
      storeRecord_others (s := taken p 1 x s) i due (bookingRecord x d z) hs⟩
    rw [entry, hE]
    cases due <;> rfl

/-! ## O20 -/

/-- The record of a timetable request (R3, R15). -/
def timetableRecord (x : List Byte) (d : Direction) : Entry :=
  { newEntry (identityAt x 0) d (wordAt x 9) (byteAt x 11) with
    recurrence := some (byteAt x 12, byteAt x 13), skip := some false }

/-- CREATE_TIMETABLE on a sound table, its values in range (R15). -/
theorem ownCreateTimetable_sound {x : List Byte} {d : Direction} {s : State} (hs : TableSound s)
    (vessel : VesselOk x d) (repeats_ : byteAt x 13 ∈ repeats) (base : byteAt x 12 < byteAt x 13) :
    ownCreateTimetable x s = match admission (identityAt x 0) d (wordAt x 9) s.params.highWater s with
      | some answer => (settle s, answer)
      | none => match (regionOf s.table .timetable).find? (fun i => (entryAt s i).state == .vacant) with
        | none => (settle s, refuse .full)
        | some i => (settleStored (s.clock.valid && recurs (timetableRecord x d) (s.clock.minute / 15)) i
            (storeRecord (s.clock.valid && recurs (timetableRecord x d) (s.clock.minute / 15)) i
              (timetableRecord x d) s), accept (tagOf s i)) := by
  unfold ownCreateTimetable
  simp only [vesselFields_of_ok vessel, readForDuplicate_sound _ _ hs, allocate_sound _ hs]
  rw [if_neg (by simp [repeats_, base])]
  cases admission (identityAt x 0) d (wordAt x 9) s.params.highWater s with
  | some answer => rfl
  | none =>
    dsimp only
    cases (regionOf s.table .timetable).find? (fun i => (entryAt s i).state == .vacant) with
    | none => rfl
    | some i =>
      dsimp only
      rw [tagOf_storeRecord i _ _ hs]
      rfl

theorem ownCreateTimetable_out_of_range {x : List Byte} (s : State)
    (h : (∀ d, ¬ VesselOk x d) ∨ byteAt x 13 ∉ repeats ∨ byteAt x 13 ≤ byteAt x 12) :
    ownCreateTimetable x s = (s, refuse .outOfRange) := by
  unfold ownCreateTimetable
  dsimp only
  split
  · next vessel =>
    refine if_pos ?_
    rcases h with h | h
    · exact nomatch (vesselFields_of_not_ok h).symm.trans vessel
    · simpa using h
  · rfl

theorem timetable_refused (p : Port) (x : List Byte) (s : State) (d : Direction)
    (hd : decoded (.createTimetable p x) s = true) (vessel : VesselOk x d) (hr : byteAt x 13 ∈ repeats)
    (hb : byteAt x 12 < byteAt x 13) (hs : TableSound s) :
    (∀ j, j < 64 → DuplicateAt x d s j → (∀ k, k < j → ¬ DuplicateAt x d s k) →
      exec (.createTimetable p x) s = .next (answered p 2 .duplicate (tagOf s j) (settle (taken p 2 x s)))) ∧
    (NoDuplicate x d s → tooTall s.params (wordAt x 9) = true →
      exec (.createTimetable p x) s = .next (answered p 2 .tooTall [] (settle (taken p 2 x s)))) ∧
    (NoDuplicate x d s → tooTall s.params (wordAt x 9) = false →
      fitsUnder s.params (wordAt x 9) s.params.highWater = true →
      exec (.createTimetable p x) s = .next (answered p 2 .noOpeningNeeded [] (settle (taken p 2 x s)))) ∧
    (Admitted x s.params.highWater d s → (∀ j, j < s.table.tb → (entryAt s j).state ≠ .vacant) →
      exec (.createTimetable p x) s = .next (answered p 2 .full [] (settle (taken p 2 x s)))) := by
  have own := ownCreateTimetable_sound (s := taken p 2 x s) hs vessel hr hb
  rw [taken_params] at own
  have run {a : Answer} (h : ownCreateTimetable x (taken p 2 x s) = (settle (taken p 2 x s), a)) :
      exec (.createTimetable p x) s = .next (answered p 2 a.status a.payload (settle (taken p 2 x s))) :=
    exec_of_owner rfl rfl rfl hd h
  refine ⟨fun j hj dup first => run (a := { status := .duplicate, payload := tagOf s j }) ?_,
    fun noDup tall => run (a := refuse .tooTall) ?_, fun noDup low fits => run (a := refuse .noOpeningNeeded) ?_,
    fun admitted full => run (a := refuse .full) ?_⟩
  · rw [own, admission_duplicate (s := taken p 2 x s) _ _ hj dup first]
    rfl
  · rw [own, admission_tooTall (s := taken p 2 x s) _ noDup tall]
  · rw [own, admission_fitsUnder (s := taken p 2 x s) noDup low fits]
  · have none_ := find_vacant_none (s := taken p 2 x s) (lo := 0) (hi := s.table.tb) fun j _ hj => full j hj
    rw [own, admission_of_admitted (s := taken p 2 x s) admitted, regionOf_timetable]
    dsimp only
    rw [taken_table, none_]

theorem timetable_stored (p : Port) (x : List Byte) (s : State) (d : Direction) (i : Nat) (due : Bool)
    (hd : decoded (.createTimetable p x) s = true) (hs : TableSound s) (admitted : Admitted x s.params.highWater d s)
    (hr : byteAt x 13 ∈ repeats) (hb : byteAt x 12 < byteAt x 13) (lowest : LowestVacant s 0 s.table.tb i)
    (hdue : due = (s.clock.valid && decide (s.clock.minute / 15 % byteAt x 13 = byteAt x 12))) :
    exec (.createTimetable p x) s = .next (answered p 2 .ok (tagOf s i) (settle
      (if due then dueEvent [i] (storeRecord due i (timetableRecord x d) (taken p 2 x s))
       else storeRecord due i (timetableRecord x d) (taken p 2 x s)))) := by
  have own := ownCreateTimetable_sound (s := taken p 2 x s) hs admitted.1 hr hb
  rw [taken_params] at own
  have same : ((taken p 2 x s).clock.valid && recurs (timetableRecord x d) ((taken p 2 x s).clock.minute / 15)) =
      due := by
    rw [hdue]
    exact congrArg _ (beq_eq_decide _ _)
  have found := find_vacant_of_lowest (s := taken p 2 x s) lowest
  rw [admission_of_admitted (s := taken p 2 x s) admitted, regionOf_timetable] at own
  simp only [same] at own
  rw [taken_table, found] at own
  exact exec_of_owner rfl rfl rfl hd own

/-- Settles O20, as O19: the recurrence stands for the window. -/
theorem createTimetableStores : Obligations.CreateTimetableStores := by
  refine ⟨fun p x s hd h => exec_of_owner rfl rfl rfl hd (ownCreateTimetable_out_of_range _ (.inl h)),
    timetable_refused,
    fun p x s d hd vessel h => exec_of_owner rfl rfl rfl hd (ownCreateTimetable_out_of_range _ (.inr h)), ?_⟩
  rintro p x s d i _ _ due hd hs admitted rfl rfl hr hb lowest hdue
  have hi : i < 64 := by
    obtain ⟨-, h1, h2, -⟩ := lowest
    omega
  have entry := storeRecord_entry (s := taken p 2 x s) due (timetableRecord x d) hs hi
  have table := storeRecord_table (s := taken p 2 x s) i due (timetableRecord x d) hs
  refine ⟨_, timetable_stored p x s d i due hd hs admitted hr hb lowest hdue, ?_, (congrArg Table.dueList table :),
    storeRecord_others (s := taken p 2 x s) i due (timetableRecord x d) hs⟩
  rw [entry]
  cases due <;> rfl

end Sys2Proof.Machine
end


section
/-!
POST_ARRIVAL (R16, R17): the filter, the allocation of an arrival entry, and what the report of the count leaves.
-/

namespace Sys2Proof.Machine

/-! ## The filter and the allocation -/

theorem filterAccepts_iff (q : Parameters) (d : Direction) (cls : Nat) : filterAccepts q d cls = true ↔
    q.arrivalFilter.getLsbD cls = false ∧
      q.arrivalFilter.getLsbD (match d with | .inbound => 8 | .outbound => 9) = true := by
  unfold filterAccepts
  rw [Bool.and_eq_true, Bool.not_eq_true']
  cases d <;> rfl

theorem earliestIn_sound (st : EntryState) (l : List Nat) {s : State} (hs : TableSound s) :
    earliestIn st l s = (s, l.find? (fun i => (entryAt s i).state == st)) := by
  induction l with
  | nil => rfl
  | cons i l ih =>
    have hv := verifyEntry_good i s (entryAt_good hs i)
    have hg := verifyGeneration_good i s (generationAt_good hs i)
    by_cases h : (entryAt s i).state = st
    · simp [earliestIn, hv, hg, h]
    · simp [earliestIn, hv, h, ih]

/-- The entry of a posting, retired or overwritten where it is not VACANT (R17). -/
theorem allocateArrival_sound {s : State} (hs : TableSound s) : allocateArrival s =
    match (regionOf s.table .arrival).find? (fun i => (entryAt s i).state == .vacant) with
    | some i => (s, some i)
    | none => match s.table.arrivalOrder.find? (fun i => (entryAt s i).state == .concluded) with
      | some i => (retireEntry i s, some i)
      | none => match s.table.arrivalOrder.find? (fun i => (entryAt s i).state == .due) with
        | some i => (overwriteArrival i s, some i)
        | none => (s, none) := by
  unfold allocateArrival
  rw [allocate_sound _ hs]
  cases (regionOf s.table .arrival).find? (fun i => (entryAt s i).state == .vacant) with
  | some i => rfl
  | none =>
    dsimp only
    rw [earliestIn_sound _ _ hs]
    cases s.table.arrivalOrder.find? (fun i => (entryAt s i).state == .concluded) with
    | some i => rfl
    | none =>
      dsimp only
      rw [earliestIn_sound _ _ hs]
      cases s.table.arrivalOrder.find? (fun i => (entryAt s i).state == .due) with
      | some i => rfl
      | none => rfl

/-! ## What the allocation leaves of the table -/

theorem retireEntry_sound (i : Nat) {s : State} (hs : TableSound s) : TableSound (retireEntry i s) := by
  obtain ⟨he, hg, ge, gg⟩ := hs
  unfold TableSound
  rw [retireEntry_table]
  refine ⟨by simpa using he, by simpa using hg, fun e h => ?_, fun g h => ?_⟩
  · rcases List.mem_or_eq_of_mem_set h with h | rfl
    · exact ge e h
    · rfl
  · rcases List.mem_or_eq_of_mem_set h with h | rfl
    · exact gg g h
    · rfl

/-- The overwrite's effect on the table: that of a retirement, and the last lost tag (R17). -/
theorem overwriteArrival_table (i : Nat) (s : State) :
    (overwriteArrival i s).table = { (retireEntry i s).table with lastLost := some (i, (generationAt s i).value) } := by
  rw [retireEntry_table]
  rfl

theorem overwriteArrival_sound (i : Nat) {s : State} (hs : TableSound s) : TableSound (overwriteArrival i s) := by
  have retired := retireEntry_sound i hs
  unfold TableSound at retired ⊢
  rw [overwriteArrival_table]
  exact retired

theorem overwriteArrival_planner (i : Nat) (s : State) : (overwriteArrival i s).planner = s.planner := rfl

theorem lit_overwriteArrival (i : Nat) (s : State) :
    Lit .control 18 (overwriteArrival i s) ∧ Lit .harbour 1 (overwriteArrival i s) := by
  unfold overwriteArrival
  exact ⟨lit_raiseHarbour _ _ (lit_of_raiseControl .queueOverrun _), lit_of_raiseHarbour .queueOverrun _⟩

/-! ## The count of DUE arrivals (R10, R55) -/

/-- The flag is that of the count, and a rise has raised QUEUE_CRITICAL. -/
theorem lit_of_refreshQueueCritical {s : State} (h : s.planner.queueCritical = false)
    (risen : (refreshQueueCritical s).planner.queueCritical = true) : Lit .control 17 (refreshQueueCritical s) := by
  have now := (refreshQueueCritical_flag s).symm.trans risen
  unfold refreshQueueCritical
  rw [h, now]
  exact lit_of_raiseControl .queueCritical _

theorem planner_of_offEntries {s t : State} (h : offEntries t = offEntries s) : t.planner = s.planner :=
  (congrArg State.planner h :)

theorem params_of_offEntries {s t : State} (h : offEntries t = offEntries s) : t.params = s.params :=
  (congrArg State.params h :)

theorem advanceCounter_planner {s : State} (h : TableSound s) : (advanceCounter s).planner = s.planner :=
  planner_of_offEntries (t := advanceCounter s)
    (s := mapTable (fun t => { t with counter := s.table.counter + 1 }) s) (offEntries_advanceCounter h)

theorem advanceCounter_params {s : State} (h : TableSound s) : (advanceCounter s).params = s.params :=
  params_of_offEntries (t := advanceCounter s)
    (s := mapTable (fun t => { t with counter := s.table.counter + 1 }) s) (offEntries_advanceCounter h)

/-- After an entry has become DUE the queue-critical flag is that of the count. -/
theorem becomeDue_flag (i : Nat) {s : State} (h : TableSound s) : (becomeDue i s).planner.queueCritical =
    decide (s.params.queueCriticalLevel ≤ dueArrivals (becomeDue i s).table) := by
  rw [← advanceCounter_params h, becomeDue_eq]
  generalize advanceCounter s = a
  unfold joinWithStamp joinDue
  rw [refreshQueueCritical_flag, refreshQueueCritical_table]
  rfl

theorem lit_of_becomeDue (i : Nat) {s : State} (hs : TableSound s) (h : s.planner.queueCritical = false)
    (risen : (becomeDue i s).planner.queueCritical = true) : Lit .control 17 (becomeDue i s) := by
  rw [← advanceCounter_planner hs] at h
  rw [becomeDue_eq] at risen ⊢
  generalize advanceCounter s = a at h risen ⊢
  exact lit_of_refreshQueueCritical h risen

/-! ## The posting stored -/

/-- The record of a posting (R3, R16). -/
def arrivalRecord (x : List Byte) (d : Direction) : Entry :=
  newEntry (identityAt x 0) d (wordAt x 9) (byteAt x 11)

/-- A posting stored in an entry: DUE at once, at the tail of the arrival order (R17). -/
@[irreducible] def storeArrival (i : Nat) (e : Entry) (s : State) : State :=
  mapTable (fun t => { t with arrivalOrder := t.arrivalOrder ++ [i] }) (storeRecord true i e s)

theorem storeArrival_table (i : Nat) (e : Entry) (s : State) : (storeArrival i e s).table =
    { (storeRecord true i e s).table with arrivalOrder := (storeRecord true i e s).table.arrivalOrder ++ [i] } := by
  unfold storeArrival
  exact mapTable_table _ _

theorem storeArrival_planner (i : Nat) (e : Entry) (s : State) :
    (storeArrival i e s).planner = (becomeDue i (writeEntry i e s)).planner := by
  unfold storeArrival
  rw [storeRecord_due, mapTable_planner]

/-- What a posting leaves in the table, given what its allocation left. -/
theorem storeArrival_spec {i : Nat} {s : State} (e : Entry) (hs : TableSound s) (hi : i < 64) :
    entryAt (storeArrival i e s) i = e.madeDue s.table.counter (tideHeld s e.airDraft) ∧
      OthersKept i s (storeArrival i e s) ∧
      (storeArrival i e s).table.dueList = s.table.dueList ++ [i] ∧
      (storeArrival i e s).table.arrivalOrder = s.table.arrivalOrder ++ [i] ∧
      (storeArrival i e s).table.generations = s.table.generations ∧
      (storeArrival i e s).table.lastLost = s.table.lastLost := by
  have table := (storeArrival_table i e s).trans
    (congrArg (fun t : Table => { t with arrivalOrder := t.arrivalOrder ++ [i] }) (storeRecord_table i true e hs))
  have entries (j : Nat) : entryAt (storeArrival i e s) j = entryAt (storeRecord true i e s) j := by
    unfold entryAt
    rw [storeArrival_table]
  refine ⟨?_, fun j hj => ?_, (congrArg Table.dueList table :), (congrArg Table.arrivalOrder table :),
    (congrArg Table.generations table :), (congrArg Table.lastLost table :)⟩
  · rw [entries, storeRecord_entry true e hs hi]
    rfl
  · rw [entries]
    exact storeRecord_others i true e hs j hj

theorem storeArrival_flag {i : Nat} {s : State} (e : Entry) (hs : TableSound s) :
    (storeArrival i e s).planner.queueCritical =
      decide (s.params.queueCriticalLevel ≤ dueArrivals (storeArrival i e s).table) := by
  have count : dueArrivals (storeArrival i e s).table = dueArrivals (becomeDue i (writeEntry i e s)).table := by
    rw [storeArrival_table, storeRecord_due]
    generalize (becomeDue i (writeEntry i e s)).table = table
    rfl
  rw [storeArrival_planner, becomeDue_flag i (writeEntry_sound i e hs), count]
  rfl

theorem lit_of_storeArrival {i : Nat} {s : State} (e : Entry) (hs : TableSound s)
    (h : s.planner.queueCritical = false) (risen : (storeArrival i e s).planner.queueCritical = true) :
    Lit .control 17 (storeArrival i e s) := by
  have raised := lit_of_becomeDue i (writeEntry_sound i e hs) h
  rw [storeArrival_planner] at risen
  unfold storeArrival
  rw [storeRecord_due]
  exact lit_mapTable _ _ (raised risen)

theorem lit_storeArrival {port : Port} {bit : Nat} {i : Nat} {s : State} (e : Entry) (lit : Lit port bit s) :
    Lit port bit (storeArrival i e s) := by
  unfold storeArrival
  rw [storeRecord_due]
  exact lit_mapTable _ _ (lit_becomeDue _ _ (lit_writeEntry _ _ _ lit))

/-! ## The owner -/

theorem settleStored_due (i : Nat) (s : State) : settleStored true i s = settle (dueEvent [i] s) := by
  unfold settleStored
  rw [if_pos rfl]

/-- POST_ARRIVAL on a sound table, its vessel in range and accepted by the filter (R16, R17). -/
theorem ownPostArrival_sound {x : List Byte} {d : Direction} {s : State} (hs : TableSound s) (vessel : VesselOk x d)
    (accepted : filterAccepts s.params d (byteAt x 11) = true) :
    ownPostArrival x s = match admission (identityAt x 0) d (wordAt x 9) s.water.effective s with
      | some answer => (settle s, answer)
      | none => match allocateArrival s with
        | (s2, none) => (settle s2, refuse .full)
        | (s2, some i) => (settle (dueEvent [i] (storeArrival i (arrivalRecord x d) s2)),
            accept (tagOf (storeArrival i (arrivalRecord x d) s2) i)) := by
  unfold ownPostArrival
  simp only [vesselFields_of_ok vessel, readForDuplicate_sound _ _ hs]
  rw [if_neg (by rw [accepted]; decide)]
  cases admission (identityAt x 0) d (wordAt x 9) s.water.effective s with
  | some answer => rfl
  | none =>
    dsimp only
    obtain ⟨s2, found⟩ := allocateArrival s
    cases found with
    | none => rfl
    | some i =>
      simp only [settleStored_due]
      unfold storeArrival arrivalRecord
      rfl

theorem filterAccepts_false {q : Parameters} {d : Direction} {cls : Nat} (h : q.arrivalFilter.getLsbD cls = true ∨
    q.arrivalFilter.getLsbD (match d with | .inbound => 8 | .outbound => 9) = false) :
    filterAccepts q d cls = false := by
  rw [← Bool.not_eq_true, filterAccepts_iff]
  rintro ⟨h1, h2⟩
  rcases h with h | h
  · exact Bool.noConfusion (h1.symm.trans h)
  · exact Bool.noConfusion (h2.symm.trans h)

theorem ownPostArrival_filtered {x : List Byte} {d : Direction} {s : State} (vessel : VesselOk x d)
    (rejected : filterAccepts s.params d (byteAt x 11) = false) :
    ownPostArrival x s = (s, refuse .filtered) := by
  unfold ownPostArrival
  simp only [vesselFields_of_ok vessel]
  rw [if_pos (by rw [rejected]; rfl)]

theorem ownPostArrival_out_of_range {x : List Byte} (s : State) (h : ∀ d, ¬ VesselOk x d) :
    ownPostArrival x s = (s, refuse .outOfRange) := by
  unfold ownPostArrival
  rw [vesselFields_of_not_ok h]

/-! ## O21 -/

theorem arrival_refused (p : Port) (x : List Byte) (s : State) (d : Direction)
    (hd : decoded (.postArrival p x) s = true) (vessel : VesselOk x d)
    (accepted : filterAccepts s.params d (byteAt x 11) = true)
    (hs : TableSound s) :
    (∀ j, j < 64 → DuplicateAt x d s j → (∀ k, k < j → ¬ DuplicateAt x d s k) →
      exec (.postArrival p x) s = .next (answered p 3 .duplicate (tagOf s j) (settle (taken p 3 x s)))) ∧
    (NoDuplicate x d s → tooTall s.params (wordAt x 9) = true →
      exec (.postArrival p x) s = .next (answered p 3 .tooTall [] (settle (taken p 3 x s)))) ∧
    (NoDuplicate x d s → tooTall s.params (wordAt x 9) = false →
      fitsUnder s.params (wordAt x 9) s.water.effective = true →
      exec (.postArrival p x) s = .next (answered p 3 .noOpeningNeeded [] (settle (taken p 3 x s)))) ∧
    (Admitted x s.water.effective d s → (∀ j, s.table.qb ≤ j → j < 64 → (entryAt s j).state ≠ .vacant) →
      (∀ j ∈ s.table.arrivalOrder, (entryAt s j).state ≠ .concluded ∧ (entryAt s j).state ≠ .due) →
      exec (.postArrival p x) s = .next (answered p 3 .full [] (settle (taken p 3 x s)))) := by
  have own := ownPostArrival_sound (s := taken p 3 x s) hs vessel accepted
  rw [taken_water] at own
  have run {a : Answer} (h : ownPostArrival x (taken p 3 x s) = (settle (taken p 3 x s), a)) :
      exec (.postArrival p x) s = .next (answered p 3 a.status a.payload (settle (taken p 3 x s))) :=
    exec_of_owner rfl rfl rfl hd h
  refine ⟨fun j hj dup first => run (a := { status := .duplicate, payload := tagOf s j }) ?_,
    fun noDup tall => run (a := refuse .tooTall) ?_, fun noDup low fits => run (a := refuse .noOpeningNeeded) ?_,
    fun admitted full none_ => run (a := refuse .full) ?_⟩
  · rw [own, admission_duplicate (s := taken p 3 x s) _ _ hj dup first]
    rfl
  · rw [own, admission_tooTall (s := taken p 3 x s) _ noDup tall]
  · rw [own, admission_fitsUnder (s := taken p 3 x s) noDup low fits]
  · have noVacant := find_vacant_none (s := taken p 3 x s) (lo := s.table.qb) (hi := 64) full
    have noConcluded : (taken p 3 x s).table.arrivalOrder.find?
        (fun i => (entryAt (taken p 3 x s) i).state == .concluded) = none :=
      List.find?_eq_none.mpr fun j hj h => (none_ j hj).1 (beq_iff_eq.mp h)
    have noDue : (taken p 3 x s).table.arrivalOrder.find?
        (fun i => (entryAt (taken p 3 x s) i).state == .due) = none :=
      List.find?_eq_none.mpr fun j hj h => (none_ j hj).2 (beq_iff_eq.mp h)
    have alloc := allocateArrival_sound (s := taken p 3 x s) hs
    simp only [regionOf, taken_table, Config.entryCount] at noVacant noConcluded noDue alloc
    rw [noVacant, noConcluded, noDue] at alloc
    rw [own, admission_of_admitted (s := taken p 3 x s) admitted, alloc]

/-- An admitted posting with an entry allocated to it (R17). -/
theorem arrival_stored {p : Port} {x : List Byte} {s s2 : State} {d : Direction} {i : Nat}
    (hd : decoded (.postArrival p x) s = true) (admitted : Admitted x s.water.effective d s)
    (accepted : filterAccepts s.params d (byteAt x 11) = true)
    (hs : TableSound s) (alloc : allocateArrival (taken p 3 x s) = (s2, some i)) (sound : TableSound s2) (hi : i < 64) :
    exec (.postArrival p x) s = .next (answered p 3 .ok (tagOf s2 i)
      (settle (dueEvent [i] (storeArrival i (arrivalRecord x d) s2)))) := by
  have own := ownPostArrival_sound (s := taken p 3 x s) hs admitted.1 accepted
  rw [taken_water, admission_of_admitted (s := taken p 3 x s) admitted, alloc] at own
  have tag : tagOf (storeArrival i (arrivalRecord x d) s2) i = tagOf s2 i := by
    obtain ⟨-, -, -, -, generations, -⟩ := storeArrival_spec (arrivalRecord x d) sound hi
    unfold tagOf generationAt
    rw [generations]
  dsimp only at own
  rw [tag] at own
  exact exec_of_owner rfl rfl rfl hd own

theorem arrival_takes_vacant (p : Port) (x : List Byte) (s : State) (d : Direction) (i : Nat)
    (hd : decoded (.postArrival p x) s = true) (admitted : Admitted x s.water.effective d s)
    (accepted : filterAccepts s.params d (byteAt x 11) = true)
    (hs : TableSound s) (lowest : LowestVacant s s.table.qb 64 i) :
    ∃ u, exec (.postArrival p x) s = .next (answered p 3 .ok (tagOf s i) (settle (dueEvent [i] u))) ∧
      entryAt u i = { Entry.vacant with
        state := .due, identity := identityAt x 0, direction := d, airDraft := wordAt x 9, cls := byteAt x 11,
        dueStamp := some s.table.counter,
        tideHold := some (decide (s.params.maxLift < requiredLift s (wordAt x 9))) } ∧ OthersKept i s u ∧
      u.planner.queueCritical = decide (s.params.queueCriticalLevel ≤ dueArrivals u.table) ∧
      (s.planner.queueCritical = false → u.planner.queueCritical = true →
        u.ports.control.attention.getLsbD 17 = true) ∧
      u.table.dueList = s.table.dueList ++ [i] ∧ u.table.arrivalOrder = s.table.arrivalOrder ++ [i] := by
  have hi : i < 64 := lowest.2.1
  have alloc := allocateArrival_sound (s := taken p 3 x s) hs
  have found := find_vacant_of_lowest (s := taken p 3 x s) lowest
  simp only [regionOf, taken_table, Config.entryCount] at alloc found
  rw [found] at alloc
  obtain ⟨entry, others, dueList, arrivalOrder, -, -⟩ := storeArrival_spec (s := taken p 3 x s) (arrivalRecord x d) hs hi
  have run := arrival_stored hd admitted accepted hs alloc hs hi
  have flag := storeArrival_flag (s := taken p 3 x s) (i := i) (arrivalRecord x d) hs
  have lit := lit_of_storeArrival (s := taken p 3 x s) (i := i) (arrivalRecord x d) hs
  exact ⟨storeArrival i (arrivalRecord x d) (taken p 3 x s), run, entry, others, flag, lit, dueList, arrivalOrder⟩

/-- An index found in a list by the state of its entry stands in the table, a VACANT one aside. -/
theorem lt_of_state {s : State} {i : Nat} (hs : TableSound s) (h : (entryAt s i).state ≠ .vacant) : i < 64 := by
  by_contra hi
  have out : s.table.entries.length ≤ i := by
    have size := hs.1
    omega
  refine h ?_
  unfold entryAt
  rw [List.getD_eq_getElem?_getD, List.getElem?_eq_none out]
  rfl

/-- What a posting leaves in an entry that is retired for it (R17). -/
theorem storeArrival_retired {i : Nat} {s s2 : State} {x : List Byte} {d : Direction} (hs : TableSound s)
    (sound : TableSound s2) (hi : i < 64) (table : ∃ lost, s2.table = { (retireEntry i s).table with lastLost := lost })
    (params : s2.params = s.params) (water : s2.water = s.water) :
    entryAt (storeArrival i (arrivalRecord x d) s2) i = { Entry.vacant with
      state := .due, identity := identityAt x 0, direction := d, airDraft := wordAt x 9, cls := byteAt x 11,
      dueStamp := some s.table.counter,
      tideHold := some (decide (s.params.maxLift < requiredLift s (wordAt x 9))) } ∧
    OthersKept i s (storeArrival i (arrivalRecord x d) s2) ∧
    (storeArrival i (arrivalRecord x d) s2).table.dueList = s.table.dueList.filter (· != i) ++ [i] ∧
    (storeArrival i (arrivalRecord x d) s2).table.arrivalOrder = s.table.arrivalOrder.filter (· != i) ++ [i] ∧
    (generationAt (storeArrival i (arrivalRecord x d) s2) i).value = (generationAt s i).value + 1 ∧
    tagOf s2 i = putTag i ((generationAt s i).value + 1) := by
  obtain ⟨lost, table⟩ := table
  obtain ⟨entry, others, dueList, arrivalOrder, generations, -⟩ := storeArrival_spec (arrivalRecord x d) sound hi
  obtain ⟨-, generation, -, -, kept, -, -⟩ := retireEntry_retired hs hi
  have generation2 : generationAt s2 i = generationAt (retireEntry i s) i := by
    unfold generationAt
    rw [table]
  refine ⟨?_, fun j hj => ?_, ?_, ?_, ?_, ?_⟩
  · rw [entry, table, retireEntry_table]
    unfold tideHeld requiredLift
    rw [params, water]
    rfl
  · rw [others j hj]
    refine congrArg unstamped (Eq.trans ?_ (kept j hj))
    unfold entryAt
    rw [table]
  · rw [dueList, table, retireEntry_table]
  · rw [arrivalOrder, table, retireEntry_table]
  · rw [← generation, ← generation2]
    unfold generationAt
    rw [generations]
  · unfold tagOf
    rw [generation2, generation]

theorem retireEntry_params (i : Nat) (s : State) : (retireEntry i s).params = s.params := refreshQueueCritical_params _
theorem retireEntry_water (i : Nat) (s : State) : (retireEntry i s).water = s.water := refreshQueueCritical_water _

/-- A rise of the flag by a retirement has raised QUEUE_CRITICAL (R55). -/
theorem lit_of_retireEntry (i : Nat) {s : State} (h : s.planner.queueCritical = false)
    (risen : (retireEntry i s).planner.queueCritical = true) : Lit .control 17 (retireEntry i s) := by
  have raised := lit_of_refreshQueueCritical (s := dropDue i s) h
  unfold retireEntry at risen ⊢
  exact lit_vacateEntry _ _ (raised risen)

theorem arrival_retires_concluded (p : Port) (x : List Byte) (s : State) (d : Direction) (i : Nat)
    (hd : decoded (.postArrival p x) s = true) (admitted : Admitted x s.water.effective d s)
    (accepted : filterAccepts s.params d (byteAt x 11) = true)
    (hs : TableSound s) (full : ∀ j, s.table.qb ≤ j → j < 64 → (entryAt s j).state ≠ .vacant)
    (first : s.table.arrivalOrder.find? (fun j => (entryAt s j).state == .concluded) = some i) :
    ∃ u, exec (.postArrival p x) s = .next (answered p 3 .ok (putTag i ((generationAt s i).value + 1))
        (settle (dueEvent [i] u))) ∧
      entryAt u i = { Entry.vacant with
        state := .due, identity := identityAt x 0, direction := d, airDraft := wordAt x 9, cls := byteAt x 11,
        dueStamp := some s.table.counter,
        tideHold := some (decide (s.params.maxLift < requiredLift s (wordAt x 9))) } ∧ OthersKept i s u ∧
      u.planner.queueCritical = decide (s.params.queueCriticalLevel ≤ dueArrivals u.table) ∧
      (s.planner.queueCritical = false → u.planner.queueCritical = true →
        u.ports.control.attention.getLsbD 17 = true) ∧
      u.table.dueList = s.table.dueList.filter (· != i) ++ [i] ∧
      u.table.arrivalOrder = s.table.arrivalOrder.filter (· != i) ++ [i] ∧
      (generationAt u i).value = (generationAt s i).value + 1 ∧ u.table.lastLost = s.table.lastLost := by
  have state : (entryAt s i).state = .concluded := by simpa using List.find?_some first
  have hi : i < 64 := lt_of_state hs (by rw [state]; decide)
  have alloc := allocateArrival_sound (s := taken p 3 x s) hs
  have noVacant := find_vacant_none (s := taken p 3 x s) (lo := s.table.qb) (hi := 64) full
  have found : s.table.arrivalOrder.find? (fun j => (entryAt (taken p 3 x s) j).state == .concluded) = some i := first
  simp only [regionOf, taken_table, Config.entryCount] at alloc noVacant
  rw [noVacant, found] at alloc
  have sound : TableSound (retireEntry i (taken p 3 x s)) := retireEntry_sound i (s := taken p 3 x s) hs
  have run := arrival_stored hd admitted accepted hs alloc sound hi
  obtain ⟨entry, others, dueList, arrivalOrder, generation, tag⟩ :=
    storeArrival_retired (s := taken p 3 x s) (x := x) (d := d) hs sound hi ⟨_, rfl⟩ (retireEntry_params _ _)
      (retireEntry_water _ _)
  rw [tag] at run
  refine ⟨storeArrival i (arrivalRecord x d) (retireEntry i (taken p 3 x s)), run, entry, others, ?_, fun low risen => ?_,
    dueList, arrivalOrder, generation, ?_⟩
  · rw [storeArrival_flag _ sound, retireEntry_params]
    rfl
  · cases mid : (retireEntry i (taken p 3 x s)).planner.queueCritical with
    | false => exact lit_of_storeArrival _ sound mid risen
    | true => exact lit_storeArrival _ (lit_of_retireEntry i (s := taken p 3 x s) low mid)
  · obtain ⟨-, -, -, -, -, lost⟩ := storeArrival_spec (arrivalRecord x d) sound hi
    rw [lost, retireEntry_table]
    rfl

theorem arrival_overwrites_due (p : Port) (x : List Byte) (s : State) (d : Direction) (i : Nat)
    (hd : decoded (.postArrival p x) s = true) (admitted : Admitted x s.water.effective d s)
    (accepted : filterAccepts s.params d (byteAt x 11) = true)
    (hs : TableSound s) (full : ∀ j, s.table.qb ≤ j → j < 64 → (entryAt s j).state ≠ .vacant)
    (none_ : ∀ j ∈ s.table.arrivalOrder, (entryAt s j).state ≠ .concluded)
    (first : s.table.arrivalOrder.find? (fun j => (entryAt s j).state == .due) = some i) :
    ∃ u, exec (.postArrival p x) s = .next (answered p 3 .ok (putTag i ((generationAt s i).value + 1))
        (settle (dueEvent [i] u))) ∧
      entryAt u i = { Entry.vacant with
        state := .due, identity := identityAt x 0, direction := d, airDraft := wordAt x 9, cls := byteAt x 11,
        dueStamp := some s.table.counter,
        tideHold := some (decide (s.params.maxLift < requiredLift s (wordAt x 9))) } ∧ OthersKept i s u ∧
      u.planner.queueCritical = decide (s.params.queueCriticalLevel ≤ dueArrivals u.table) ∧
      (s.planner.queueCritical = false → u.planner.queueCritical = true →
        u.ports.control.attention.getLsbD 17 = true) ∧
      u.table.dueList = s.table.dueList.filter (· != i) ++ [i] ∧
      u.table.arrivalOrder = s.table.arrivalOrder.filter (· != i) ++ [i] ∧
      (generationAt u i).value = (generationAt s i).value + 1 ∧
      u.table.lastLost = some (i, (generationAt s i).value) ∧ u.ports.control.attention.getLsbD 18 = true ∧
      u.ports.harbour.attention.getLsbD 1 = true := by
  have state : (entryAt s i).state = .due := by simpa using List.find?_some first
  have hi : i < 64 := lt_of_state hs (by rw [state]; decide)
  have alloc := allocateArrival_sound (s := taken p 3 x s) hs
  have noVacant := find_vacant_none (s := taken p 3 x s) (lo := s.table.qb) (hi := 64) full
  have noConcluded : s.table.arrivalOrder.find? (fun j => (entryAt (taken p 3 x s) j).state == .concluded) = none :=
    List.find?_eq_none.mpr fun j hj h => none_ j hj (beq_iff_eq.mp h)
  have found : s.table.arrivalOrder.find? (fun j => (entryAt (taken p 3 x s) j).state == .due) = some i := first
  simp only [regionOf, taken_table, Config.entryCount] at alloc noVacant
  rw [noVacant, noConcluded, found] at alloc
  have sound : TableSound (overwriteArrival i (taken p 3 x s)) := overwriteArrival_sound i (s := taken p 3 x s) hs
  have run := arrival_stored hd admitted accepted hs alloc sound hi
  obtain ⟨entry, others, dueList, arrivalOrder, generation, tag⟩ :=
    storeArrival_retired (s := taken p 3 x s) (x := x) (d := d) hs sound hi ⟨_, overwriteArrival_table _ _⟩ rfl rfl
  rw [tag] at run
  obtain ⟨lit18, lit1⟩ := lit_overwriteArrival i (taken p 3 x s)
  refine ⟨storeArrival i (arrivalRecord x d) (overwriteArrival i (taken p 3 x s)), run, entry, others,
    storeArrival_flag _ sound, fun low risen => lit_of_storeArrival _ sound low risen, dueList, arrivalOrder, generation,
    ?_, lit_storeArrival _ lit18, lit_storeArrival _ lit1⟩
  obtain ⟨-, -, -, -, -, lost⟩ := storeArrival_spec (arrivalRecord x d) sound hi
  rw [lost, overwriteArrival_table]
  rfl

/-- Settles O21: the filter, the checks of R13, and the three ways in which a posting finds its entry. -/
theorem postArrivalStores : Obligations.PostArrivalStores :=
  ⟨fun p x s _ hd vessel h => exec_of_owner rfl rfl rfl hd
      (ownPostArrival_filtered (s := taken p 3 x s) vessel (filterAccepts_false h)),
    fun _ _ _ hd h => exec_of_owner rfl rfl rfl hd (ownPostArrival_out_of_range _ h),
    fun p x s d hd vessel h1 h2 => arrival_refused p x s d hd vessel ((filterAccepts_iff _ _ _).mpr ⟨h1, h2⟩),
    fun p x s d i hd admitted h1 h2 =>
      arrival_takes_vacant p x s d i hd admitted ((filterAccepts_iff _ _ _).mpr ⟨h1, h2⟩),
    fun p x s d i hd admitted h1 h2 =>
      arrival_retires_concluded p x s d i hd admitted ((filterAccepts_iff _ _ _).mpr ⟨h1, h2⟩),
    fun p x s d i hd admitted h1 h2 =>
      arrival_overwrites_due p x s d i hd admitted ((filterAccepts_iff _ _ _).mpr ⟨h1, h2⟩)⟩

end Sys2Proof.Machine
end


section
/-!
The position sample (R145, R153 to R160): what is computed and found at it, and a RAISE.
-/

namespace Sys2Proof.Machine

/-! ## What a sample computes -/

/-- A tower's record from its count at a sample (R145). -/
theorem computePositions_tower (s : State) (k : Tower) :
    (computePositions s).drive.towers.get k = locate s.params k (s.drive.towers.get k) := by
  cases k <;> rfl

theorem computePositions_frame (s : State) :
    computePositions s = { s with drive := { s.drive with towers := (computePositions s).drive.towers } } := rfl

/-- The state in which a sample looks for faults: positions, limit switches and anchors are those of the sample. -/
def sampleStart (s : State) : State :=
  let s2 := rememberLimits (filtered s) (computePositions s)
  if s2.drive.phase == some .running && (s2.drive.motion == .raise || s2.drive.motion == .lower) then stepAnchors s2
  else s2

/-- The faults that a sample finds (R157, R159). -/
def faultsAtSample (s : State) : List FaultCause :=
  (if overtravelled (filtered s) (computePositions s) then [FaultCause.overtravel] else []) ++
    sampleFaults (filtered s) (sampleStart s)

theorem positionSample_eq (s : State) : positionSample s = readStanding
    (if !(faultsAtSample s).isEmpty then foundFaults (faultsAtSample s) (sampleStart s)
     else if (sampleStart s).drive.stopAsked then sampleStop (sampleStart s)
     else sampleMotion (filtered s) (noteLevel (filtered s) (sampleStart s))) := rfl

theorem sampleStart_frame (s : State) :
    sampleStart s = { s with drive := { s.drive with towers := (sampleStart s).drive.towers } } := by
  unfold sampleStart
  dsimp only
  split <;> rfl

@[simp] theorem sampleStart_motion (s : State) : (sampleStart s).drive.motion = s.drive.motion :=
  (congrArg (·.drive.motion) (sampleStart_frame s) :)
@[simp] theorem sampleStart_phase (s : State) : (sampleStart s).drive.phase = s.drive.phase :=
  (congrArg (·.drive.phase) (sampleStart_frame s) :)
@[simp] theorem sampleStart_target (s : State) : (sampleStart s).drive.target = s.drive.target :=
  (congrArg (·.drive.target) (sampleStart_frame s) :)
@[simp] theorem sampleStart_stopAsked (s : State) : (sampleStart s).drive.stopAsked = s.drive.stopAsked :=
  (congrArg (·.drive.stopAsked) (sampleStart_frame s) :)
@[simp] theorem sampleStart_jog (s : State) : (sampleStart s).drive.jog = s.drive.jog :=
  (congrArg (·.drive.jog) (sampleStart_frame s) :)
@[simp] theorem sampleStart_valid (s : State) : (sampleStart s).drive.valid = s.drive.valid :=
  (congrArg (·.drive.valid) (sampleStart_frame s) :)
@[simp] theorem sampleStart_profile (s : State) : (sampleStart s).drive.profile = s.drive.profile :=
  (congrArg (·.drive.profile) (sampleStart_frame s) :)
@[simp] theorem sampleStart_seq (s : State) : (sampleStart s).seq = s.seq :=
  (congrArg (·.seq) (sampleStart_frame s) :)
@[simp] theorem sampleStart_params (s : State) : (sampleStart s).params = s.params :=
  (congrArg (·.params) (sampleStart_frame s) :)
@[simp] theorem sampleStart_filtered (s : State) : filtered (sampleStart s) = filtered s :=
  (congrArg filtered (sampleStart_frame s) :)

/-- A sampled tower: its position from the count, its limit switch as read, its anchor stepped where a RAISE or LOWER
runs (R145, R158, R159). -/
theorem sampleStart_tower (s : State) (k : Tower) : (sampleStart s).drive.towers.get k =
    { (computePositions s).drive.towers.get k with
      limitBefore := RawInputs.upperLimit (filtered s) k, anchor := ((sampleStart s).drive.towers.get k).anchor } := by
  have stepped (r : TowerRecord) : stepAnchor r = { r with anchor := (stepAnchor r).anchor } := by
    unfold stepAnchor
    split <;> rfl
  unfold sampleStart
  dsimp only
  split
  · cases k <;> exact stepped _
  · cases k <;> rfl

theorem sampleStart_stalled {s : State} (running : s.drive.phase = some .running)
    (motion : s.drive.motion = .raise ∨ s.drive.motion = .lower) (k : Tower) :
    stalled ((sampleStart s).drive.towers.get k) =
      stalled (stepAnchor ((computePositions s).drive.towers.get k)) := by
  have runs : ((rememberLimits (filtered s) (computePositions s)).drive.phase == some .running &&
      ((rememberLimits (filtered s) (computePositions s)).drive.motion == .raise ||
        (rememberLimits (filtered s) (computePositions s)).drive.motion == .lower)) = true := by
    show (s.drive.phase == some .running && (s.drive.motion == .raise || s.drive.motion == .lower)) = true
    rw [running]
    rcases motion with h | h <;> rw [h] <;> rfl
  have steps (r : TowerRecord) (b : Bool) : stalled (stepAnchor { r with limitBefore := b }) = stalled (stepAnchor r) := by
    obtain ⟨_, _, _, _, _, _, _, _, anchor, _⟩ := r
    cases anchor <;> rfl
  unfold sampleStart
  dsimp only
  rw [if_pos runs]
  cases k <;> exact steps _ _

theorem position_sampleStart (s : State) (k : Tower) :
    ((sampleStart s).drive.towers.get k).position = ((computePositions s).drive.towers.get k).position :=
  (congrArg TowerRecord.position (sampleStart_tower s k) :)

/-- The skew and the span position are those of the positions computed. -/
theorem skew_sampleStart (s : State) : skew (sampleStart s) = skew (computePositions s) :=
  congrArg₂ (· - ·) (position_sampleStart s .w) (position_sampleStart s .e)

theorem spanPosition_sampleStart (s : State) : spanPosition (sampleStart s) = spanPosition (computePositions s) :=
  congrArg₂ (fun a b : Int => (a + b) / 2) (position_sampleStart s .w) (position_sampleStart s .e)

theorem outOfRange_sampleStart (s : State) : outOfRange (sampleStart s) = outOfRange (computePositions s) :=
  congrArg₂ (· || ·) (congrArg TowerRecord.outOfRange (sampleStart_tower s .w) :)
    (congrArg TowerRecord.outOfRange (sampleStart_tower s .e) :)

/-- What a sample leaves of a tower's motion until it acts. -/
theorem sampleStart_moving (s : State) (k : Tower) :
    ((sampleStart s).drive.towers.get k).stopped = (s.drive.towers.get k).stopped ∧
      ((sampleStart s).drive.towers.get k).released = (s.drive.towers.get k).released ∧
      ((sampleStart s).drive.towers.get k).reference = (s.drive.towers.get k).reference := by
  rw [sampleStart_tower, computePositions_tower]
  exact ⟨rfl, rfl, rfl⟩

/-! ## The faults of a sample (R157, R159) -/

theorem overtravelled_iff (s : State) : overtravelled (filtered s) (computePositions s) = true ↔
    ∃ k, RawInputs.upperLimit (filtered s) k = true ∧ (s.drive.towers.get k).limitBefore = false := by
  have before (k : Tower) : ((computePositions s).drive.towers.get k).limitBefore = (s.drive.towers.get k).limitBefore := by
    rw [computePositions_tower]
    rfl
  unfold overtravelled
  simp only [List.any_eq_true, Bool.and_eq_true, Bool.not_eq_true', before]
  refine ⟨fun ⟨k, _, h⟩ => ⟨k, h⟩, fun ⟨k, h⟩ => ⟨k, ?_, h⟩⟩
  cases k <;> decide

theorem overtravelled_of_remembered {s : State} (h : ∀ k, RawInputs.upperLimit (filtered s) k = true →
    (s.drive.towers.get k).limitBefore = true) : overtravelled (filtered s) (computePositions s) = false := by
  rw [← Bool.not_eq_true, overtravelled_iff]
  rintro ⟨k, made, new⟩
  exact Bool.noConfusion ((h k made).symm.trans new)

/-- The supervision of a RUNNING RAISE or LOWER (R157). -/
theorem sampleFaults_running {s : State} (running : s.drive.phase = some .running)
    (motion : s.drive.motion = .raise ∨ s.drive.motion = .lower) :
    sampleFaults (filtered s) (sampleStart s) = motionFaults (filtered s) (sampleStart s) := by
  unfold sampleFaults
  rw [sampleStart_phase, sampleStart_motion, running]
  rcases motion with h | h <;> rw [h] <;> rfl

theorem motionFaults_none {s : State} (running : s.drive.phase = some .running)
    (motion : s.drive.motion = .raise ∨ s.drive.motion = .lower) (level : RawInputs.level (filtered s) = true)
    (skewed : |skew (computePositions s)| < s.params.skewLimit) (range : outOfRange (computePositions s) = false)
    (moving : ∀ k, stalled (stepAnchor ((computePositions s).drive.towers.get k)) = false) :
    motionFaults (filtered s) (sampleStart s) = [] := by
  have w : stalled (sampleStart s).drive.towers.w = false := (sampleStart_stalled running motion .w).trans (moving .w)
  have e : stalled (sampleStart s).drive.towers.e = false := (sampleStart_stalled running motion .e).trans (moving .e)
  unfold motionFaults
  rw [skew_sampleStart, outOfRange_sampleStart, sampleStart_params, level, range, w, e,
    if_neg (Int.not_le.mpr skewed)]
  rfl

/-- A sample that finds no fault. -/
theorem faultsAtSample_none {s : State} (limits : overtravelled (filtered s) (computePositions s) = false)
    (faults : sampleFaults (filtered s) (sampleStart s) = []) : faultsAtSample s = [] := by
  unfold faultsAtSample
  rw [limits, faults]
  rfl

theorem positionSample_quiet {s : State} (none_ : faultsAtSample s = []) (stop : s.drive.stopAsked = false) :
    positionSample s = readStanding (sampleMotion (filtered s) (noteLevel (filtered s) (sampleStart s))) := by
  rw [positionSample_eq, none_, sampleStart_stopAsked, stop]
  rfl

theorem positionSample_fault {s : State} (some_ : faultsAtSample s ≠ []) :
    positionSample s = readStanding (foundFaults (faultsAtSample s) (sampleStart s)) := by
  rw [positionSample_eq, if_pos]
  simpa using some_

/-! ## What the motion keeps of the towers' measures -/

theorem measured_sampleStart (s : State) (k : Tower) :
    ((sampleStart s).drive.towers.get k).count = (s.drive.towers.get k).count ∧
      ((sampleStart s).drive.towers.get k).position =
        max positionMin (min (unclamped s.params k (s.drive.towers.get k).count) (positionMax s.params)) ∧
      ((sampleStart s).drive.towers.get k).outOfRange =
        (decide (unclamped s.params k (s.drive.towers.get k).count < positionMin) ||
          decide (positionMax s.params < unclamped s.params k (s.drive.towers.get k).count)) := by
  rw [sampleStart_tower, computePositions_tower]
  exact ⟨rfl, rfl, rfl⟩

theorem ite_mapPlanner (c : Prop) [Decidable c] (f : Planner → Planner) (s : State) :
    (if c then mapPlanner f s else s).drive = s.drive ∧ (if c then mapPlanner f s else s).seq = s.seq := by
  split <;> exact ⟨rfl, rfl⟩

/-- The part of an entry to RAISED before its clearance check. -/
theorem enterRaised_frame (s : State) :
    (enterRaised s).drive = s.drive ∧ (enterRaised s).seq.state = .raised := by
  unfold enterRaised
  dsimp only
  rw [drive_of_offSlots (offSlots_clearanceCheck _ _), seq_state_of_offSlots (offSlots_clearanceCheck _ _)]
  obtain ⟨drive, seq⟩ := ite_mapPlanner
    ((match s.seq.opening with | some o => !o.raisedBefore && o.closingCause.isNone | none => false) = true)
    (fun p => { p with maxRaised := .start s.params.maxRaisedTime })
    (mapOpening (fun o => { o with raisedBefore := true }) (raiseHarbour .spanRaised (setSeq .raised s)))
  refine ⟨drive.trans (setSeq_drive .raised s), (congrArg Sequence.state seq).trans ?_⟩
  exact congrArg Sequence.state (setSeq_seq .raised s)

theorem targetReached_drive (s : State) : (targetReached s).drive = s.drive := by
  unfold targetReached
  split
  · exact (enterRaised_frame s).1
  · rfl

theorem targetReached_state (s : State) :
    (targetReached s).seq.state = if s.seq.state = .lifting then .raised else s.seq.state := by
  unfold targetReached
  simp only [beq_iff_eq]
  split
  · exact (enterRaised_frame s).2
  · rfl

theorem measured_setReferences (s : State) : measured (setReferences s) = measured s := rfl

theorem measured_sampleRaise (s : State) : measured (sampleRaise s) = measured s := by
  unfold sampleRaise
  split
  · split
    · exact (measured_of_drive (targetReached_drive (endMotion s))).trans (measured_endMotion s)
    · rfl
  · rfl

theorem measured_sampleStop (s : State) : measured (sampleStop s) = measured s := by
  unfold sampleStop
  split
  · split
    · exact (measured_of_drive (targetReached_drive (endMotion s))).trans (measured_endMotion s)
    · rfl
  · rfl

theorem measured_sampleJog (s : State) : measured (sampleJog s) = measured s := by
  unfold sampleJog
  split
  · split <;> rfl
  · rfl

/-- A motion other than LOWER and DESCENT zeroes no count. -/
theorem measured_sampleMotion (x : RawInputs) {s : State} (lower : s.drive.motion ≠ .lower)
    (descent : s.drive.motion ≠ .descent) : measured (sampleMotion x s) = measured s := by
  unfold sampleMotion
  cases hm : s.drive.motion with
  | lower => exact absurd hm lower
  | descent => exact absurd hm descent
  | raise =>
    dsimp only
    split
    · exact measured_sampleRaise s
    · rfl
  | jog => exact measured_sampleJog s
  | none => rfl

theorem measured_positionSample {s : State} (lower : s.drive.motion ≠ .lower) (descent : s.drive.motion ≠ .descent) :
    measured (positionSample s) = measured (sampleStart s) := by
  rw [positionSample_eq]
  refine (measured_of_drive rfl).trans ?_
  split
  · exact measured_foundFaults _ _
  · split
    · exact measured_sampleStop _
    · exact measured_sampleMotion (s := noteLevel (filtered s) (sampleStart s)) _ (by simpa [noteLevel] using lower)
        (by simpa [noteLevel] using descent)

/-! ## The profile and the trim -/

/-- The trim takes at most three quarters of the profile (R156). -/
theorem trimReference_bounds (up : Bool) {profile bt g : Int} (skewNow : Int) {stopped : PerTower Bool} {k : Tower}
    (hp : 0 ≤ profile) (hg : 0 ≤ g) (moving : stopped.get k = false) :
    profile ≤ 4 * trimReference up profile bt g skewNow stopped k ∧
      trimReference up profile bt g skewNow stopped k ≤ profile := by
  have bounds (plain : Bool) (apart : plain = false → bt < |skewNow|) :
      profile ≤ 4 * (if plain = true then profile
        else profile - profile * min ((|skewNow| - bt) * g) 750 / 1000) ∧
      (if plain = true then profile else profile - profile * min ((|skewNow| - bt) * g) 750 / 1000) ≤ profile := by
    cases plain with
    | true =>
      rw [if_pos rfl]
      omega
    | false =>
      have step : 0 ≤ (|skewNow| - bt) * g := Int.mul_nonneg (by have := apart rfl; omega) hg
      rw [if_neg (by decide)]
      generalize (|skewNow| - bt) * g = m at step
      have low : 0 ≤ profile * min m 750 := Int.mul_nonneg hp (by omega)
      have high : profile * min m 750 ≤ profile * 750 := Int.mul_le_mul_of_nonneg_left (by omega) hp
      omega
  unfold trimReference
  dsimp only
  rw [moving, if_neg (by decide)]
  refine bounds _ fun plain => ?_
  simp only [Bool.or_eq_false_iff, decide_eq_false_iff_not] at plain
  obtain ⟨⟨⟨_, within⟩, _⟩, _⟩ := plain
  omega

end Sys2Proof.Machine
end


section
/-!
POSITION_SAMPLE in a RAISE (R153, R154, R156).
-/

namespace Sys2Proof.Machine

/-- The state in which the motion acts, at a sample that found no fault. -/
def sampleNoted (s : State) : State := noteLevel (filtered s) (sampleStart s)

theorem sampleNoted_frame (s : State) :
    sampleNoted s = { sampleStart s with drive := { (sampleStart s).drive with jog := (sampleNoted s).drive.jog } } := rfl

theorem sampleNoted_tower (s : State) (k : Tower) :
    (sampleNoted s).drive.towers.get k = (sampleStart s).drive.towers.get k := rfl

theorem stoppedTowers_sampleNoted (s : State) : stoppedTowers (sampleNoted s) = stoppedTowers s :=
  congrArg₂ PerTower.mk (sampleStart_moving s .w).1 (sampleStart_moving s .e).1

theorem spanPosition_sampleNoted (s : State) : spanPosition (sampleNoted s) = spanPosition (computePositions s) :=
  spanPosition_sampleStart s

theorem skew_sampleNoted (s : State) : skew (sampleNoted s) = skew (computePositions s) := skew_sampleStart s

theorem sampleNoted_motion (s : State) : (sampleNoted s).drive.motion = s.drive.motion := sampleStart_motion s
theorem sampleNoted_phase (s : State) : (sampleNoted s).drive.phase = s.drive.phase := sampleStart_phase s
theorem sampleNoted_target (s : State) : (sampleNoted s).drive.target = s.drive.target := sampleStart_target s
theorem sampleNoted_profile (s : State) : (sampleNoted s).drive.profile = s.drive.profile := sampleStart_profile s
theorem sampleNoted_seq (s : State) : (sampleNoted s).seq = s.seq := sampleStart_seq s
theorem sampleNoted_params (s : State) : (sampleNoted s).params = s.params := sampleStart_params s
theorem sampleNoted_filtered (s : State) : filtered (sampleNoted s) = filtered s := sampleStart_filtered s

/-- The first clause of O47: every motion but LOWER and DESCENT leaves the positions as the counts give them. -/
theorem sample_measures (s : State) (lower : s.drive.motion ≠ .lower) (descent : s.drive.motion ≠ .descent) :
    ∃ u, exec .positionSample s = .next (settle u) ∧ ∀ k, ∃ v,
      v = (16 * (s.drive.towers.get k).count).tdiv
        (16 * s.params.scaleWhole.get k + s.params.scaleSixteenths.get k) ∧
      (u.drive.towers.get k).position = max (-500) (min v (s.params.maxLift + 500)) ∧
      (u.drive.towers.get k).outOfRange = (decide (v < -500) || decide (s.params.maxLift + 500 < v)) ∧
      (u.drive.towers.get k).count = (s.drive.towers.get k).count := by
  refine ⟨positionSample s, rfl, fun k => ⟨_, rfl, ?_⟩⟩
  have kept := measured_tower (measured_positionSample lower descent) k
  obtain ⟨count, position, range⟩ := measured_sampleStart s k
  refine ⟨(congrArg (·.2.2.2.1) kept :).trans ?_, (congrArg (·.2.2.2.2.1) kept :).trans ?_,
    (congrArg (·.1) kept :).trans count⟩
  · exact position
  · exact range

/-- A RAISE that a sample finds without fault. -/
theorem positionSample_raise {s : State} {g : Int} (motion : s.drive.motion = .raise)
    (running : s.drive.phase = some .running) (target : s.drive.target = some g) (stop : s.drive.stopAsked = false)
    (none_ : faultsAtSample s = []) : positionSample s = readStanding
      (if g ≤ spanPosition (computePositions s) then targetReached (endMotion (sampleNoted s))
       else setReferences (stepProfile (sampleNoted s))) := by
  rw [positionSample_quiet none_ stop]
  change readStanding (sampleMotion (filtered s) (sampleNoted s)) = _
  unfold sampleMotion sampleRaise
  rw [sampleNoted_motion, motion, sampleNoted_phase, running, sampleNoted_target, target]
  dsimp only
  rw [if_pos (beq_self_eq_true _), spanPosition_sampleNoted]

/-- The profile of a sample (R153). -/
theorem stepProfile_profile (s : State) (go : Int) (h : distanceToGo s = go) :
    (stepProfile s).drive.profile = if s.params.creepDistance < go then
        min s.params.travelSpeed (s.drive.profile + s.params.rampStep)
      else max s.params.creepSpeed (s.drive.profile - s.params.rampStep) := by
  subst h
  rfl

theorem raise_goes_on {s : State} {g : Int} (motion : s.drive.motion = .raise)
    (running : s.drive.phase = some .running) (target : s.drive.target = some g) (stop : s.drive.stopAsked = false)
    (none_ : faultsAtSample s = []) (below : spanPosition (computePositions s) < g) :
    ∃ u, exec .positionSample s = .next (settle u) ∧ u.seq = s.seq ∧ u.drive.motion = .raise ∧
      u.drive.phase = some .running ∧
      u.drive.profile = (if s.params.creepDistance < g - spanPosition (computePositions s) then
          min s.params.travelSpeed (s.drive.profile + s.params.rampStep)
        else max s.params.creepSpeed (s.drive.profile - s.params.rampStep)) ∧
      (0 ≤ u.drive.profile → 0 ≤ s.params.trimGain →
        ∀ k, (s.drive.towers.get k).stopped = false → u.drive.profile ≤ 4 * (u.drive.towers.get k).reference ∧
          (u.drive.towers.get k).reference ≤ u.drive.profile) ∧
      ∀ k, (u.drive.towers.get k).reference = trimReference true u.drive.profile s.params.trimBand
        s.params.trimGain (skew (computePositions s)) (stoppedTowers s) k := by
  have sample := positionSample_raise motion running target stop none_
  rw [if_neg (Int.not_le.mpr below)] at sample
  have up : (stepProfile (sampleNoted s)).drive.motion = .raise := (sampleNoted_motion s).trans motion
  have references (k : Tower) : ((positionSample s).drive.towers.get k).reference =
      trimReference true (positionSample s).drive.profile s.params.trimBand s.params.trimGain
        (skew (computePositions s)) (stoppedTowers s) k := by
    have trim := referenceOf_eq (.inl up) k
    rw [show stoppedTowers (stepProfile (sampleNoted s)) = stoppedTowers s from stoppedTowers_sampleNoted s,
      show skew (stepProfile (sampleNoted s)) = skew (computePositions s) from skew_sampleNoted s,
      show (stepProfile (sampleNoted s)).params = s.params from sampleNoted_params s, up] at trim
    rw [sample]
    exact (setReferences_reference _ k).trans trim
  refine ⟨positionSample s, rfl, ?_, ?_, ?_, ?_, fun hp hg k moving => ?_, references⟩
  · rw [sample]
    exact sampleNoted_seq s
  · rw [sample]
    exact up
  · rw [sample]
    exact (sampleNoted_phase s).trans running
  · have go : distanceToGo (sampleNoted s) = g - spanPosition (computePositions s) := by
      unfold distanceToGo
      rw [sampleNoted_motion, motion, sampleNoted_target, target, spanPosition_sampleNoted]
    have profile := stepProfile_profile (sampleNoted s) _ go
    rw [sampleNoted_params, sampleNoted_profile] at profile
    rw [sample]
    exact profile
  · have still : (stoppedTowers s).get k = false := by
      cases k <;> exact moving
    rw [references k]
    exact trimReference_bounds true _ hp hg still

theorem raise_ends {s : State} {g : Int} (motion : s.drive.motion = .raise)
    (running : s.drive.phase = some .running) (target : s.drive.target = some g) (stop : s.drive.stopAsked = false)
    (none_ : faultsAtSample s = []) (reached : g ≤ spanPosition (computePositions s)) :
    ∃ u, exec .positionSample s = .next (settle u) ∧ u.drive.motion = .none ∧
      (∀ k, (u.drive.towers.get k).released = false ∧ (u.drive.towers.get k).reference = 0) ∧
      u.seq.state = (if s.seq.state = .lifting then .raised else s.seq.state) := by
  have sample := positionSample_raise motion running target stop none_
  rw [if_pos reached] at sample
  have drive : (positionSample s).drive = (endMotion (sampleNoted s)).drive := by
    rw [sample]
    exact targetReached_drive _
  obtain ⟨rested, -, brakes⟩ := rested_of_drive drive (rested_endMotion (sampleNoted s))
  refine ⟨positionSample s, rfl, rested, brakes, ?_⟩
  have state := targetReached_state (endMotion (sampleNoted s))
  rw [show (endMotion (sampleNoted s)).seq = s.seq from sampleNoted_seq s] at state
  rw [sample]
  exact state

/-- Settles O47: the measures of a sample, and a RAISE that it finds without fault. -/
theorem positionSampleRaises : Obligations.PositionSampleRaises := by
  refine ⟨sample_measures, ?_⟩
  rintro s _ g rfl motion running target stop level skewed range quiet
  have limits : overtravelled (filtered s) (computePositions s) = false :=
    overtravelled_of_remembered fun k made => Bool.noConfusion ((quiet k).1.symm.trans made)
  have faults : sampleFaults (filtered s) (sampleStart s) = [] :=
    (sampleFaults_running running (.inl motion)).trans
      (motionFaults_none running (.inl motion) level skewed range fun k => (quiet k).2)
  have none_ := faultsAtSample_none limits faults
  exact ⟨raise_goes_on motion running target stop none_, raise_ends motion running target stop none_⟩

end Sys2Proof.Machine
end


section
/-!
POSITION_SAMPLE in a LOWER, a DESCENT and a JOG, and the faults it reports (R155, R157, R159, R160, R165, R168).
-/

namespace Sys2Proof.Machine

/-! ## The seat stops (R155, R165) -/

/-- Both seat stops of a sample. -/
def seatStops (x : RawInputs) (s : State) : State := seatStop x .e (seatStop x .w s)

theorem seatStop_frame (x : RawInputs) (t : Tower) (s : State) :
    seatStop x t s = { s with drive := { s.drive with towers := (seatStop x t s).drive.towers } } := by
  unfold seatStop
  dsimp only
  split <;> rfl

theorem seatStops_frame (x : RawInputs) (s : State) :
    seatStops x s = { s with drive := { s.drive with towers := (seatStops x s).drive.towers } } := by
  have first := seatStop_frame x .w s
  have second := seatStop_frame x .e (seatStop x .w s)
  unfold seatStops
  generalize seatStop x .w s = m at first second ⊢
  exact second.trans (congrArg (fun a : State => { a with
    drive := { a.drive with towers := (seatStop x .e m).drive.towers } }) first)

/-- A moving tower on its seat stops; another is left as it is. -/
theorem seatStops_tower (x : RawInputs) (s : State) (k : Tower) : (seatStops x s).drive.towers.get k =
    if (s.drive.towers.get k).stopped = false ∧ RawInputs.seat x k = true then
      { brakeTower (s.drive.towers.get k) with stopped := true }
    else s.drive.towers.get k := by
  have one (t q : Tower) (s : State) : (seatStop x t s).drive.towers.get q =
      if q = t ∧ (s.drive.towers.get t).stopped = false ∧ RawInputs.seat x t = true then
        { brakeTower (s.drive.towers.get t) with stopped := true }
      else s.drive.towers.get q := by
    unfold seatStop
    dsimp only
    by_cases h : (s.drive.towers.get t).stopped = false ∧ RawInputs.seat x t = true
    · rw [if_pos (by simp [h])]
      by_cases hq : q = t
      · rw [if_pos ⟨hq, h⟩, hq]
        exact PerTower.get_set _ _ _
      · rw [if_neg (fun c => hq c.1)]
        exact PerTower.get_set_ne _ _ hq
    · rw [if_neg (by simpa using h), if_neg (fun c => h c.2)]
  unfold seatStops
  rw [one]
  cases k <;> simp [one]

theorem seatStops_position (x : RawInputs) (s : State) (k : Tower) :
    ((seatStops x s).drive.towers.get k).position = (s.drive.towers.get k).position := by
  rw [seatStops_tower]
  split <;> rfl

theorem seatStops_stopped (x : RawInputs) (s : State) (k : Tower) :
    ((seatStops x s).drive.towers.get k).stopped = true ↔
      (s.drive.towers.get k).stopped = true ∨ RawInputs.seat x k = true := by
  rw [seatStops_tower]
  cases hs : (s.drive.towers.get k).stopped <;> cases hx : RawInputs.seat x k <;> simp [hs]

theorem bothStopped_iff (s : State) : bothStopped s = true ↔ ∀ k, (s.drive.towers.get k).stopped = true := by
  unfold bothStopped
  rw [Bool.and_eq_true]
  exact ⟨fun ⟨w, e⟩ k => by cases k <;> assumption, fun h => ⟨h .w, h .e⟩⟩

theorem bothStopped_seatStops (x : RawInputs) (s : State) : bothStopped (seatStops x s) = true ↔
    ∀ k, (s.drive.towers.get k).stopped = true ∨ RawInputs.seat x k = true := by
  rw [bothStopped_iff]
  exact forall_congr' fun k => seatStops_stopped x s k

/-- Some tower still moves, or every one is stopped. -/
theorem moving_iff (x : RawInputs) (s : State) :
    (∃ k, (s.drive.towers.get k).stopped = false ∧ RawInputs.seat x k = false) ↔
      bothStopped (seatStops x s) = false := by
  rw [← Bool.not_eq_true, bothStopped_seatStops, not_forall]
  exact exists_congr fun k => by simp

/-! ## The end at the seats -/

/-- The entry to LOCKING at the seats (R88, R101, R155). -/
theorem seatsReached_state (s : State) : (seatsReached s).seq.state =
    if s.seq.state = .lowering ∨ s.seq.state = .recovering then .locking else s.seq.state := by
  unfold seatsReached
  simp only [Bool.or_eq_true, beq_iff_eq]
  split
  · have zeroed (t : State) : (seatZeroing t).seq = t.seq := by
      unfold seatZeroing
      dsimp only
      split <;> rfl
    exact (congrArg Sequence.state (zeroed (setSeq .locking s)) :).trans (congrArg Sequence.state (setSeq_seq .locking s))
  · rfl

/-- A drive but for what a seat zeroing and a command to the bolts may change. -/
def Drive.offSeat (d : Drive) : Drive :=
  { d with
    towers := d.towers.map (fun r => { r with count := 0, position := 0, outOfRange := false }), valid := true
    lastZeroing := none, bolts := ⟨⟨.driven, none, .stopped, false⟩, ⟨.driven, none, .stopped, false⟩⟩ }

theorem offSeat_seatZeroing (s : State) : (seatZeroing s).drive.offSeat = s.drive.offSeat := by
  unfold seatZeroing
  dsimp only
  split <;> rfl

theorem offSeat_seatsReached (s : State) : (seatsReached s).drive.offSeat = s.drive.offSeat := by
  unfold seatsReached
  split
  · have zeroed := offSeat_seatZeroing (setSeq .locking s)
    rw [setSeq_drive] at zeroed
    exact zeroed
  · rfl

theorem rested_of_offSeat {s t : State} (h : t.drive.offSeat = s.drive.offSeat) (r : Rested s) : Rested t := by
  obtain ⟨motion, jog, brakes⟩ := r
  refine ⟨(congrArg Drive.motion h :).trans motion, (congrArg Drive.jog h :).trans jog, fun k => ?_⟩
  have tower := (congrArg (fun d : Drive => d.towers.get k) h :)
  simp only [Drive.offSeat, PerTower.get_map] at tower
  exact ⟨(congrArg TowerRecord.released tower :).trans (brakes k).1,
    (congrArg TowerRecord.reference tower :).trans (brakes k).2⟩

/-- The counts are 0 and valid after a seat zeroing, and stay so at the seats (R147). -/
theorem seatsReached_zeroed (s : State) : (seatsReached (seatZeroing s)).drive.valid = true ∧
    ∀ k, ((seatsReached (seatZeroing s)).drive.towers.get k).count = 0 := by
  have zeroed (t : State) : (seatZeroing t).drive.valid = true ∧ ∀ k, ((seatZeroing t).drive.towers.get k).count = 0 := by
    unfold seatZeroing
    dsimp only
    split <;> exact ⟨rfl, fun k => by cases k <;> rfl⟩
  unfold seatsReached
  split
  · obtain ⟨valid, count⟩ := zeroed (setSeq .locking (seatZeroing s))
    exact ⟨valid, count⟩
  · exact zeroed s

/-- A LOWER or DESCENT that finds the span seated gives the direction line DOWN (R151, R165). -/
theorem commands_turn_down (s : State) (arms : allArmsDown s = true) (seats : seated s = true) :
    (lowerSpan s).drive.direction = .down ∧ (descend s).drive.direction = .down := by
  have not_ : ¬ (!allArmsDown s) = true := by
    rw [arms]
    decide
  unfold lowerSpan descend
  rw [if_neg not_, if_pos seats, if_neg not_, if_pos seats]
  have turned : (turnDown (endMotion s)).drive.offSeat.direction = .down := rfl
  exact ⟨(congrArg Drive.direction (offSeat_seatsReached (turnDown (endMotion s))) :).trans turned,
    (congrArg Drive.direction ((offSeat_seatsReached (seatZeroing (turnDown (endMotion s)))).trans
      (offSeat_seatZeroing (turnDown (endMotion s)))) :).trans turned⟩

/-! ## LOWER (R153, R155) -/

theorem positionSample_lower {s : State} (motion : s.drive.motion = .lower) (running : s.drive.phase = some .running)
    (stop : s.drive.stopAsked = false) (none_ : faultsAtSample s = []) : positionSample s = readStanding
      (if seatMissing (filtered s) (sampleNoted s) then foundFaults [.seatMissing] (sampleNoted s)
       else if bothStopped (seatStops (filtered s) (sampleNoted s)) then
         seatsReached (endMotion (seatStops (filtered s) (sampleNoted s)))
       else setReferences (stepProfile (seatStops (filtered s) (sampleNoted s)))) := by
  rw [positionSample_quiet none_ stop]
  change readStanding (sampleMotion (filtered s) (sampleNoted s)) = _
  unfold sampleMotion sampleLower
  rw [sampleNoted_motion, motion, sampleNoted_phase, running]
  dsimp only
  rw [if_pos (beq_self_eq_true _)]
  rfl

theorem seatMissing_iff (s : State) : seatMissing (filtered s) (sampleNoted s) = true ↔
    ∃ k, (s.drive.towers.get k).stopped = false ∧ RawInputs.seat (filtered s) k = false ∧
      ((computePositions s).drive.towers.get k).position < -100 := by
  have stopped (k : Tower) : ((sampleNoted s).drive.towers.get k).stopped = (s.drive.towers.get k).stopped :=
    (sampleStart_moving s k).1
  have position (k : Tower) : ((sampleNoted s).drive.towers.get k).position =
      ((computePositions s).drive.towers.get k).position := position_sampleStart s k
  unfold seatMissing
  simp only [List.any_eq_true, Bool.and_eq_true, Bool.not_eq_true', decide_eq_true_eq, stopped, position, and_assoc]
  refine ⟨fun ⟨k, _, h⟩ => ⟨k, h⟩, fun ⟨k, h⟩ => ⟨k, ?_, h⟩⟩
  cases k <;> decide

/-- A tower on its way through the seat stops, as the sample found it. -/
theorem seatStops_noted (s : State) (k : Tower) :
    ((s.drive.towers.get k).stopped = true ∨ RawInputs.seat (filtered s) k = true →
      ((seatStops (filtered s) (sampleNoted s)).drive.towers.get k).stopped = true) ∧
    ((s.drive.towers.get k).stopped = false → RawInputs.seat (filtered s) k = true →
      ((seatStops (filtered s) (sampleNoted s)).drive.towers.get k).released = false ∧
      ((seatStops (filtered s) (sampleNoted s)).drive.towers.get k).reference = 0) ∧
    ((s.drive.towers.get k).stopped = false → RawInputs.seat (filtered s) k = false →
      ((seatStops (filtered s) (sampleNoted s)).drive.towers.get k).stopped = false ∧
      ((seatStops (filtered s) (sampleNoted s)).drive.towers.get k).released = (s.drive.towers.get k).released ∧
      ((seatStops (filtered s) (sampleNoted s)).drive.towers.get k).reference = (s.drive.towers.get k).reference) := by
  obtain ⟨stopped, released, reference⟩ := sampleStart_moving s k
  have noted : ((sampleNoted s).drive.towers.get k).stopped = (s.drive.towers.get k).stopped := stopped
  refine ⟨fun h => ?_, fun moving seat => ?_, fun moving seat => ?_⟩
  · rw [seatStops_stopped, noted]
    exact h
  · rw [seatStops_tower, if_pos ⟨noted.trans moving, seat⟩]
    exact ⟨rfl, rfl⟩
  · rw [seatStops_tower, if_neg (fun c => Bool.noConfusion (c.2.symm.trans seat))]
    exact ⟨stopped.trans moving, released, reference⟩

theorem lower_goes_on {s : State} (motion : s.drive.motion = .lower) (running : s.drive.phase = some .running)
    (stop : s.drive.stopAsked = false) (none_ : faultsAtSample s = [])
    (above : seatMissing (filtered s) (sampleNoted s) = false)
    (moving : ∃ k, (s.drive.towers.get k).stopped = false ∧ RawInputs.seat (filtered s) k = false) :
    ∃ u, exec .positionSample s = .next (settle u) ∧ u.seq = s.seq ∧ u.drive.motion = .lower ∧
      u.drive.phase = some .running ∧
      u.drive.profile = (if s.params.creepDistance < spanPosition (computePositions s) then
          min s.params.travelSpeed (s.drive.profile + s.params.rampStep)
        else max s.params.creepSpeed (s.drive.profile - s.params.rampStep)) ∧
      ∀ k, ((s.drive.towers.get k).stopped = true ∨ RawInputs.seat (filtered s) k = true →
          (u.drive.towers.get k).stopped = true ∧ (u.drive.towers.get k).reference = 0) ∧
        ((s.drive.towers.get k).stopped = false → RawInputs.seat (filtered s) k = true →
          (u.drive.towers.get k).released = false) ∧
        ((s.drive.towers.get k).stopped = false → RawInputs.seat (filtered s) k = false →
          (u.drive.towers.get k).stopped = false ∧
          (u.drive.towers.get k).released = (s.drive.towers.get k).released ∧
          (0 ≤ u.drive.profile → 0 ≤ s.params.trimGain →
            u.drive.profile ≤ 4 * (u.drive.towers.get k).reference ∧
            (u.drive.towers.get k).reference ≤ u.drive.profile)) ∧
        (u.drive.towers.get k).reference = trimReference false u.drive.profile s.params.trimBand
          s.params.trimGain (skew (computePositions s)) (stoppedTowers u) k := by
  have sample := positionSample_lower motion running stop none_
  have noted (k : Tower) : ((sampleNoted s).drive.towers.get k).stopped = (s.drive.towers.get k).stopped :=
    (sampleStart_moving s k).1
  have some_ : bothStopped (seatStops (filtered s) (sampleNoted s)) = false := by
    rw [← moving_iff]
    simpa only [noted] using moving
  rw [above, if_neg (by decide), some_, if_neg (by decide)] at sample
  have at_seat := seatStops_noted s
  have frame := (seatStops_frame (filtered s) (sampleNoted s))
  have position (k : Tower) := seatStops_position (filtered s) (sampleNoted s) k
  generalize seatStops (filtered s) (sampleNoted s) = l at sample at_seat frame position
  have span : spanPosition l = spanPosition (computePositions s) :=
    (congrArg₂ (fun a b : Int => (a + b) / 2) (position .w) (position .e)).trans (spanPosition_sampleNoted s)
  have skewed : skew l = skew (computePositions s) :=
    (congrArg₂ (· - ·) (position .w) (position .e)).trans (skew_sampleNoted s)
  have motion_l : l.drive.motion = .lower :=
    (congrArg (·.drive.motion) frame :).trans ((sampleNoted_motion s).trans motion)
  have params : l.params = s.params := (congrArg (·.params) frame :).trans (sampleNoted_params s)
  have references (k : Tower) : ((positionSample s).drive.towers.get k).reference =
      trimReference false (positionSample s).drive.profile s.params.trimBand s.params.trimGain
        (skew (computePositions s)) (stoppedTowers (positionSample s)) k := by
    have trim := referenceOf_eq (s := stepProfile l) (.inr motion_l) k
    rw [show skew (stepProfile l) = skew (computePositions s) from skewed,
      show (stepProfile l).params = s.params from params,
      show (stepProfile l).drive.motion = .lower from motion_l] at trim
    rw [sample]
    exact (setReferences_reference _ k).trans trim
  have tower (k : Tower) : ((positionSample s).drive.towers.get k).stopped = (l.drive.towers.get k).stopped ∧
      ((positionSample s).drive.towers.get k).released = (l.drive.towers.get k).released := by
    rw [sample]
    cases k <;> exact ⟨rfl, rfl⟩
  have standing (k : Tower) : (stoppedTowers (positionSample s)).get k = (l.drive.towers.get k).stopped := by
    rw [← (tower k).1]
    cases k <;> rfl
  refine ⟨positionSample s, rfl, ?_, ?_, ?_, ?_, fun k => ⟨fun h => ?_, fun h seat => ?_, fun h seat => ?_, references k⟩⟩
  · rw [sample]
    exact (congrArg (·.seq) frame :).trans (sampleNoted_seq s)
  · rw [sample]
    exact motion_l
  · rw [sample]
    exact (congrArg (·.drive.phase) frame :).trans ((sampleNoted_phase s).trans running)
  · have go : distanceToGo l = spanPosition (computePositions s) := by
      unfold distanceToGo
      rw [motion_l]
      exact span
    have profile := stepProfile_profile l _ go
    rw [params, show l.drive.profile = s.drive.profile from
      (congrArg (·.drive.profile) frame :).trans (sampleNoted_profile s)] at profile
    rw [sample]
    exact profile
  · have stopped := (at_seat k).1 h
    refine ⟨(tower k).1.trans stopped, ?_⟩
    rw [references k]
    exact if_pos ((standing k).trans stopped)
  · exact (tower k).2.trans ((at_seat k).2.1 h seat).1
  · obtain ⟨stopped, released, -⟩ := (at_seat k).2.2 h seat
    refine ⟨(tower k).1.trans stopped, (tower k).2.trans released, fun hp hg => ?_⟩
    rw [references k]
    exact trimReference_bounds false _ hp hg ((standing k).trans stopped)

theorem lower_ends {s : State} (motion : s.drive.motion = .lower) (running : s.drive.phase = some .running)
    (stop : s.drive.stopAsked = false) (none_ : faultsAtSample s = [])
    (above : seatMissing (filtered s) (sampleNoted s) = false)
    (seats : ∀ k, (s.drive.towers.get k).stopped = true ∨ RawInputs.seat (filtered s) k = true) :
    ∃ u, exec .positionSample s = .next (settle u) ∧ u.drive.motion = .none ∧
      (∀ k, (u.drive.towers.get k).released = false ∧ (u.drive.towers.get k).reference = 0) ∧
      u.seq.state = (if s.seq.state = .lowering ∨ s.seq.state = .recovering then .locking else s.seq.state) := by
  have sample := positionSample_lower motion running stop none_
  have all_ : bothStopped (seatStops (filtered s) (sampleNoted s)) = true := by
    rw [bothStopped_seatStops]
    intro k
    rw [show ((sampleNoted s).drive.towers.get k).stopped = (s.drive.towers.get k).stopped from
      (sampleStart_moving s k).1]
    exact seats k
  rw [above, if_neg (by decide), if_pos all_] at sample
  have seq : (endMotion (seatStops (filtered s) (sampleNoted s))).seq = s.seq :=
    (congrArg (·.seq) (seatStops_frame (filtered s) (sampleNoted s)) :).trans (sampleNoted_seq s)
  generalize seatStops (filtered s) (sampleNoted s) = l at sample seq
  have rested : Rested (seatsReached (endMotion l)) := rested_of_offSeat (offSeat_seatsReached _) (rested_endMotion l)
  obtain ⟨rest, -, brakes⟩ := rested_of_drive (t := positionSample s) (s := seatsReached (endMotion l))
    (by rw [sample]; rfl) rested
  have state := seatsReached_state (endMotion l)
  rw [seq] at state
  refine ⟨positionSample s, rfl, rest, brakes, ?_⟩
  rw [sample]
  exact state

/-! ## The faults reported (R157, R160) -/

/-- A fault report is taken by the sequence controller, whatever the readings at the channel unit. -/
theorem positionSample_reports {s : State} {c : FaultCause} (h : c ∈ faultsAtSample s) :
    FaultReported c s (positionSample s) := by
  rw [positionSample_fault (List.ne_nil_of_mem h)]
  have seq := sampleStart_seq s
  exact faultReported_congr (t := sampleStart s) (congrArg Sequence.state seq) (congrArg Sequence.heldPhase seq)
    (congrArg Sequence.causes seq) (foundFaults_reported h (sampleStart s))

/-- What R157 and R159 have a sample find, in the state it starts from. -/
def FoundAtSample (s : State) (c : FaultCause) : Prop :=
  (c = .overtravel ∧ (∃ k, RawInputs.upperLimit (filtered s) k = true ∧ (s.drive.towers.get k).limitBefore = false)) ∨
    (s.drive.phase = some .running ∧ (s.drive.motion = .raise ∨ s.drive.motion = .lower) ∧
      (c = .skew ∧ s.params.skewLimit ≤ |skew (computePositions s)| ∨
        c = .positionRange ∧ outOfRange (computePositions s) = true ∨
        c = .level ∧ RawInputs.level (filtered s) = false ∨
        c = .stall ∧ ∃ k, stalled (stepAnchor ((computePositions s).drive.towers.get k)) = true)) ∨
    (s.drive.phase = some .running ∧ s.drive.motion = .descent ∧ c = .level ∧ RawInputs.level (filtered s) = false) ∨
    (s.drive.phase = some .running ∧ s.drive.motion = .jog ∧
      (c = .level ∧ RawInputs.level (filtered s) = false ∧ (∃ j, s.drive.jog = some j ∧ j.levelMade = true) ∨
        c = .positionRange ∧ outOfRange (computePositions s) = true ∧ s.drive.valid = true ∧
          s.seq.state = .faultHold))

theorem mem_motionFaults {s : State} {c : FaultCause} (running : s.drive.phase = some .running)
    (motion : s.drive.motion = .raise ∨ s.drive.motion = .lower)
    (h : c = .skew ∧ s.params.skewLimit ≤ |skew (computePositions s)| ∨
      c = .positionRange ∧ outOfRange (computePositions s) = true ∨
      c = .level ∧ RawInputs.level (filtered s) = false ∨
      c = .stall ∧ ∃ k, stalled (stepAnchor ((computePositions s).drive.towers.get k)) = true) :
    c ∈ motionFaults (filtered s) (sampleStart s) := by
  unfold motionFaults
  rw [skew_sampleStart, outOfRange_sampleStart, sampleStart_params]
  rcases h with ⟨rfl, h⟩ | ⟨rfl, h⟩ | ⟨rfl, h⟩ | ⟨rfl, k, h⟩
  · simp [h]
  · simp [h]
  · simp [h]
  · have here := (sampleStart_stalled running motion k).trans h
    have either : (stalled (sampleStart s).drive.towers.w || stalled (sampleStart s).drive.towers.e) = true := by
      cases k with
      | w => rw [show stalled (sampleStart s).drive.towers.w = true from here, Bool.true_or]
      | e => rw [show stalled (sampleStart s).drive.towers.e = true from here, Bool.or_true]
    rw [if_pos either]
    simp

theorem mem_faultsAtSample {s : State} {c : FaultCause} (h : FoundAtSample s c) : c ∈ faultsAtSample s := by
  unfold faultsAtSample
  rw [List.mem_append]
  rcases h with ⟨rfl, h⟩ | ⟨running, motion, h⟩ | ⟨running, motion, rfl, level⟩ | ⟨running, motion, h⟩
  · rw [if_pos ((overtravelled_iff s).mpr h)]
    exact .inl (List.mem_singleton_self _)
  · rw [sampleFaults_running running motion]
    exact .inr (mem_motionFaults running motion h)
  · right
    unfold sampleFaults
    rw [sampleStart_phase, sampleStart_motion, running, motion, if_pos (beq_self_eq_true _)]
    simp [level]
  · right
    unfold sampleFaults
    rw [sampleStart_phase, sampleStart_motion, running, motion, if_pos (beq_self_eq_true _)]
    dsimp only
    unfold jogFaults
    rw [sampleStart_jog, sampleStart_valid, sampleStart_seq, outOfRange_sampleStart]
    rcases h with ⟨rfl, level, j, jog, made⟩ | ⟨rfl, range, valid, held⟩
    · simp [jog, made, level]
    · simp [range, valid, held]

/-! ## A motion that does not run, a DESCENT and a JOG -/

theorem sampleFaults_still {s : State} (still : s.drive.phase ≠ some .running) :
    sampleFaults (filtered s) (sampleStart s) = [] := by
  unfold sampleFaults
  rw [sampleStart_phase]
  exact if_neg (by simpa using still)

theorem still_goes_on {s : State} (motion : s.drive.motion = .raise ∨ s.drive.motion = .lower)
    (still : s.drive.phase ≠ some .running) (stop : s.drive.stopAsked = false)
    (limits : ∀ k, RawInputs.upperLimit (filtered s) k = true → (s.drive.towers.get k).limitBefore = true) :
    ∃ u, exec .positionSample s = .next (settle u) ∧ u.seq = s.seq ∧ u.drive.motion = s.drive.motion ∧
      u.drive.phase = s.drive.phase ∧
      ∀ k, (u.drive.towers.get k).released = (s.drive.towers.get k).released ∧
        (u.drive.towers.get k).reference = (s.drive.towers.get k).reference := by
  have none_ := faultsAtSample_none (overtravelled_of_remembered limits) (sampleFaults_still still)
  have sample : positionSample s = readStanding (sampleNoted s) := by
    rw [positionSample_quiet none_ stop]
    change readStanding (sampleMotion (filtered s) (sampleNoted s)) = _
    have rests : ¬ (s.drive.phase == some .running) = true := by simpa using still
    unfold sampleMotion
    rw [sampleNoted_motion, sampleNoted_phase]
    rcases motion with h | h <;> rw [h] <;> exact congrArg readStanding (if_neg rests)
  refine ⟨positionSample s, rfl, ?_⟩
  rw [sample]
  exact ⟨sampleNoted_seq s, sampleNoted_motion s, sampleNoted_phase s, fun k => (sampleStart_moving s k).2⟩

/-- A DESCENT that a sample finds without fault. -/
theorem positionSample_descent {s : State} (motion : s.drive.motion = .descent) (stop : s.drive.stopAsked = false)
    (limits : ∀ k, RawInputs.upperLimit (filtered s) k = true → (s.drive.towers.get k).limitBefore = true)
    (level : s.drive.phase = some .running → RawInputs.level (filtered s) = true) : positionSample s = readStanding
      (if bothStopped (seatStops (filtered s) (sampleNoted s)) then
         seatsReached (seatZeroing (endMotion (seatStops (filtered s) (sampleNoted s))))
       else seatStops (filtered s) (sampleNoted s)) := by
  have faults : sampleFaults (filtered s) (sampleStart s) = [] := by
    by_cases running : s.drive.phase = some .running
    · unfold sampleFaults
      rw [sampleStart_phase, sampleStart_motion, running, motion, if_pos (beq_self_eq_true _)]
      simp [level running]
    · exact sampleFaults_still running
  rw [positionSample_quiet (faultsAtSample_none (overtravelled_of_remembered limits) faults) stop]
  change readStanding (sampleMotion (filtered s) (sampleNoted s)) = _
  unfold sampleMotion
  rw [sampleNoted_motion, motion]
  rfl

theorem descent_goes_on {s : State} (motion : s.drive.motion = .descent) (stop : s.drive.stopAsked = false)
    (limits : ∀ k, RawInputs.upperLimit (filtered s) k = true → (s.drive.towers.get k).limitBefore = true)
    (level : s.drive.phase = some .running → RawInputs.level (filtered s) = true)
    (moving : ∃ k, (s.drive.towers.get k).stopped = false ∧ RawInputs.seat (filtered s) k = false) :
    ∃ u, exec .positionSample s = .next (settle u) ∧ u.seq = s.seq ∧ u.drive.motion = .descent ∧
      u.drive.phase = s.drive.phase ∧
      ∀ k, ((s.drive.towers.get k).stopped = true ∨ RawInputs.seat (filtered s) k = true →
          (u.drive.towers.get k).stopped = true) ∧
        ((s.drive.towers.get k).stopped = false → RawInputs.seat (filtered s) k = true →
          (u.drive.towers.get k).released = false ∧ (u.drive.towers.get k).reference = 0) ∧
        ((s.drive.towers.get k).stopped = false → RawInputs.seat (filtered s) k = false →
          (u.drive.towers.get k).released = (s.drive.towers.get k).released ∧
          (u.drive.towers.get k).reference = (s.drive.towers.get k).reference) := by
  have sample := positionSample_descent motion stop limits level
  have some_ : bothStopped (seatStops (filtered s) (sampleNoted s)) = false := by
    rw [← moving_iff]
    obtain ⟨k, h, seat⟩ := moving
    exact ⟨k, (sampleStart_moving s k).1.trans h, seat⟩
  rw [some_, if_neg (by decide)] at sample
  have frame := seatStops_frame (filtered s) (sampleNoted s)
  refine ⟨positionSample s, rfl, ?_⟩
  rw [sample]
  refine ⟨(congrArg (·.seq) frame :).trans (sampleNoted_seq s),
    (congrArg (·.drive.motion) frame :).trans ((sampleNoted_motion s).trans motion),
    (congrArg (·.drive.phase) frame :).trans (sampleNoted_phase s), fun k => ?_⟩
  obtain ⟨stops, brakes, kept⟩ := seatStops_noted s k
  exact ⟨stops, brakes, fun h seat => (kept h seat).2⟩

theorem descent_ends {s : State} (motion : s.drive.motion = .descent) (stop : s.drive.stopAsked = false)
    (limits : ∀ k, RawInputs.upperLimit (filtered s) k = true → (s.drive.towers.get k).limitBefore = true)
    (level : s.drive.phase = some .running → RawInputs.level (filtered s) = true)
    (seats : ∀ k, (s.drive.towers.get k).stopped = true ∨ RawInputs.seat (filtered s) k = true) :
    ∃ u, exec .positionSample s = .next (settle u) ∧ u.drive.motion = .none ∧
      (∀ k, (u.drive.towers.get k).released = false ∧ (u.drive.towers.get k).reference = 0) ∧
      u.drive.valid = true ∧ (∀ k, (u.drive.towers.get k).count = 0) ∧
      u.seq.state = (if s.seq.state = .lowering ∨ s.seq.state = .recovering then .locking else s.seq.state) := by
  have sample := positionSample_descent motion stop limits level
  have all_ : bothStopped (seatStops (filtered s) (sampleNoted s)) = true := by
    rw [bothStopped_seatStops]
    intro k
    rw [show ((sampleNoted s).drive.towers.get k).stopped = (s.drive.towers.get k).stopped from
      (sampleStart_moving s k).1]
    exact seats k
  rw [if_pos all_] at sample
  have seq : (endMotion (seatStops (filtered s) (sampleNoted s))).seq = s.seq :=
    (congrArg (·.seq) (seatStops_frame (filtered s) (sampleNoted s)) :).trans (sampleNoted_seq s)
  generalize seatStops (filtered s) (sampleNoted s) = l at sample seq
  have zeroed : (seatZeroing (endMotion l)).seq = s.seq := by
    rw [← seq]
    unfold seatZeroing
    dsimp only
    split <;> rfl
  obtain ⟨valid, count⟩ := seatsReached_zeroed (endMotion l)
  have rested : Rested (seatsReached (seatZeroing (endMotion l))) :=
    rested_of_offSeat ((offSeat_seatsReached _).trans (offSeat_seatZeroing _)) (rested_endMotion l)
  have state := seatsReached_state (seatZeroing (endMotion l))
  rw [zeroed] at state
  generalize seatsReached (seatZeroing (endMotion l)) = r at sample rested state valid count
  obtain ⟨rest, -, brakes⟩ := rested
  refine ⟨positionSample s, rfl, ?_⟩
  rw [sample]
  exact ⟨rest, brakes, valid, count, state⟩

/-- What a jog is judged by stands as the positions computed have it (R166, R168). -/
theorem jogAllowed_sampleNoted (t : Tower) (dir : Vertical) (s : State) :
    jogAllowed t dir (sampleNoted s) = jogAllowed t dir (computePositions s) := by
  have frame : sampleNoted s = { computePositions s with drive := { (computePositions s).drive with
      jog := (sampleNoted s).drive.jog, towers := (sampleNoted s).drive.towers } } := by
    rw [sampleNoted_frame, sampleStart_frame]
    rfl
  have skewed := skew_sampleNoted s
  generalize sampleNoted s = n at frame skewed
  unfold jogAllowed
  rw [skewed]
  rw [frame]
  rfl

theorem positionSample_jog {s : State} {j : Jog} (motion : s.drive.motion = .jog) (jog : s.drive.jog = some j)
    (stop : s.drive.stopAsked = false)
    (limits : ∀ k, RawInputs.upperLimit (filtered s) k = true → (s.drive.towers.get k).limitBefore = true)
    (quiet : s.drive.phase = some .running → (j.levelMade = true → RawInputs.level (filtered s) = true) ∧
      (s.drive.valid = true → s.seq.state = .faultHold → outOfRange (computePositions s) = false)) :
    positionSample s = readStanding
      (if jogState (computePositions s) && jogAllowed j.tower j.direction (computePositions s) then sampleNoted s
       else endMotion (sampleNoted s)) := by
  have faults : sampleFaults (filtered s) (sampleStart s) = [] := by
    by_cases running : s.drive.phase = some .running
    · obtain ⟨level, range⟩ := quiet running
      have made : ¬ (j.levelMade && !RawInputs.level (filtered s)) = true := by
        cases h : j.levelMade with
        | false => simp
        | true =>
          rw [level h]
          decide
      have inside : ¬ (s.drive.valid && s.seq.state == .faultHold && outOfRange (computePositions s)) = true := by
        rw [Bool.and_eq_true, Bool.and_eq_true, beq_iff_eq]
        rintro ⟨⟨valid, held⟩, out⟩
        exact Bool.noConfusion ((range valid held).symm.trans out)
      unfold sampleFaults
      rw [sampleStart_phase, sampleStart_motion, running, motion, if_pos (beq_self_eq_true _)]
      dsimp only
      unfold jogFaults
      rw [sampleStart_jog, sampleStart_valid, sampleStart_seq, outOfRange_sampleStart, jog, if_neg inside]
      dsimp only
      rw [if_neg made]
      rfl
    · exact sampleFaults_still running
  rw [positionSample_quiet (faultsAtSample_none (overtravelled_of_remembered limits) faults) stop]
  change readStanding (sampleMotion (filtered s) (sampleNoted s)) = _
  have noted : (sampleNoted s).drive.jog =
      some { j with levelMade := j.levelMade || RawInputs.level (filtered s) } := by
    have old := sampleStart_jog s
    rw [jog] at old
    exact (congrArg (Option.map fun j : Jog => { j with levelMade := j.levelMade || RawInputs.level (filtered s) }) old :)
  have state : jogState (sampleNoted s) = jogState (computePositions s) := by
    unfold jogState
    rw [sampleNoted_seq]
    rfl
  unfold sampleMotion sampleJog
  rw [sampleNoted_motion, motion, noted]
  dsimp only
  rw [state, jogAllowed_sampleNoted]

theorem jog_sampled {s : State} {j : Jog} (motion : s.drive.motion = .jog) (jog : s.drive.jog = some j)
    (stop : s.drive.stopAsked = false)
    (limits : ∀ k, RawInputs.upperLimit (filtered s) k = true → (s.drive.towers.get k).limitBefore = true)
    (quiet : s.drive.phase = some .running → (j.levelMade = true → RawInputs.level (filtered s) = true) ∧
      (s.drive.valid = true → s.seq.state = .faultHold → outOfRange (computePositions s) = false)) :
    (jogState (computePositions s) = true → jogAllowed j.tower j.direction (computePositions s) = true →
      ∃ u, exec .positionSample s = .next (settle u) ∧ u.seq = s.seq ∧ u.drive.motion = .jog ∧
        u.drive.jog = some { j with levelMade := j.levelMade || RawInputs.level (filtered s) }) ∧
    (jogState (computePositions s) = false ∨ jogAllowed j.tower j.direction (computePositions s) = false →
      ∃ u, exec .positionSample s = .next (settle u) ∧ u.seq = s.seq ∧ u.drive.motion = .none ∧
        u.drive.jog = none ∧
        (∀ k, (u.drive.towers.get k).released = false ∧ (u.drive.towers.get k).reference = 0)) := by
  have sample := positionSample_jog motion jog stop limits quiet
  refine ⟨fun state allowed => ⟨positionSample s, rfl, ?_⟩, fun refused => ⟨positionSample s, rfl, ?_⟩⟩
  · rw [state, allowed, Bool.and_self, if_pos rfl] at sample
    have old := sampleStart_jog s
    rw [jog] at old
    rw [sample]
    exact ⟨sampleNoted_seq s, (sampleNoted_motion s).trans motion,
      (congrArg (Option.map fun j : Jog => { j with levelMade := j.levelMade || RawInputs.level (filtered s) }) old :)⟩
  · rw [if_neg (by rcases refused with h | h <;> simp [h])] at sample
    obtain ⟨rest, noJog, brakes⟩ := rested_endMotion (sampleNoted s)
    rw [sample]
    exact ⟨sampleNoted_seq s, rest, noJog, brakes⟩

/-! ## O60 -/

/-- A LOWER that runs without a fault of R157. -/
theorem faultsAtSample_lower {s : State} (motion : s.drive.motion = .lower) (running : s.drive.phase = some .running)
    (level : RawInputs.level (filtered s) = true) (skewed : |skew (computePositions s)| < s.params.skewLimit)
    (range : outOfRange (computePositions s) = false)
    (limits : ∀ k, RawInputs.upperLimit (filtered s) k = true → (s.drive.towers.get k).limitBefore = true)
    (quiet : ∀ k, stalled (stepAnchor ((computePositions s).drive.towers.get k)) = false) : faultsAtSample s = [] :=
  faultsAtSample_none (overtravelled_of_remembered limits) ((sampleFaults_running running (.inr motion)).trans
    (motionFaults_none running (.inr motion) level skewed range quiet))

theorem lower_reports_seatMissing {s : State} (motion : s.drive.motion = .lower)
    (running : s.drive.phase = some .running) (stop : s.drive.stopAsked = false) (none_ : faultsAtSample s = [])
    (missing : seatMissing (filtered s) (sampleNoted s) = true) : FaultReported .seatMissing s (positionSample s) := by
  rw [positionSample_lower motion running stop none_, if_pos missing]
  have seq := sampleNoted_seq s
  exact faultReported_congr (t := sampleNoted s) (congrArg Sequence.state seq) (congrArg Sequence.heldPhase seq)
    (congrArg Sequence.causes seq) (foundFaults_reported (List.mem_singleton_self _) (sampleNoted s))

/-- Settles O60, by the motion of the sample and what it finds. -/
theorem positionSampleLowers : Obligations.PositionSampleLowers := by
  refine ⟨commands_turn_down, ?lower, ?faults, ?missing, ?still, ?descent, ?jog⟩
  case lower =>
    rintro s _ rfl motion running stop level skewed range limits quiet above
    have none_ := faultsAtSample_lower motion running level skewed range limits quiet
    have high : seatMissing (filtered s) (sampleNoted s) = false := by
      rw [← Bool.not_eq_true, seatMissing_iff]
      rintro ⟨k, moving, seat, low⟩
      exact absurd (above k moving seat) (Int.not_le.mpr low)
    exact ⟨lower_goes_on motion running stop none_ high, lower_ends motion running stop none_ high⟩
  case faults =>
    rintro s _ rfl
    exact ⟨positionSample s, rfl, fun c found => positionSample_reports (mem_faultsAtSample found)⟩
  case missing =>
    rintro s _ rfl motion running stop level skewed range limits quiet missing
    exact ⟨positionSample s, rfl, lower_reports_seatMissing motion running stop
      (faultsAtSample_lower motion running level skewed range limits quiet) ((seatMissing_iff s).mpr missing)⟩
  case still => exact fun s motion still stop limits => still_goes_on motion still stop limits
  case descent =>
    exact fun s motion stop limits level =>
      ⟨descent_goes_on motion stop limits level, descent_ends motion stop limits level⟩
  case jog =>
    rintro s _ j rfl motion jog stop limits quiet
    exact jog_sampled motion jog stop limits quiet

end Sys2Proof.Machine
end


section
/-!
The minute events (R22 to R25, R202, R204): what a visit, a sweep and a rise of the hold ages make of each entry.
-/

namespace Sys2Proof.Machine

/-! ## A pass over the entries -/

/-- A step at one index (of those that `P` allows) of a sound table, under the settings of `s0`: the entry becomes `F` of it, its stamp aside, and
the others keep all but their stamps. -/
def Treats (s0 : State) (P : Nat → Prop) (F : Entry → Entry) (g : State → Nat → State) : Prop :=
  ∀ s i, TableSound s → outer s = outer s0 → P i →
    TableSound (g s i) ∧ outer (g s i) = outer s0 ∧ unstamped (entryAt (g s i) i) = unstamped (F (entryAt s i)) ∧
      OthersKept i s (g s i)

/-- A change of an entry that goes by all but its stamp. -/
def Stampless (F : Entry → Entry) : Prop := ∀ e, unstamped (F (unstamped e)) = unstamped (F e)

theorem stampless_congr {F : Entry → Entry} (hF : Stampless F) {e f : Entry} (h : unstamped e = unstamped f) :
    unstamped (F e) = unstamped (F f) := by
  rw [← hF e, h, hF f]

/-- A pass treats each of its indexes once, and no other. -/
theorem foldl_treats {s0 : State} {P : Nat → Prop} {F : Entry → Entry} {g : State → Nat → State}
    (hg : Treats s0 P F g) (hF : Stampless F) {l : List Nat} (once : l.Nodup) (inside : ∀ i ∈ l, P i) {s : State} (hs : TableSound s)
    (same : outer s = outer s0) :
    TableSound (l.foldl g s) ∧ outer (l.foldl g s) = outer s0 ∧
      (∀ j ∈ l, unstamped (entryAt (l.foldl g s) j) = unstamped (F (entryAt s j))) ∧
      ∀ j, j ∉ l → unstamped (entryAt (l.foldl g s) j) = unstamped (entryAt s j) := by
  induction l generalizing s with
  | nil => exact ⟨hs, same, fun j hj => absurd hj List.not_mem_nil, fun _ _ => rfl⟩
  | cons i l ih =>
    obtain ⟨notAgain, once⟩ := List.nodup_cons.mp once
    obtain ⟨sound, settings, own, others⟩ := hg s i hs same (inside i List.mem_cons_self)
    obtain ⟨sound', settings', members, rest⟩ :=
      ih once (fun j hj => inside j (List.mem_cons_of_mem _ hj)) sound settings
    refine ⟨sound', settings', fun j hj => ?_, fun j hj => ?_⟩
    · rcases List.mem_cons.mp hj with rfl | hj
      · exact (rest j notAgain).trans own
      · have apart : j ≠ i := fun h => notAgain (h ▸ hj)
        exact (members j hj).trans (stampless_congr hF (others j apart))
    · obtain ⟨apart, hj⟩ := not_or.mp (mt List.mem_cons.mpr hj)
      exact (rest j hj).trans (others j apart)

/-! ## What stays the same through a pass -/

theorem params_of_outer {s t : State} (h : outer t = outer s) : t.params = s.params := congrArg Outer.params h

theorem tideHeld_of_outer {s t : State} (h : outer t = outer s) (air : Int) : tideHeld t air = tideHeld s air := by
  unfold tideHeld requiredLift
  rw [params_of_outer h, water_of_outer h]

theorem bounds_of_outer {s t : State} (h : outer t = outer s) : t.table.tb = s.table.tb ∧ t.table.qb = s.table.qb :=
  ⟨(congrArg (·.tableSize.1) h :), (congrArg (·.tableSize.2.1) h :)⟩

theorem kindOf_of_outer {s t : State} (h : outer t = outer s) (i : Nat) : kindOf t.table i = kindOf s.table i := by
  obtain ⟨tb, qb⟩ := bounds_of_outer h
  unfold kindOf
  rw [tb, qb]

theorem regionOf_of_outer {s t : State} (h : outer t = outer s) (k : Kind) : regionOf t.table k = regionOf s.table k := by
  obtain ⟨tb, qb⟩ := bounds_of_outer h
  unfold regionOf
  rw [tb, qb]

theorem concludeEntry_sound (i : Nat) (o : PassageOutcome) {s : State} (hs : TableSound s) :
    TableSound (concludeEntry i o s) := by
  have good (k : Kind) (m : Nat) (e : Entry) : (e.concludedAs k o m).codeGood = true := by cases k <;> rfl
  obtain ⟨he, hg, ge, gg⟩ := hs
  unfold TableSound
  rw [concludeEntry_table]
  refine ⟨by simpa using he, hg, fun e h => ?_, gg⟩
  rcases List.mem_or_eq_of_mem_set h with h | rfl
  · exact ge e h
  · exact good _ _ _

/-! ## The three outcomes of a step -/

/-- An entry made DUE, its stamp aside (R12). -/
def Entry.dueIn (s0 : State) (e : Entry) : Entry := { e with state := .due, tideHold := some (tideHeld s0 e.airDraft) }

theorem treated_same {s0 s : State} {i : Nat} (hs : TableSound s) (same : outer s = outer s0) :
    TableSound s ∧ outer s = outer s0 ∧ unstamped (entryAt s i) = unstamped (entryAt s i) ∧ OthersKept i s s :=
  ⟨hs, same, rfl, fun _ _ => rfl⟩

theorem treated_due {s0 s : State} {i : Nat} (hs : TableSound s) (same : outer s = outer s0) (hi : i < 64) :
    TableSound (becomeDue i s) ∧ outer (becomeDue i s) = outer s0 ∧
      unstamped (entryAt (becomeDue i s) i) = unstamped ((entryAt s i).dueIn s0) ∧ OthersKept i s (becomeDue i s) := by
  refine ⟨becomeDue_sound i hs, (outer_becomeDue i s).trans same, ?_, becomeDue_others i hs⟩
  rw [entryAt_becomeDue hs hi, tideHeld_of_outer same]
  simp [unstamped, Entry.madeDue, Entry.dueIn, entryAt_good hs i]

theorem treated_written {s0 s : State} {i : Nat} {e f : Entry} (hs : TableSound s) (same : outer s = outer s0)
    (hi : i < 64) (he : unstamped { e with codeGood := true } = unstamped f) :
    TableSound (writeEntry i e s) ∧ outer (writeEntry i e s) = outer s0 ∧
      unstamped (entryAt (writeEntry i e s) i) = unstamped f ∧ OthersKept i s (writeEntry i e s) := by
  refine ⟨writeEntry_sound i e hs, (outer_writeEntry i e s).trans same, ?_, fun j hj => ?_⟩
  · rw [entryAt_writeEntry _ _ _ (by rw [hs.1]; exact hi), he]
  · rw [entryAt_writeEntry_ne _ _ _ _ hj]

theorem treated_concluded {s0 s : State} {i : Nat} (o : PassageOutcome) (hs : TableSound s) (same : outer s = outer s0)
    (hi : i < 64) :
    TableSound (concludeEntry i o s) ∧ outer (concludeEntry i o s) = outer s0 ∧
      unstamped (entryAt (concludeEntry i o s) i) =
        unstamped ((entryAt s i).concludedAs (kindOf s0.table i) o s0.clock.minute) ∧
      OthersKept i s (concludeEntry i o s) := by
  refine ⟨concludeEntry_sound i o hs, (outer_concludeEntry i o s).trans same, ?_, fun j hj => ?_⟩
  · rw [entryAt_concludeEntry _ (by rw [hs.1]; exact hi), kindOf_of_outer same, clock_of_outer same]
  · rw [entryAt_concludeEntry_ne _ _ hj]

/-! ## The passes (R23 to R25) -/

/-- A booked entry at a visited minute (R23). -/
def bookedVisit (s0 : State) (m : Nat) (e : Entry) : Entry :=
  if e.state = .pending ∧ e.earliest = some m then
    { e with state := .due, tideHold := some (tideHeld s0 e.airDraft) }
  else if (e.state = .pending ∨ e.state = .due) ∧ e.latest = some m then
    { e with
      state := .concluded, outcome := some .lapsed, concludedMinute := some s0.clock.minute,
      holdAge := some 0, tideHold := none, lapseMark := none, openingNumber := none }
  else if e.state.inOpening = true ∧ e.latest = some m then { e with lapseMark := some true }
  else e

/-- A timetable entry in the lapse pass (R24). -/
def timetableLapse (e : Entry) : Entry :=
  if e.state = .due then
    { e with
      state := .pending, lastOutcome := some .lapsed, tideHold := none, lapseMark := none, openingNumber := none }
  else if e.state.inOpening = true then { e with lapseMark := some true } else e

/-- A timetable entry in the recurrence pass (R24, R25). -/
def timetableRecur (s0 : State) (m : Nat) (f : Entry) : Entry :=
  if f.state = .pending ∧ f.recurrence.any (fun r => m / 15 % r.2 == r.1) = true then
    if f.skip = some true then { f with skip := some false }
    else { f with state := .due, tideHold := some (tideHeld s0 f.airDraft) }
  else f

/-- A booked entry in the sweep (R25). -/
def bookedSweep (s0 : State) (m : Nat) (f : Entry) : Entry :=
  if f.state = .pending ∧ f.earliest.any (fun n => decide ((m + 1440 - n) % 1440 <
      match f.latest with | some z => (z + 1440 - n) % 1440 | none => 720)) = true then
    { f with state := .due, tideHold := some (tideHeld s0 f.airDraft) }
  else f

theorem stampless_bookedVisit (s0 : State) (m : Nat) : Stampless (bookedVisit s0 m) := fun e => by
  unfold bookedVisit
  split_ifs <;> first | rfl | contradiction

theorem stampless_timetableLapse : Stampless timetableLapse := fun e => by
  unfold timetableLapse
  split_ifs <;> first | rfl | contradiction

theorem stampless_timetableRecur (s0 : State) (m : Nat) : Stampless (timetableRecur s0 m) := fun e => by
  unfold timetableRecur
  split_ifs <;> first | rfl | contradiction

theorem stampless_bookedSweep (s0 : State) (m : Nat) : Stampless (bookedSweep s0 m) := fun e => by
  unfold bookedSweep
  split_ifs <;> first | rfl | contradiction

theorem treats_visitBooked (s0 : State) (m : Nat) :
    Treats s0 (fun i => i < 64 ∧ s0.table.tb ≤ i) (bookedVisit s0 m) (visitBooked m) := by
  rintro s i hs same ⟨hi, ht⟩
  unfold visitBooked bookedVisit
  simp only [verifyEntry_good i s (entryAt_good hs i), Bool.and_eq_true, Bool.or_eq_true, beq_iff_eq]
  by_cases starts : (entryAt s i).state = .pending ∧ (entryAt s i).earliest = some m
  · rw [if_pos starts, if_pos starts]
    exact treated_due hs same hi
  · rw [if_neg starts, if_neg starts]
    by_cases lapses : ((entryAt s i).state = .pending ∨ (entryAt s i).state = .due) ∧ (entryAt s i).latest = some m
    · rw [if_pos lapses, if_pos lapses]
      obtain ⟨sound, settings, own, others⟩ := treated_concluded (i := i) .lapsed hs same hi
      rw [concludedAs_other _ (kindOf_ne_timetable ht)] at own
      refine ⟨sound, settings, own.trans ?_, others⟩
      simp [unstamped, entryAt_good hs i]
    · rw [if_neg lapses, if_neg lapses]
      by_cases marks : (entryAt s i).state.inOpening = true ∧ (entryAt s i).latest = some m
      · rw [if_pos marks, if_pos marks]
        exact treated_written hs same hi (by simp [unstamped, entryAt_good hs i])
      · rw [if_neg marks, if_neg marks]
        exact treated_same hs same

theorem treats_lapseTimetable (s0 : State) :
    Treats s0 (fun i => i < 64 ∧ i < s0.table.tb) timetableLapse lapseTimetable := by
  rintro s i hs same ⟨hi, ht⟩
  unfold lapseTimetable timetableLapse
  simp only [verifyEntry_good i s (entryAt_good hs i), beq_iff_eq]
  by_cases due : (entryAt s i).state = .due
  · rw [if_pos due, if_pos due]
    obtain ⟨sound, settings, own, others⟩ := treated_concluded (i := i) .lapsed hs same hi
    rw [concludedAs_timetable _ ((kindOf_eq_timetable_iff s0.table i).mpr ht)] at own
    refine ⟨sound, settings, own.trans ?_, others⟩
    simp [unstamped, entryAt_good hs i]
  · rw [if_neg due, if_neg due]
    by_cases opens : (entryAt s i).state.inOpening = true
    · rw [if_pos opens, if_pos opens]
      exact treated_written hs same hi (by simp [unstamped, entryAt_good hs i])
    · rw [if_neg opens, if_neg opens]
      exact treated_same hs same

theorem recurs_eq (e : Entry) (n : Nat) : recurs e n = e.recurrence.any (fun r => n % r.2 == r.1) := by
  unfold recurs
  cases e.recurrence <;> rfl

theorem treats_recurTimetable (s0 : State) (m : Nat) :
    Treats s0 (· < 64) (timetableRecur s0 m) (recurTimetable (m / 15)) := by
  intro s i hs same hi
  unfold recurTimetable timetableRecur
  simp only [verifyEntry_good i s (entryAt_good hs i), Bool.and_eq_true, beq_iff_eq, recurs_eq]
  by_cases here : (entryAt s i).state = .pending ∧
      (entryAt s i).recurrence.any (fun r => m / 15 % r.2 == r.1) = true
  · rw [if_pos here, if_pos here]
    by_cases skips : (entryAt s i).skip = some true
    · rw [if_pos skips, if_pos skips]
      exact treated_written hs same hi (by simp [unstamped, entryAt_good hs i])
    · rw [if_neg skips, if_neg skips]
      exact treated_due hs same hi
  · rw [if_neg here, if_neg here]
    exact treated_same hs same

theorem windowContains_any (e : Entry) (m : Nat) : windowContains e m =
    e.earliest.any (fun n => decide ((m + 1440 - n) % 1440 <
      match e.latest with | some z => (z + 1440 - n) % 1440 | none => 720)) := by
  unfold windowContains
  cases e.earliest with
  | none => rfl
  | some n => cases e.latest <;> rfl

theorem treats_sweepBooked (s0 : State) (m : Nat) : Treats s0 (· < 64) (bookedSweep s0 m) (sweepBooked m) := by
  intro s i hs same hi
  unfold sweepBooked bookedSweep
  simp only [verifyEntry_good i s (entryAt_good hs i), Bool.and_eq_true, beq_iff_eq, windowContains_any]
  by_cases here : (entryAt s i).state = .pending ∧ (entryAt s i).earliest.any (fun n => decide ((m + 1440 - n) % 1440 <
      match (entryAt s i).latest with | some z => (z + 1440 - n) % 1440 | none => 720)) = true
  · rw [if_pos here, if_pos here]
    exact treated_due hs same hi
  · rw [if_neg here, if_neg here]
    exact treated_same hs same

/-! ## The regions as lists -/

theorem mem_booked {t : Table} {i : Nat} : i ∈ regionOf t .booked ↔ t.tb ≤ i ∧ i < t.qb := by
  simp only [regionOf, List.mem_range'_1]
  omega

theorem mem_timetable {t : Table} {i : Nat} : i ∈ regionOf t .timetable ↔ i < t.tb := List.mem_range

theorem nodup_booked (t : Table) : (regionOf t .booked).Nodup := List.nodup_range'
theorem nodup_timetable (t : Table) : (regionOf t .timetable).Nodup := List.nodup_range

/-- The passes of a visit and of the sweep, each over its region. -/
theorem pass_booked {s0 : State} {F : Entry → Entry} {g : State → Nat → State} {P : Nat → Prop}
    (hg : Treats s0 P F g) (hF : Stampless F) (inside : ∀ i, s0.table.tb ≤ i → i < s0.table.qb → P i)
    {s : State} (hs : TableSound s) (same : outer s = outer s0) :
    TableSound ((regionOf s.table .booked).foldl g s) ∧ outer ((regionOf s.table .booked).foldl g s) = outer s0 ∧
      ∀ j, unstamped (entryAt ((regionOf s.table .booked).foldl g s) j) =
        if s0.table.tb ≤ j ∧ j < s0.table.qb then unstamped (F (entryAt s j)) else unstamped (entryAt s j) := by
  rw [regionOf_of_outer same]
  obtain ⟨sound, settings, members, rest⟩ := foldl_treats hg hF (nodup_booked s0.table)
    (fun i hi => inside i (mem_booked.mp hi).1 (mem_booked.mp hi).2) hs same
  refine ⟨sound, settings, fun j => ?_⟩
  split
  · next h => exact members j (mem_booked.mpr h)
  · next h => exact rest j (mt mem_booked.mp h)

theorem pass_timetable {s0 : State} {F : Entry → Entry} {g : State → Nat → State} {P : Nat → Prop}
    (hg : Treats s0 P F g) (hF : Stampless F) (inside : ∀ i, i < s0.table.tb → P i)
    {s : State} (hs : TableSound s) (same : outer s = outer s0) {l : List Nat} (hl : l = regionOf s0.table .timetable) :
    TableSound (l.foldl g s) ∧ outer (l.foldl g s) = outer s0 ∧
      ∀ j, unstamped (entryAt (l.foldl g s) j) =
        if j < s0.table.tb then unstamped (F (entryAt s j)) else unstamped (entryAt s j) := by
  subst hl
  obtain ⟨sound, settings, members, rest⟩ := foldl_treats hg hF (nodup_timetable s0.table)
    (fun i hi => inside i (mem_timetable.mp hi)) hs same
  refine ⟨sound, settings, fun j => ?_⟩
  split
  · next h => exact members j (mem_timetable.mpr h)
  · next h => exact rest j (mt mem_timetable.mp h)

/-! ## A visited minute and the sweep -/

theorem visitMinute_entry {s : State} (m : Nat) (hs : TableSound s) (shaped : TableShaped s) (i : Nat) :
    (s.table.qb ≤ i ∨ i < s.table.tb ∧ m % 15 ≠ 0 →
      unstamped (entryAt (visitMinute m s) i) = unstamped (entryAt s i)) ∧
    (s.table.tb ≤ i → i < s.table.qb →
      unstamped (entryAt (visitMinute m s) i) = unstamped (bookedVisit s m (entryAt s i))) ∧
    (i < s.table.tb → m % 15 = 0 →
      unstamped (entryAt (visitMinute m s) i) = unstamped (timetableRecur s m (timetableLapse (entryAt s i)))) := by
  obtain ⟨-, -, ordered, size⟩ := shaped
  obtain ⟨sound1, settings1, booked⟩ := pass_booked (treats_visitBooked s m) (stampless_bookedVisit s m)
    (fun i h1 h2 => ⟨by omega, h1⟩) hs rfl
  unfold visitMinute
  dsimp only
  by_cases start : m % 15 = 0
  · rw [if_pos (beq_iff_eq.mpr start)]
    obtain ⟨sound2, settings2, lapsed⟩ := pass_timetable (treats_lapseTimetable s) stampless_timetableLapse
      (fun i h => ⟨by omega, h⟩) sound1 settings1 rfl
    obtain ⟨-, -, recurred⟩ := pass_timetable (treats_recurTimetable s m) (stampless_timetableRecur s m)
      (fun i h => by omega) sound2 settings2 rfl
    rw [recurred]
    refine ⟨fun h => ?_, fun h1 h2 => ?_, fun h _ => ?_⟩
    · have low : ¬ i < s.table.tb := by omega
      rw [if_neg low, lapsed, if_neg low, booked, if_neg (by omega)]
    · have low : ¬ i < s.table.tb := by omega
      rw [if_neg low, lapsed, if_neg low, booked, if_pos ⟨h1, h2⟩]
    · rw [if_pos h]
      refine stampless_congr (stampless_timetableRecur s m) ?_
      rw [lapsed, if_pos h]
      refine stampless_congr stampless_timetableLapse ?_
      rw [booked, if_neg (by omega)]
  · rw [if_neg (mt beq_iff_eq.mp start), booked]
    exact ⟨fun h => if_neg (by omega), fun h1 h2 => if_pos ⟨h1, h2⟩, fun _ h => absurd h start⟩

theorem sweepTable_entry {s : State} (m : Nat) (hs : TableSound s) (shaped : TableShaped s) (i : Nat) :
    (s.table.qb ≤ i → unstamped (entryAt (sweepTable m s) i) = unstamped (entryAt s i)) ∧
    (s.table.tb ≤ i → i < s.table.qb →
      unstamped (entryAt (sweepTable m s) i) = unstamped (bookedSweep s m (entryAt s i))) ∧
    (i < s.table.tb →
      unstamped (entryAt (sweepTable m s) i) = unstamped (timetableRecur s m (entryAt s i))) := by
  obtain ⟨-, -, ordered, size⟩ := shaped
  obtain ⟨sound1, settings1, recurred⟩ := pass_timetable (treats_recurTimetable s m) (stampless_timetableRecur s m)
    (fun i h => by omega) hs rfl rfl
  obtain ⟨-, -, booked⟩ := pass_booked (treats_sweepBooked s m) (stampless_bookedSweep s m)
    (fun i h1 h2 => by omega) sound1 settings1
  rw [regionOf_of_outer settings1] at booked
  unfold sweepTable
  rw [booked]
  refine ⟨fun h => ?_, fun h1 h2 => ?_, fun h => ?_⟩
  · rw [if_neg (by omega), recurred, if_neg (by omega)]
  · rw [if_pos ⟨h1, h2⟩]
    refine stampless_congr (stampless_bookedSweep s m) ?_
    rw [recurred, if_neg (by omega)]
  · rw [if_neg (by omega), recurred, if_pos h]

end Sys2Proof.Machine
end


section
/-!
The rise of the hold ages (R22), and the events that bring a minute (R202, R204).
-/

namespace Sys2Proof.Machine

/-! ## Hold ages (R22) -/

/-- An entry and its generation after a rise of the hold ages by `k`. -/
def agedEntry (s0 : State) (k : Nat) (e : Entry) : Entry :=
  if e.state = .concluded then
    if s0.params.conclusionHold ≤ min (e.holdAge.getD 0 + k) 120 then Entry.vacant
    else { e with holdAge := some (min (e.holdAge.getD 0 + k) 120) }
  else e

/-- An entry is released at this rise (R22). -/
def Releases (s0 : State) (k : Nat) (e : Entry) : Prop :=
  e.state = .concluded ∧ s0.params.conclusionHold ≤ min (e.holdAge.getD 0 + k) 120

/-- What one index keeps of a table: its entry and its generation. -/
def KeptAt (s t : State) (j : Nat) : Prop :=
  entryAt t j = entryAt s j ∧ generationAt t j = generationAt s j

theorem keptAt_of_retireEntry {i j : Nat} (s : State) (h : j ≠ i) : KeptAt s (retireEntry i s) j := by
  unfold KeptAt entryAt generationAt
  rw [retireEntry_table]
  simp [List.getD, Ne.symm h]

theorem keptAt_of_writeEntry {i j : Nat} (e : Entry) (s : State) (h : j ≠ i) : KeptAt s (writeEntry i e s) j :=
  ⟨entryAt_writeEntry_ne _ _ _ _ h, rfl⟩

/-- One entry at a rise of the hold ages (R22). -/
theorem ageEntry_spec (k : Nat) {s : State} {i : Nat} (hs : TableSound s) (hi : i < 64) :
    TableSound (ageEntry k s i) ∧ (∀ j, j ≠ i → KeptAt s (ageEntry k s i) j) ∧
      (∀ j, j ∉ s.table.arrivalOrder → j ∉ (ageEntry k s i).table.arrivalOrder) ∧
      entryAt (ageEntry k s i) i = agedEntry s k (entryAt s i) ∧
      (¬ Releases s k (entryAt s i) → generationAt (ageEntry k s i) i = generationAt s i) ∧
      (Releases s k (entryAt s i) → (generationAt (ageEntry k s i) i).value = (generationAt s i).value + 1 ∧
        i ∉ (ageEntry k s i).table.arrivalOrder) := by
  unfold ageEntry agedEntry Releases
  simp only [verifyEntry_good i s (entryAt_good hs i), beq_iff_eq, Config.holdAgeMax]
  by_cases concluded : (entryAt s i).state = .concluded
  · rw [if_pos concluded, if_pos concluded]
    have sound := writeEntry_sound i
      { entryAt s i with holdAge := some (min ((entryAt s i).holdAge.getD 0 + k) 120) } hs
    have own := entryAt_writeEntry i
      { entryAt s i with holdAge := some (min ((entryAt s i).holdAge.getD 0 + k) 120) } s (by rw [hs.1]; exact hi)
    have others (j : Nat) (hj : j ≠ i) := keptAt_of_writeEntry
      { entryAt s i with holdAge := some (min ((entryAt s i).holdAge.getD 0 + k) 120) } s hj
    have order : (writeEntry i { entryAt s i with
      holdAge := some (min ((entryAt s i).holdAge.getD 0 + k) 120) } s).table.arrivalOrder = s.table.arrivalOrder := rfl
    have generation : generationAt (writeEntry i { entryAt s i with
      holdAge := some (min ((entryAt s i).holdAge.getD 0 + k) 120) } s) i = generationAt s i := rfl
    generalize writeEntry i { entryAt s i with
      holdAge := some (min ((entryAt s i).holdAge.getD 0 + k) 120) } s = w at sound own others order generation ⊢
    by_cases held : s.params.conclusionHold ≤ min ((entryAt s i).holdAge.getD 0 + k) 120
    · have still : (entryAt w i).state = .concluded := by rw [own]; exact concluded
      rw [if_pos held, if_pos held, verifyGeneration_good i w (generationAt_good sound i), if_pos still]
      obtain ⟨vacant, next, -, out, -⟩ := retireEntry_retired sound hi
      refine ⟨retireEntry_sound i sound, fun j hj => ?_, fun j hj => ?_, vacant, fun h => absurd ⟨concluded, held⟩ h,
        fun _ => ⟨by rw [next, generation], out⟩⟩
      · obtain ⟨e1, g1⟩ := keptAt_of_retireEntry w hj
        obtain ⟨e2, g2⟩ := others j hj
        exact ⟨e1.trans e2, g1.trans g2⟩
      · rw [retireEntry_table, order]
        exact fun h => hj (List.mem_of_mem_filter h)
    · rw [if_neg held, if_neg held]
      refine ⟨sound, others, fun j hj => by rw [order]; exact hj, ?_, fun _ => generation, fun h => absurd h.2 held⟩
      rw [own, ← entryAt_good hs i]
  · rw [if_neg concluded, if_neg concluded]
    exact ⟨hs, fun j _ => ⟨rfl, rfl⟩, fun j hj => hj, rfl, fun _ => rfl, fun h => absurd h.1 concluded⟩

theorem foldl_ageEntry_others (k : Nat) {l : List Nat} (inside : ∀ i ∈ l, i < 64) {s : State} (hs : TableSound s) :
    TableSound (l.foldl (ageEntry k) s) ∧ (∀ j, j ∉ l → KeptAt s (l.foldl (ageEntry k) s) j) ∧
      ∀ j, j ∉ s.table.arrivalOrder → j ∉ (l.foldl (ageEntry k) s).table.arrivalOrder := by
  induction l generalizing s with
  | nil => exact ⟨hs, fun j _ => ⟨rfl, rfl⟩, fun j hj => hj⟩
  | cons i l ih =>
    obtain ⟨sound, kept, order, -⟩ := ageEntry_spec k hs (inside i List.mem_cons_self)
    obtain ⟨sound', kept', order'⟩ := ih (fun j hj => inside j (List.mem_cons_of_mem _ hj)) sound
    refine ⟨sound', fun j hj => ?_, fun j hj => order' j (order j hj)⟩
    obtain ⟨apart, hj⟩ := not_or.mp (mt List.mem_cons.mpr hj)
    obtain ⟨e1, g1⟩ := kept j apart
    obtain ⟨e2, g2⟩ := kept' j hj
    exact ⟨e2.trans e1, g2.trans g1⟩

/-- One index through the whole rise: it is treated once, in the table that the lower ones left. -/
theorem ageConcluded_at (k : Nat) {s : State} {i : Nat} (hs : TableSound s) (hi : i < 64) :
    entryAt (ageConcluded k s) i = agedEntry s k (entryAt s i) ∧
      (¬ Releases s k (entryAt s i) → generationAt (ageConcluded k s) i = generationAt s i) ∧
      (Releases s k (entryAt s i) → (generationAt (ageConcluded k s) i).value = (generationAt s i).value + 1 ∧
        i ∉ (ageConcluded k s).table.arrivalOrder) := by
  have cut : allIndexes = List.range i ++ i :: List.range' (i + 1) (63 - i) := by
    have tail : i :: List.range' (i + 1) (63 - i) = List.range' i (64 - i) := by
      rw [show 64 - i = (63 - i) + 1 by omega, List.range'_succ]
    have joined := List.range'_append_1 (s := 0) (m := i) (n := 64 - i)
    rw [Nat.zero_add, show i + (64 - i) = 64 by omega] at joined
    rw [tail, allIndexes, List.range_eq_range', List.range_eq_range']
    exact joined.symm
  have before : ∀ j ∈ List.range i, j < 64 := fun j hj => by
    have := List.mem_range.mp hj
    omega
  have after : ∀ j ∈ List.range' (i + 1) (63 - i), j < 64 := fun j hj => by
    have := List.mem_range'_1.mp hj
    omega
  unfold ageConcluded
  rw [cut, List.foldl_append, List.foldl_cons]
  obtain ⟨sound1, kept1, -⟩ := foldl_ageEntry_others k before hs
  have settings : outer ((List.range i).foldl (ageEntry k) s) = outer s :=
    foldl_keeps outer (fun s j => outer_ageEntry k s j) _ s
  obtain ⟨entry1, generation1⟩ := kept1 i (by simp)
  generalize (List.range i).foldl (ageEntry k) s = s1 at sound1 settings entry1 generation1 ⊢
  obtain ⟨sound2, -, -, own, plain, released⟩ := ageEntry_spec k sound1 hi
  have hold : agedEntry s1 k (entryAt s1 i) = agedEntry s k (entryAt s i) := by
    unfold agedEntry
    rw [entry1, params_of_outer settings]
  have same : Releases s1 k (entryAt s1 i) ↔ Releases s k (entryAt s i) := by
    unfold Releases
    rw [entry1, params_of_outer settings]
  obtain ⟨-, kept3, order3⟩ := foldl_ageEntry_others k after sound2
  obtain ⟨entry3, generation3⟩ := kept3 i (by simp)
  rw [entry3, own, hold, generation3]
  refine ⟨rfl, fun h => (plain (mt same.mp h)).trans generation1, fun h => ?_⟩
  obtain ⟨next, out⟩ := released (same.mpr h)
  exact ⟨next.trans (by rw [generation1]), order3 i out⟩

theorem ageConcluded_cases (s : State) (k i n : Nat) (e : Entry) (hs : TableSound s) (hi : i < 64) (he : e = entryAt s i)
    (hn : n = min (e.holdAge.getD 0 + k) 120) :
    (e.state ≠ .concluded → entryAt (ageConcluded k s) i = e ∧ generationAt (ageConcluded k s) i = generationAt s i) ∧
    (e.state = .concluded → n < s.params.conclusionHold →
      entryAt (ageConcluded k s) i = { e with holdAge := some n }) ∧
    (e.state = .concluded → s.params.conclusionHold ≤ n → entryAt (ageConcluded k s) i = Entry.vacant ∧
      (generationAt (ageConcluded k s) i).value = (generationAt s i).value + 1 ∧
      i ∉ (ageConcluded k s).table.arrivalOrder) := by
  subst he hn
  obtain ⟨entry, plain, released⟩ := ageConcluded_at k hs hi
  rw [entry]
  unfold agedEntry
  refine ⟨fun h => ⟨if_neg h, plain fun r => h r.1⟩, fun h low => ?_, fun h high => ?_⟩
  · rw [if_pos h, if_neg (Nat.not_le.mpr low)]
  · rw [if_pos h, if_pos high]
    exact ⟨rfl, released ⟨h, high⟩⟩

/-! ## The minute event (R202) -/

theorem advanceMinute_eq (v w u : State) (hw : w = { v with
      clock := { v.clock with minute := (v.clock.minute + 1) % 1440, seconds := 0 },
      planner := { v.planner with
        holdOff := v.planner.holdOff.advance 1, roadPriorityTimer := v.planner.roadPriorityTimer.advance 1,
        maxRaised := v.planner.maxRaised.advance 1 } })
    (hu : u = (if v.clock.valid then visitMinute w.clock.minute (ageConcluded 1 w) else ageConcluded 1 w)) :
    advanceMinute v = dueEvent (newlyDue w u) u := by
  have hc : countMinute (mapClock (fun c => { c with minute := (c.minute + 1) % Config.dayMinutes, seconds := 0 }) v) =
      w := by rw [hw]; rfl
  have valid : w.clock.valid = v.clock.valid := by rw [hw]
  have kept : (ageConcluded 1 w).clock = w.clock := clock_of_outer (outer_ageConcluded 1 w)
  have event : advanceMinute v = withDueEvent (fun s =>
      let s1 := ageConcluded 1 s
      if s.clock.valid then visitMinute s.clock.minute s1 else s1) w := by
    unfold advanceMinute minuteEvent
    rw [hc]
  rw [event]
  unfold withDueEvent
  dsimp only
  rw [valid, ← hu]

theorem secondStep_last {s : State} (h : 59 ≤ s.clock.seconds) : secondStep s = advanceMinute s := if_pos h

theorem oscillator_minute (s v : State) (k l : Nat) (run : s.clock.stepTimer = .running k l)
    (last : 59 ≤ s.clock.seconds) (hv : v = elapse (l - k) s) :
    exec .oscillatorStep s = .next (settle (advanceMinute { v with
      clock := { v.clock with stepTimer := .running 0 1000, sinceStep := some 0 } })) := by
  subst hv
  have steps : exec .oscillatorStep s = .next (settle (oscillatorStep (elapse (l - k) s))) :=
    congrArg Host.Outcome.next (expire_of_running run (fun s => settle (oscillatorStep s)) s)
  rw [steps]
  exact congrArg (fun t => Host.Outcome.next (settle t)) (secondStep_last last)

theorem supervision_minute (s v : State) (k l : Nat) (run : s.clock.supervision = .running k l)
    (last : 59 ≤ s.clock.seconds) (hv : v = raiseControl .clockFree (elapse (l - k) s)) :
    exec .supervisionTimerExpiry s = .next (settle (advanceMinute { v with
      clock := { v.clock with
        lock := .free, supervision := .stopped, stepTimer := .running 0 1000, recaptureRun := 0 } })) := by
  subst hv
  have loses : exec .supervisionTimerExpiry s = .next (settle (loseLock (elapse (l - k) s))) :=
    congrArg Host.Outcome.next (expire_of_running run (fun s => settle (loseLock s)) s)
  rw [loses]
  exact congrArg (fun t => Host.Outcome.next (settle t)) (secondStep_last last)

theorem pulse_minute (n : Nat) (s v : State) (due : ∀ r, s.clock.reference = some r → 800 ≤ r + n)
    (locked : s.clock.lock = .locked) (quiet : ClockQuiet n s) (last : 59 ≤ s.clock.seconds) (hv : v = elapse n s) :
    exec (.timePulseLeadingEdge n) s = .next (settle (advanceMinute { v with
      clock := { v.clock with
        reference := some 0, measuring := .running 0 300, supervision := .running 0 1200 } })) := by
  subst hv
  have taken_ (inWindow : Bool) : actOnPulse inWindow (takePulse (elapse n s)) = advanceMinute { elapse n s with
      clock := { (elapse n s).clock with
        reference := some 0, measuring := .running 0 300, supervision := .running 0 1200 } } :=
    (actOnPulse_locked (s := takePulse (elapse n s)) locked inWindow).trans (secondStep_last last)
  have edge : ∃ inWindow, pulseEdge (elapse n s) = actOnPulse inWindow (takePulse (elapse n s)) := by
    unfold pulseEdge
    cases href : (elapse n s).clock.reference with
    | none => exact ⟨_, rfl⟩
    | some r => exact ⟨_, if_neg (Nat.not_lt.mpr (elapse_reference_all due r href))⟩
  obtain ⟨inWindow, edge⟩ := edge
  rw [execPulse_quiet quiet, edge, taken_]

theorem mark_minute (s v : State) (k l : Nat) (run : s.clock.measuring = .running k l) (late : 30 ≤ s.clock.seconds)
    (hv : v = raiseControl .clockStepped (elapse (l - k) s)) :
    exec .minuteMarkCorrection s = .next (settle (advanceMinute { v with
      clock := { v.clock with
        measuring := .stopped, lastMark := some .minute,
        stepTimer := if s.clock.lock = .free then .running 300 1000 else v.clock.stepTimer } })) := by
  subst hv
  have corrects : exec .minuteMarkCorrection s = .next (settle (minuteMark (elapse (l - k) s))) :=
    congrArg Host.Outcome.next (expire_of_running run (fun s => settle (minuteMark s)) s)
  have seconds : (elapse (l - k) s).clock.seconds = s.clock.seconds := rfl
  rw [corrects]
  unfold minuteMark
  dsimp only
  rw [seconds, if_neg (by rw [beq_iff_eq]; omega), if_neg (by omega)]
  simp only [beq_iff_eq]
  rfl

/-! ## SET_TIME (R25, R204) -/

theorem visitMinutes_eq (k old : Nat) (s : State) : visitMinutes k old s =
    (List.range k).foldl (fun v j => visitMinute ((old + 1 + j) % 1440) v) s := by
  induction k generalizing old s with
  | zero => rfl
  | succ k ih =>
    have later : (fun (v : State) (j : Nat) => visitMinute (((old + 1) % 1440 + 1 + j) % 1440) v) =
        fun v j => visitMinute ((old + 1 + (j + 1)) % 1440) v := by
      funext v j
      congr 1
      omega
    unfold visitMinutes
    rw [ih, List.range_succ_eq_map, List.foldl_cons, List.foldl_map]
    simp only [Config.dayMinutes, later, Nat.add_zero]

theorem setTime_sweeps (p : Port) (x : List Byte) (s w u : State) (m q : Nat) (hd : decoded (.setTime p x) s = true)
    (hm : m = wordAt x 0) (hq : q = byteAt x 2) (hm' : m < 1440) (hq' : q < 60)
    (hw : w = { taken p 44 x s with clock := { s.clock with
      minute := m, seconds := q, valid := true,
      stepTimer := if s.clock.lock = .free then .running 0 1000 else s.clock.stepTimer } })
    (invalid : s.clock.valid = false) (back : byteAt x 3 < 2) (hu : u = sweepTable m w) :
    exec (.setTime p x) s = .next (answered p 44 .ok [0, 0, 0, 0] (settle (dueEvent (newlyDue w u) u))) := by
  subst hm hq
  have set : setClock (wordAt x 0) (byteAt x 2) (taken p 44 x s) = w := by
    rw [setClock_eq, hw]
    rfl
  have own : ownSetTime x (taken p 44 x s) =
      (settle (dueEvent (newlyDue w u) u), accept [0, 0, 0, 0]) := by
    unfold ownSetTime
    dsimp only
    rw [if_neg (by simp; omega), set, if_pos (by rw [taken_clock, invalid]; rfl)]
    unfold withDueEvent
    dsimp only
    rw [← hu]
    rfl
  have run : exec (.setTime p x) s = .next (request p ⟨44, false, true, .both, 4⟩ x (ownSetTime x) s) := rfl
  exact exec_of_owner run rfl rfl hd own

theorem setTime_visits (p : Port) (x : List Byte) (s w u : State) (m q k : Nat) (hd : decoded (.setTime p x) s = true)
    (hm : m = wordAt x 0) (hq : q = byteAt x 2) (hm' : m < 1440) (hq' : q < 60) (hc : s.clock.minute < 1440)
    (hw : w = { taken p 44 x s with clock := { s.clock with
      minute := m, seconds := q, valid := true,
      stepTimer := if s.clock.lock = .free then .running 0 1000 else s.clock.stepTimer } })
    (hk : k = (if m = s.clock.minute then (if s.clock.seconds ≤ q then 0 else 1440)
      else (m + 1440 - s.clock.minute) % 1440))
    (valid : s.clock.valid = true) (forward : byteAt x 3 = 0) (some_ : k ≠ 0)
    (hu : u = (List.range k).foldl (fun v j => visitMinute ((s.clock.minute + 1 + j) % 1440) v) (ageConcluded k w)) :
    exec (.setTime p x) s = .next (answered p 44 .ok ([1, 1] ++ put2 k) (settle (dueEvent (newlyDue w u) u))) := by
  subst hm hq
  have set : setClock (wordAt x 0) (byteAt x 2) (taken p 44 x s) = w := by
    rw [setClock_eq, hw]
    rfl
  have steps : forwardStep (taken p 44 x s).clock (wordAt x 0) (byteAt x 2) = k :=
    (forwardStep_eq hm' hc).trans hk.symm
  have visited : forwardTable k (taken p 44 x s).clock.minute w = u := by
    unfold forwardTable
    rw [visitMinutes_eq, hu]
    rfl
  have own : ownSetTime x (taken p 44 x s) =
      (settle (dueEvent (newlyDue w u) u), accept ([1, 1] ++ put2 k)) := by
    unfold ownSetTime
    dsimp only
    rw [if_neg (by simp; omega), set, if_neg (by rw [taken_clock, valid]; decide),
      if_neg (by rw [forward]; decide), steps, if_neg (by rw [beq_iff_eq]; exact some_)]
    unfold withDueEvent
    dsimp only
    rw [visited]
    rfl
  have run : exec (.setTime p x) s = .next (request p ⟨44, false, true, .both, 4⟩ x (ownSetTime x) s) := rfl
  exact exec_of_owner run rfl rfl hd own

/-! ## O54 -/

/-- Settles O54: the events that bring a minute, and what a minute, the sweep and a forward step make of the table. -/
theorem minuteEvents : Obligations.MinuteEvents := by
  refine ⟨advanceMinute_eq, oscillator_minute, supervision_minute, pulse_minute, mark_minute, ageConcluded_cases,
    ?visit, ?sweep, ?set⟩
  case visit =>
    rintro s _ m i _ hs shaped rfl rfl
    obtain ⟨off, booked, timetable⟩ := visitMinute_entry m hs shaped i
    refine ⟨off, booked, ?_⟩
    rintro _ low start rfl
    exact timetable low start
  case sweep =>
    rintro s _ m i _ hs shaped rfl rfl
    exact sweepTable_entry m hs shaped i
  case set =>
    exact fun p x s w u m q k hd hm hq hm' hq' hc hw hk =>
      ⟨setTime_sweeps p x s w u m q hd hm hq hm' hq' hw, setTime_visits p x s w u m q k hd hm hq hm' hq' hc hw hk⟩

end Sys2Proof.Machine
end


section
/-!
What a change of the table on a sound table leaves alone, and the slots that it is asked for (R8, R74).
-/

namespace Sys2Proof.Machine

/-! ## Beside the table -/

/-- A state without what the work on one entry changes: the table, the count it reports and the attention sets. -/
def offTable (s : State) : State :=
  { s with
    ports := State.reset.ports, table := State.reset.table,
    planner := { s.planner with queueCritical := false, evaluationOwed := false } }

@[simp] theorem offTable_raiseControl (x : ControlSource) (s : State) : offTable (raiseControl x s) = offTable s := rfl
@[simp] theorem offTable_raiseHarbour (x : HarbourSource) (s : State) : offTable (raiseHarbour x s) = offTable s := rfl
@[simp] theorem offTable_mapTable (f : Table → Table) (s : State) : offTable (mapTable f s) = offTable s := rfl
@[simp] theorem offTable_writeEntry (i : Nat) (e : Entry) (s : State) : offTable (writeEntry i e s) = offTable s := rfl

@[simp] theorem offTable_refreshQueueCritical (s : State) : offTable (refreshQueueCritical s) = offTable s := by
  unfold refreshQueueCritical
  dsimp only
  split
  · rfl
  · split <;> rfl

@[simp] theorem offTable_leaveDue (i : Nat) (s : State) : offTable (leaveDue i s) = offTable s :=
  (offTable_refreshQueueCritical _).trans rfl

@[simp] theorem offTable_joinDue (place : List Nat → List Nat) (s : State) :
    offTable (joinDue place s) = offTable s :=
  (offTable_refreshQueueCritical _).trans rfl

@[simp] theorem offTable_concludeEntry (i : Nat) (o : PassageOutcome) (s : State) :
    offTable (concludeEntry i o s) = offTable s := by
  unfold concludeEntry
  cases kindOf s.table i <;> simp

theorem seq_of_offTable {s t : State} (h : offTable t = offTable s) : t.seq = s.seq := (congrArg (·.seq) h :)
theorem channel_of_offTable {s t : State} (h : offTable t = offTable s) : t.channel = s.channel :=
  (congrArg (·.channel) h :)
theorem params_of_offTable {s t : State} (h : offTable t = offTable s) : t.params = s.params :=
  (congrArg (·.params) h :)
theorem water_of_offTable {s t : State} (h : offTable t = offTable s) : t.water = s.water :=
  (congrArg (·.water) h :)
theorem drive_of_offTable {s t : State} (h : offTable t = offTable s) : t.drive = s.drive :=
  (congrArg (·.drive) h :)
theorem clock_of_offTable {s t : State} (h : offTable t = offTable s) : t.clock = s.clock :=
  (congrArg (·.clock) h :)
theorem slots_of_seq {s t : State} (h : t.seq = s.seq) : slots t = slots s := by simp [slots, h]

/-! ## A return to the due list -/

/-- An entry as a return from an opening leaves it (R7). -/
def Entry.returned (e : Entry) (held : Bool) : Entry :=
  { e with state := .due, tideHold := some held, lapseMark := none, openingNumber := none, codeGood := true }

theorem verifyEntries_sound (l : List Nat) {s : State} (hs : TableSound s) : verifyEntries l s = s :=
  List.foldlRecOn l (motive := fun t => t = s) _ rfl fun t ht i _ => by
    rw [ht]
    exact if_pos (entryAt_good hs i)

/-- A return, on a sound table, of an entry with no lapse mark. -/
theorem returnEntry_eq {i : Nat} (held : Bool) {s : State} (hs : TableSound s)
    (unmarked : (entryAt s i).lapseMark ≠ some true) : ∃ place : List Nat → List Nat,
      returnEntry i held s = joinDue place
        (writeEntry i ((entryAt s i).returned (held || tideHeld s (entryAt s i).airDraft)) s) ∧
      ∀ l, i ∈ place l := by
  have written := writeEntry_sound i ((entryAt s i).returned (held || tideHeld s (entryAt s i).airDraft)) hs
  refine ⟨insertByAge (entryAge (writeEntry i ((entryAt s i).returned
    (held || tideHeld s (entryAt s i).airDraft)) s)) i, ?_, fun l => ?_⟩
  · unfold returnEntry
    dsimp only
    rw [if_neg (by simpa using unmarked)]
    exact congrArg (fun t => joinDue (insertByAge (entryAge t) i) t) (verifyEntries_sound _ written)
  · induction l with
    | nil => simp [insertByAge]
    | cons j l ih =>
      unfold insertByAge
      split <;> simp [ih]

theorem returnEntry_marked {i : Nat} (held : Bool) {s : State} (marked : (entryAt s i).lapseMark = some true) :
    returnEntry i held s = concludeEntry i .lapsed s := by
  unfold returnEntry
  dsimp only
  rw [if_pos (by simpa using marked)]

theorem offTable_returnEntry (i : Nat) (held : Bool) {s : State} (hs : TableSound s) :
    offTable (returnEntry i held s) = offTable s := by
  by_cases marked : (entryAt s i).lapseMark = some true
  · rw [returnEntry_marked held marked, offTable_concludeEntry]
  · obtain ⟨place, eq, -⟩ := returnEntry_eq held hs marked
    rw [eq, offTable_joinDue, offTable_writeEntry]

theorem returnEntry_spec {i : Nat} (held : Bool) {s : State} (hs : TableSound s) (hi : i < 64)
    (unmarked : (entryAt s i).lapseMark ≠ some true) :
    (entryAt (returnEntry i held s) i).state = .due ∧ i ∈ (returnEntry i held s).table.dueList := by
  obtain ⟨place, eq, inside⟩ := returnEntry_eq held hs unmarked
  have len : i < s.table.entries.length := hs.1 ▸ hi
  rw [eq]
  constructor
  · simp [entryAt, writeEntry, Entry.returned, len]
  · rw [joinDue_table]
    exact inside _

theorem entryAt_returnEntry_ne {i j : Nat} (held : Bool) {s : State} (hs : TableSound s) (h : j ≠ i) :
    entryAt (returnEntry i held s) j = entryAt s j := by
  by_cases marked : (entryAt s i).lapseMark = some true
  · rw [returnEntry_marked held marked, entryAt_concludeEntry_ne _ _ h]
  · obtain ⟨place, eq, -⟩ := returnEntry_eq held hs marked
    simp [eq, entryAt, writeEntry, h.symm]

/-! ## The changes of R8 -/

theorem entryAt_writeEntry_same {i : Nat} (e : Entry) {s : State} (hs : TableSound s) (hi : i < 64) :
    entryAt (writeEntry i e s) i = { e with codeGood := true } := by
  simp [entryAt, writeEntry, hs.1, hi]

theorem entryAt_writeEntry_other {i j : Nat} (e : Entry) (s : State) (h : j ≠ i) :
    entryAt (writeEntry i e s) j = entryAt s j := by
  simp [entryAt, writeEntry, h.symm]

theorem offTable_applyChange (c : Change) (i : Nat) {s : State} (hs : TableSound s) :
    offTable (applyChange c i s) = offTable s := by
  cases c with
  | assign n => simp [applyChange]
  | notNeeded => exact offTable_concludeEntry _ _ _
  | giveBack h => exact offTable_returnEntry i h hs
  | proceed => rfl
  | enter => rfl
  | revert => rfl
  | conclude o => exact offTable_concludeEntry _ _ _
  | giveBackWithoutEntry =>
    unfold applyChange
    dsimp only
    split
    · exact offTable_concludeEntry _ _ _
    · exact offTable_returnEntry i false hs

theorem entryAt_applyChange_ne (c : Change) {i j : Nat} {s : State} (hs : TableSound s) (h : j ≠ i) :
    entryAt (applyChange c i s) j = entryAt s j := by
  cases c with
  | assign n =>
    have left : entryAt (leaveDue i s) j = entryAt s j := by simp [entryAt]
    exact (entryAt_writeEntry_other _ _ h).trans left
  | notNeeded => exact entryAt_concludeEntry_ne _ _ h
  | giveBack held => exact entryAt_returnEntry_ne held hs h
  | proceed => exact entryAt_writeEntry_other _ _ h
  | enter => exact entryAt_writeEntry_other _ _ h
  | revert => exact entryAt_writeEntry_other _ _ h
  | conclude o => exact entryAt_concludeEntry_ne _ _ h
  | giveBackWithoutEntry =>
    unfold applyChange
    dsimp only
    split
    · exact entryAt_concludeEntry_ne _ _ h
    · exact entryAt_returnEntry_ne false hs h

theorem returnEntry_sound (i : Nat) (held : Bool) {s : State} (hs : TableSound s) :
    TableSound (returnEntry i held s) := by
  by_cases marked : (entryAt s i).lapseMark = some true
  · exact returnEntry_marked held marked ▸ concludeEntry_sound i _ hs
  · obtain ⟨place, eq, -⟩ := returnEntry_eq held hs marked
    have written := writeEntry_sound i ((entryAt s i).returned (held || tideHeld s (entryAt s i).airDraft)) hs
    rw [eq]
    exact sound_of_entries (by simp) (by simp) written

theorem leaveDue_sound (i : Nat) {s : State} (hs : TableSound s) : TableSound (leaveDue i s) :=
  sound_of_entries (by simp) (by simp) hs

theorem applyChange_sound (c : Change) (i : Nat) {s : State} (hs : TableSound s) : TableSound (applyChange c i s) := by
  cases c with
  | assign n => exact writeEntry_sound _ _ (leaveDue_sound i hs)
  | notNeeded => exact concludeEntry_sound _ _ hs
  | giveBack h => exact returnEntry_sound i h hs
  | proceed => exact writeEntry_sound _ _ hs
  | enter => exact writeEntry_sound _ _ hs
  | revert => exact writeEntry_sound _ _ hs
  | conclude o => exact concludeEntry_sound _ _ hs
  | giveBackWithoutEntry =>
    unfold applyChange
    dsimp only
    split
    · exact concludeEntry_sound _ _ hs
    · exact returnEntry_sound i false hs

theorem ask_made {c : Change} {i : Nat} {s : State} (hs : TableSound s)
    (h : c.madeFrom (entryAt s i).state = true) : ask c i s = (applyChange c i s, .made) := by
  have read : verifyEntry i s = s := if_pos (entryAt_good hs i)
  unfold ask
  dsimp only
  rw [read, if_pos h]

/-! ## Slots by their numbers -/

theorem findSlot_some {n : Nat} {s : State} {x : Slot} (h : findSlot n s = some x) : x ∈ slots s ∧ x.serial = n :=
  ⟨List.mem_of_find?_eq_some h, by simpa using List.find?_some h⟩

/-- Slots with numbers of their own. -/
def Numbered (l : List Slot) : Prop := l.Pairwise (fun x y => x.serial ≠ y.serial)

theorem Numbered.eq {l : List Slot} (h : Numbered l) {x y : Slot} (hx : x ∈ l) (hy : y ∈ l)
    (same : x.serial = y.serial) : x = y := by
  induction h with
  | nil => cases hx
  | @cons z l hz _ ih =>
    rcases List.mem_cons.1 hx with rfl | hx' <;> rcases List.mem_cons.1 hy with rfl | hy'
    · rfl
    · exact absurd same (hz y hy')
    · exact absurd same.symm (hz x hx')
    · exact ih hx' hy'

theorem findSlot_of_mem {s : State} (h : Numbered (slots s)) {x : Slot} (hx : x ∈ slots s) :
    findSlot x.serial s = some x := by
  unfold findSlot
  cases hf : (slots s).find? (fun y => y.serial == x.serial) with
  | none => simpa using List.find?_eq_none.1 hf x hx
  | some y =>
    have same : y.serial = x.serial := by simpa using List.find?_some hf
    rw [h.eq (List.mem_of_find?_eq_some hf) hx same]

theorem findSlot_of_seq {s t : State} (h : t.seq = s.seq) (n : Nat) : findSlot n t = findSlot n s := by
  simp [findSlot, slots_of_seq h]

theorem slots_mapOpening (f : Opening → Opening) (s : State) :
    slots (mapOpening f s) = match s.seq.opening with | some o => (f o).slots | none => [] := by
  unfold slots
  cases h : s.seq.opening <;> simp [h]

@[simp] theorem slots_mapSlot (n : Nat) (f : Slot → Slot) (s : State) :
    slots (mapSlot n f s) = (slots s).map (fun y => if y.serial = n then f y else y) := by
  unfold mapSlot
  rw [slots_mapOpening]
  unfold slots
  cases s.seq.opening <;> simp

theorem numbered_of_matched {s : State} (h : SlotsMatched s) : Numbered (slots s) := by
  unfold slots
  cases ho : s.seq.opening with
  | none => exact .nil
  | some o =>
    obtain ⟨-, -, -, distinct, -⟩ := h.2.2 o ho
    exact distinct

theorem slots_of_opening {s : State} {o : Opening} (h : s.seq.opening = some o) : slots s = o.slots := by
  simp [slots, h]

/-- The entry that a slot not DONE names is one of the table, in the matching state (R74). -/
theorem entry_of_matched {s : State} (h : SlotsMatched s) {x : Slot} (hx : x ∈ slots s) (open_ : x.state ≠ .done)
    {i : Nat} (hi : x.entry = some i) : i < 64 ∧ (entryAt s i).state = x.state.entryState := by
  cases ho : s.seq.opening with
  | none => simp [slots, ho] at hx
  | some o =>
    obtain ⟨-, -, -, -, -, named, -⟩ := h.2.2 o ho
    exact named x (by simpa [slots, ho] using hx) open_ i hi

/-! ## A change asked for a slot -/

/-- What a change asked for a slot on a sound table leaves, where the entry's state is one shown for it. -/
def asked (c : Change) (x : Slot) (s : State) : State :=
  match x.entry with
  | none => s
  | some i => applyChange c i s

theorem withAsked_eq {c : Change} {f : State → State} {s : State} {x : Slot} (hs : TableSound s)
    (found : findSlot x.serial s = some x) (may : ∀ i, x.entry = some i → c.madeFrom (entryAt s i).state = true) :
    withAsked c x.serial f s = f (asked c x s) := by
  unfold withAsked askSlot asked
  rw [found]
  dsimp only
  cases hx : x.entry with
  | none => rfl
  | some i =>
    dsimp only
    rw [ask_made hs (may i hx)]

/-- A slot of matched slots not DONE asks a change that R8 shows for its entry's state. -/
theorem withAsked_matched {c : Change} {f : State → State} {s : State} {x : Slot} (hm : SlotsMatched s)
    (hs : TableSound s) (hx : x ∈ slots s) (open_ : x.state ≠ .done)
    (may : c.madeFrom x.state.entryState = true) : withAsked c x.serial f s = f (asked c x s) :=
  withAsked_eq hs (findSlot_of_mem (numbered_of_matched hm) hx) fun _ hi =>
    (entry_of_matched hm hx open_ hi).2 ▸ may

theorem offTable_asked (c : Change) (x : Slot) {s : State} (hs : TableSound s) :
    offTable (asked c x s) = offTable s := by
  unfold asked
  split
  · rfl
  · exact offTable_applyChange c _ hs

theorem asked_sound (c : Change) (x : Slot) {s : State} (hs : TableSound s) : TableSound (asked c x s) := by
  unfold asked
  split
  · exact hs
  · exact applyChange_sound c _ hs

theorem asked_seq (c : Change) (x : Slot) {s : State} (hs : TableSound s) : (asked c x s).seq = s.seq :=
  seq_of_offTable (offTable_asked c x hs)

theorem asked_channel (c : Change) (x : Slot) {s : State} (hs : TableSound s) : (asked c x s).channel = s.channel :=
  channel_of_offTable (offTable_asked c x hs)

theorem asked_named (c : Change) {x : Slot} {i : Nat} (h : x.entry = some i) (s : State) :
    asked c x s = applyChange c i s := by
  simp [asked, h]

theorem entryAt_asked_ne (c : Change) {x : Slot} {j : Nat} {s : State} (hs : TableSound s) (h : x.entry ≠ some j) :
    entryAt (asked c x s) j = entryAt s j := by
  unfold asked
  split
  · rfl
  · next i hi => exact entryAt_applyChange_ne c hs fun same => h (same ▸ hi)

/-- What a conclusion leaves of the entry of a slot, by its region (R6). -/
def EntryConcluded (o : PassageOutcome) (x : Slot) (s u : State) : Prop :=
  ∀ i, x.entry = some i →
    (s.table.tb ≤ i → (entryAt u i).state = .concluded ∧ (entryAt u i).outcome = some o) ∧
    (i < s.table.tb → (entryAt u i).state = .pending ∧ (entryAt u i).lastOutcome = some o)

theorem concludeEntry_outcome {i : Nat} (o : PassageOutcome) {s : State} (hs : TableSound s) (hi : i < 64) :
    (s.table.tb ≤ i → (entryAt (concludeEntry i o s) i).state = .concluded ∧
      (entryAt (concludeEntry i o s) i).outcome = some o) ∧
    (i < s.table.tb → (entryAt (concludeEntry i o s) i).state = .pending ∧
      (entryAt (concludeEntry i o s) i).lastOutcome = some o) := by
  rw [entryAt_concludeEntry o (hs.1 ▸ hi)]
  constructor
  · intro h
    rw [concludedAs_other _ (kindOf_ne_timetable h)]
    exact ⟨rfl, rfl⟩
  · intro h
    rw [concludedAs_timetable _ ((kindOf_eq_timetable_iff _ _).2 h)]
    exact ⟨rfl, rfl⟩

theorem asked_conclude (o : PassageOutcome) {x : Slot} {s : State} (hs : TableSound s)
    (inside : ∀ i, x.entry = some i → i < 64) : EntryConcluded o x s (asked (.conclude o) x s) := by
  intro i hi
  rw [asked_named _ hi]
  exact concludeEntry_outcome o hs (inside i hi)

end Sys2Proof.Machine
end


section
/-!
What the table's changes and a fault report leave of the channel unit and of the road guard: the zone list, the arms,
the deck (R74, R94, R176, R183).
-/

namespace Sys2Proof.Machine

/-! ## The channel unit under the changes of the table -/

@[simp] theorem refreshQueueCritical_channel (s : State) : (refreshQueueCritical s).channel = s.channel :=
  channel_of_offTable (offTable_refreshQueueCritical s)

@[simp] theorem leaveDue_channel (i : Nat) (s : State) : (leaveDue i s).channel = s.channel :=
  channel_of_offTable (offTable_leaveDue i s)

@[simp] theorem joinDue_channel (place : List Nat → List Nat) (s : State) : (joinDue place s).channel = s.channel :=
  channel_of_offTable (offTable_joinDue place s)

@[simp] theorem concludeEntry_channel (i : Nat) (o : PassageOutcome) (s : State) :
    (concludeEntry i o s).channel = s.channel :=
  channel_of_offTable (offTable_concludeEntry i o s)

@[simp] theorem writeEntry_channel (i : Nat) (e : Entry) (s : State) : (writeEntry i e s).channel = s.channel := rfl

@[simp] theorem damageEntry_channel (i : Nat) (s : State) : (damageEntry i s).channel = s.channel := by
  have damaged : ∀ t : State, (raiseHarbour .recordDamaged (raiseControl .recordDamaged
      (recordDamage i (joinArrivals i (leaveDue i t))))).channel = t.channel := fun t => leaveDue_channel i t
  unfold damageEntry
  dsimp only
  split
  · exact damaged _
  · exact damaged _

@[simp] theorem verifyEntry_channel (i : Nat) (s : State) : (verifyEntry i s).channel = s.channel := by
  unfold verifyEntry
  dsimp only
  (repeat' split)
  · rfl
  · rfl
  · exact damageEntry_channel i s

@[simp] theorem verifyEntries_channel (l : List Nat) (s : State) : (verifyEntries l s).channel = s.channel :=
  foldl_keeps State.channel (fun s i => verifyEntry_channel i s) l s

@[simp] theorem returnEntry_channel (i : Nat) (held : Bool) (s : State) :
    (returnEntry i held s).channel = s.channel := by
  unfold returnEntry
  dsimp only
  split
  · exact concludeEntry_channel _ _ _
  · rw [joinDue_channel, verifyEntries_channel]
    rfl

@[simp] theorem applyChange_channel (c : Change) (i : Nat) (s : State) : (applyChange c i s).channel = s.channel := by
  unfold applyChange
  dsimp only
  (repeat' split) <;> simp

@[simp] theorem ask_channel (c : Change) (i : Nat) (s : State) : (ask c i s).1.channel = s.channel := by
  unfold ask
  dsimp only
  (repeat' split) <;> simp

theorem askSlot_channel (c : Change) (n : Nat) (s : State) : (askSlot c n s).1.channel = s.channel := by
  unfold askSlot
  split
  · rfl
  · split
    · rfl
    · next i _ =>
      have asked := ask_channel c i s
      split
      all_goals
        rename_i h
        rw [h] at asked
        exact asked

theorem withAsked_channel {c : Change} {n : Nat} {f : State → State} {s : State}
    (keeps : ∀ t, (f t).channel = t.channel) : (withAsked c n f s).channel = s.channel := by
  have asked := askSlot_channel c n s
  unfold withAsked
  split
  next h => rw [h] at asked; exact (keeps _).trans asked
  next h => rw [h] at asked; exact asked

theorem stopSlot_channel (s : State) (x : Slot) : (stopSlot s x).channel = s.channel := by
  unfold stopSlot
  (repeat' split)
  · rfl
  · exact withAsked_channel fun _ => rfl
  · rfl

/-- A stop of serving changes the direction served and no more of the channel unit (R183). -/
theorem stopServing_channel (s : State) : (stopServing s).channel =
    (mapChannel (fun c => { c with servingRuns := false }) (dropServing s)).channel :=
  foldl_keeps State.channel stopSlot_channel _ _

@[simp] theorem stopServing_zoneList (s : State) : (stopServing s).channel.zoneList = s.channel.zoneList := by
  rw [stopServing_channel]
  unfold dropServing
  simp only [mapChannel_channel]
  split <;> rfl

/-! ## What a fault report leaves alone -/

@[simp] theorem brakesSet_guard (s : State) : (brakesSet s).guard = s.guard := rfl
@[simp] theorem brakesSet_channel (s : State) : (brakesSet s).channel = s.channel := rfl
@[simp] theorem brakesSet_seq (s : State) : (brakesSet s).seq = s.seq := rfl

@[simp] theorem endJog_guard (s : State) : (endJog s).guard = s.guard := by
  unfold endJog
  split <;> rfl

@[simp] theorem endJog_channel (s : State) : (endJog s).channel = s.channel := by
  unfold endJog
  split <;> rfl

/-- A report touches no arm, no lamp and not the deck: the measurement outlives a hold (R136). -/
@[simp] theorem reportFault_guard (c : FaultCause) (s : State) : (reportFault c s).guard = s.guard := by
  rcases seqState_kinds s.seq.state with h | h | h | h | h
  · rw [reportFault_inactive h]
  · rw [reportFault_positionLost h]
    exact endJog_guard s
  · rw [reportFault_recovering h]
    simp [setSeq_eq, leaveState, h]
  · rw [reportFault_held h]
    rfl
  · have changed := setSeq_guard_of_hold (.inl rfl : SeqState.faultHold = .faultHold ∨ _) (stopServing (brakesSet s))
    rw [reportFault_running h, raiseControl_guard, addCause_guard, enterFaultHold, mapSeq_guard, changed,
      stopServing_guard, brakesSet_guard]

@[simp] theorem foundFaults_guard (l : List FaultCause) (s : State) : (foundFaults l s).guard = s.guard := by
  unfold foundFaults
  split
  · rfl
  · exact foldl_keeps State.guard (fun s c => reportFault_guard c s) l (endMotion s)

@[simp] theorem reportFault_zoneList (c : FaultCause) (s : State) :
    (reportFault c s).channel.zoneList = s.channel.zoneList := by
  rcases seqState_kinds s.seq.state with h | h | h | h | h
  · rw [reportFault_inactive h]
  · rw [reportFault_positionLost h]
    exact congrArg (·.zoneList) (endJog_channel s)
  · rw [reportFault_recovering h]
    exact congrArg (·.zoneList) (setSeq_channel .positionLost (brakesSet s))
  · rw [reportFault_held h]
    rfl
  · rw [reportFault_running h]
    have changed := congrArg (·.zoneList) (setSeq_channel .faultHold (stopServing (brakesSet s)))
    exact changed.trans (stopServing_zoneList _)

@[simp] theorem foundFaults_zoneList (l : List FaultCause) (s : State) :
    (foundFaults l s).channel.zoneList = s.channel.zoneList := by
  unfold foundFaults
  split
  · rfl
  · exact foldl_keeps (fun t : State => t.channel.zoneList) (fun s c => reportFault_zoneList c s) l (endMotion s)

/-! ## An input sample up to the edges -/

@[simp] theorem armFault_channel (a : Arm) (why : ArmFaultReason) (s : State) : (armFault a why s).channel = s.channel :=
  rfl

theorem channel_of_offRoad {s t : State} (h : offRoad t = offRoad s) : t.channel = s.channel :=
  (congrArg (·.channel) h :)

theorem dropRaising_channel (s : State) (a : Arm) : (dropRaising s a).channel = s.channel := by
  unfold dropRaising
  split <;> rfl

theorem firstArmSample_channel (x : RawInputs) (s : State) (a : Arm) : (firstArmSample x s a).channel = s.channel := by
  unfold firstArmSample
  dsimp only
  (repeat' split) <;> rfl

theorem obstructArm_channel (a : Arm) (s : State) : (obstructArm a s).channel = s.channel := by
  unfold obstructArm
  dsimp only
  split <;> rfl

theorem arriveUp_channel (a : Arm) (s : State) : (arriveUp a s).channel = s.channel := by
  unfold arriveUp
  dsimp only
  split <;> rfl

theorem armSample_channel (x : RawInputs) (s : State) (a : Arm) : (armSample x s a).channel = s.channel := by
  unfold armSample
  dsimp only
  (repeat' split) <;> simp [obstructArm_channel, arriveUp_channel]

theorem sampleBolts_zoneList (s : State) : (sampleBolts s).channel.zoneList = s.channel.zoneList := by
  unfold sampleBolts boltsSample
  dsimp only
  (repeat' split) <;> simp

theorem followSecure_zoneList (s : State) : (followSecure s).channel.zoneList = s.channel.zoneList := by
  have dropped : ∀ t : State, (allArms.foldl dropRaising t).channel = t.channel :=
    foldl_keeps State.channel dropRaising_channel allArms
  unfold followSecure
  dsimp only
  (repeat' split)
  · rfl
  · exact congrArg (·.zoneList) (dropped _)
  · exact (foundFaults_zoneList _ _).trans (congrArg (·.zoneList) (dropped _))

theorem sampleArms_zoneList (first : Bool) (s : State) :
    (sampleArms first s).channel.zoneList = s.channel.zoneList := by
  have firsts : ∀ t : State, (allArms.foldl (firstArmSample (filtered s)) t).channel = t.channel :=
    foldl_keeps State.channel (firstArmSample_channel _) allArms
  have laters : ∀ t : State, (allArms.foldl (armSample (filtered s)) t).channel = t.channel :=
    foldl_keeps State.channel (armSample_channel _) allArms
  unfold sampleArms
  dsimp only
  (repeat' split)
  · exact congrArg (·.zoneList) (firsts _)
  · exact (foundFaults_zoneList _ _).trans (congrArg (·.zoneList) (laters _))
  · exact congrArg (·.zoneList) (laters _)

theorem offRoad_firstPhases (s : State) : offRoad (firstPhases s) = offRoad s := by
  unfold firstPhases firstPhase
  (repeat' split) <;> simp

/-- An input sample leaves the zone list up to its edges: no opening ends in it (R75). -/
theorem beforeEdges_zoneList (raw : RawInputs) (s : State) :
    (beforeEdges raw s).channel.zoneList = s.channel.zoneList := by
  unfold beforeEdges
  dsimp only
  rw [channel_of_offRoad (offRoad_deckSample _ _ _)]
  have first : ∀ (b : Bool) (t : State), (if b then firstPhases t else t).channel.zoneList = t.channel.zoneList := by
    intro b t
    split
    · rw [channel_of_offRoad (offRoad_firstPhases t)]
    · rfl
  have secure : ∀ (b : Bool) (t : State), (if b then followSecure t else t).channel.zoneList = t.channel.zoneList := by
    intro b t
    split
    · exact followSecure_zoneList t
    · rfl
  rw [first, sampleArms_zoneList, secure, sampleBolts_zoneList]
  rfl

end Sys2Proof.Machine
end


section
/-!
Crossings (R176, R184 to R189): what an ENTER, an EXIT and an approach that clears make of the slots.
-/

namespace Sys2Proof.Machine

/-! ## Slots ended, taken out, put back -/

/-- A slot as its end leaves it (R74). -/
def Slot.ended (x : Slot) (o : PassageOutcome) : Slot :=
  { x with state := .done, outcome := some o, noShow := .stopped, overdue := false, short := false, kept := false }

/-- A slot as its return to WAITING leaves it (R183, R189). -/
def Slot.reverted (x : Slot) : Slot :=
  { x with state := .waiting, noShow := .stopped, overdue := false, kept := false }

/-- A slot as an ENTER leaves it (R184). -/
def Slot.entered (x : Slot) : Slot :=
  { x with state := .inZone, noShow := .stopped, overdue := false, short := false, kept := false }

/-- The slot of a number changed in a list. -/
def changeSlot (n : Nat) (f : Slot → Slot) (l : List Slot) : List Slot := l.map (fun y => if y.serial = n then f y else y)

theorem reportIfLost_channel (x : Slot) (s : State) : (reportIfLost x s).channel = s.channel := by
  unfold reportIfLost
  split <;> rfl

theorem finishSlot_spec {x : Slot} {s : State} (o : PassageOutcome) (found : findSlot x.serial s = some x) :
    slots (finishSlot x.serial o s) = changeSlot x.serial (·.ended o) (slots s) ∧
      (finishSlot x.serial o s).channel.zoneList = s.channel.zoneList.filter (· != x.serial) ∧
      (finishSlot x.serial o s).table = s.table ∧
      (x.entry = none → Lit .control 9 (finishSlot x.serial o s)) := by
  unfold finishSlot
  rw [found]
  dsimp only
  refine ⟨?_, ?_, reportIfLost_table _ _, fun lost => ?_⟩
  · rw [slots_of_seq (reportIfLost_seq _ _)]
    exact slots_mapSlot _ _ _
  · rw [reportIfLost_channel]
    rfl
  · rw [reportIfLost, lost]
    exact lit_of_raiseControl .lostMemberDone _

/-- What the end of a slot, with its entry's conclusion, leaves before the closing-call rule. -/
def EndedBy (o : PassageOutcome) (x : Slot) (s v : State) : Prop :=
  slots v = changeSlot x.serial (·.ended o) (slots s) ∧
    v.channel.zoneList = s.channel.zoneList.filter (· != x.serial) ∧ EntryConcluded o x s v ∧
    (x.entry = none → Lit .control 9 v)

theorem concludeSlot_spec (o : PassageOutcome) {s : State} {x : Slot} (hm : SlotsMatched s) (hs : TableSound s)
    (hx : x ∈ slots s) (open_ : x.state ≠ .done) :
    ∃ v, concludeSlot o x.serial s = checkAllDone v ∧ EndedBy o x s v := by
  have may : (Change.conclude o).madeFrom x.state.entryState = true := by
    revert open_
    cases x.state <;> simp [Change.madeFrom, SlotState.entryState, EntryState.inOpening]
  have seq := asked_seq (.conclude o) x hs
  have found : findSlot x.serial (asked (.conclude o) x s) = some x :=
    (findSlot_of_seq seq _).trans (findSlot_of_mem (numbered_of_matched hm) hx)
  obtain ⟨hslots, hzone, htable, hlost⟩ := finishSlot_spec o found
  refine ⟨finishSlot x.serial o (asked (.conclude o) x s), withAsked_matched hm hs hx open_ may, ?_, ?_, ?_, hlost⟩
  · rw [hslots, slots_of_seq seq]
  · rw [hzone, asked_channel _ _ hs]
  · intro i hi
    rw [entryAt_of_table htable]
    exact asked_conclude o hs (fun i hi => (entry_of_matched hm hx open_ hi).1) i hi

/-- A change of an entry's state and of no more of the table. -/
theorem entryAt_asked_state {c : Change} {x : Slot} {st : EntryState} {s : State} (hm : SlotsMatched s)
    (hs : TableSound s) (hx : x ∈ slots s) (open_ : x.state ≠ .done)
    (writes : ∀ i, applyChange c i s = writeEntry i { entryAt s i with state := st } s) :
    ∀ i, x.entry = some i → (entryAt (asked c x s) i).state = st := by
  intro i hi
  rw [asked_named _ hi, writes, entryAt_writeEntry_same _ hs (entry_of_matched hm hx open_ hi).1]

theorem revertSlot_spec {s : State} {x : Slot} (hm : SlotsMatched s) (hs : TableSound s) (hx : x ∈ slots s)
    (given : x.state = .proceedGiven) :
    slots (revertSlot x.serial s) = changeSlot x.serial Slot.reverted (slots s) ∧
      ∀ i, x.entry = some i → (entryAt (revertSlot x.serial s) i).state = .assigned := by
  have open_ : x.state ≠ .done := by simp [given]
  have eq : revertSlot x.serial s = mapSlot x.serial Slot.reverted (asked .revert x s) :=
    withAsked_matched hm hs hx open_ (by rw [given]; rfl)
  rw [eq]
  refine ⟨?_, ?_⟩
  · rw [slots_mapSlot, slots_of_seq (asked_seq _ _ hs)]
    rfl
  · exact entryAt_asked_state hm hs hx open_ fun _ => rfl

/-! ## The crossing counts -/

/-- A state but for the zone count and what is pending. -/
def recounted (p : PerPort PortRecord) (n : Nat) (s : State) : State :=
  { s with ports := p, channel := { s.channel with zoneCount := n } }

theorem countEnter_eq (s : State) : countEnter s = recounted (countEnter s).ports (countEnter s).channel.zoneCount s := by
  unfold countEnter
  split <;> rfl

theorem countExit_eq (s : State) : countExit s = recounted (countExit s).ports (countExit s).channel.zoneCount s := by
  unfold countExit
  split <;> rfl

/-- An ENTER behind its count (R184 to R186). -/
def matchEnter (d : Direction) (s : State) : State :=
  if !raisedPhase s then s
  else
    match oldestGiven s d with
    | some x => withAsked .enter x.serial (fun s =>
        mapChannel (fun c => { c with zoneList := c.zoneList ++ [x.serial] }) (mapSlot x.serial Slot.entered s)) s
    | none =>
      if s.channel.servingRuns && s.channel.serving == some d.opposite then stopServing (raiseControl .conflict s)
      else raiseControl .unlisted s

theorem enterCrossing_eq (d : Direction) (s : State) : enterCrossing d s = matchEnter d (countEnter s) := rfl

/-- The direction of the vessels that leave at an edge (R187). -/
def departing : Edge → Direction
  | .d => .outbound
  | .u => .inbound

theorem departing_eq (e : Edge) : (Edge.arrivals e).opposite = departing e := by cases e <;> rfl

/-- An EXIT behind its count (R187). -/
def matchExit (e : Edge) (s : State) : State :=
  if !raisedPhase s then s
  else
    match earliestInZone s (departing e) with
    | some x => concludeSlot .passed x.serial s
    | none =>
      match earliestInZone s (departing e).opposite with
      | some x => if closingCall s then concludeSlot .turnedOut x.serial s else revertTurned x.serial s
      | none => raiseControl .unlisted s

theorem exitCrossing_eq (e : Edge) (s : State) : exitCrossing e s = matchExit e (countExit s) := by cases e <;> rfl

theorem lit_matchEnter {port : Port} {bit : Nat} (d : Direction) (s : State) (lit : Lit port bit s) :
    Lit port bit (matchEnter d s) := by
  unfold matchEnter
  (repeat' split)
  · exact lit
  · exact lit_withAsked _ _ _ (fun t lit => lit_mapChannel _ _ (lit_mapSlot _ _ t lit)) s lit
  · simp [lit]
  · simp [lit]

theorem lit_revertTurned {port : Port} {bit : Nat} (n : Nat) (s : State) (lit : Lit port bit s) :
    Lit port bit (revertTurned n s) :=
  lit_withAsked _ _ _ (fun t lit => lit_checkOneSlot _ _ (lit_of_ports (by rfl) lit)) s lit

theorem lit_matchExit {port : Port} {bit : Nat} (e : Edge) (s : State) (lit : Lit port bit s) :
    Lit port bit (matchExit e s) := by
  unfold matchExit
  (repeat' split)
  · exact lit
  · exact lit_concludeSlot _ _ s lit
  · exact lit_concludeSlot _ _ s lit
  · exact lit_revertTurned _ s lit
  · exact lit_raiseControl _ s lit

theorem enterCrossing_zoneCount (d : Direction) (s : State) :
    (enterCrossing d s).channel.zoneCount = (countEnter s).channel.zoneCount :=
  (congrArg Outer.zoneCount (outer_enterCrossing d s) :)

theorem exitCrossing_zoneCount (e : Edge) (s : State) :
    (exitCrossing e s).channel.zoneCount = (countExit s).channel.zoneCount :=
  (congrArg Outer.zoneCount (outer_exitCrossing e s) :)

theorem countEnter_below {s : State} (h : s.channel.zoneCount < 8) :
    (countEnter s).channel.zoneCount = s.channel.zoneCount + 1 := by
  unfold countEnter
  rw [if_pos (show s.channel.zoneCount < Config.zoneMax from h)]
  rfl

theorem countEnter_full {s : State} (h : 8 ≤ s.channel.zoneCount) : countEnter s = raiseControl .countError s :=
  if_neg (not_lt.mpr h)

theorem countExit_above {s : State} (h : s.channel.zoneCount ≠ 0) :
    (countExit s).channel.zoneCount = s.channel.zoneCount - 1 := by
  unfold countExit
  rw [if_neg (by simpa using h)]
  rfl

theorem countExit_empty {s : State} (h : s.channel.zoneCount = 0) : countExit s = raiseControl .countError s :=
  if_pos (by simpa using h)

theorem raisedPhase_recounted (p : PerPort PortRecord) (n : Nat) (s : State) :
    raisedPhase (recounted p n s) = raisedPhase s := rfl

theorem enterCrossing_unraised {d : Direction} {s : State} (h : raisedPhase s = false) :
    enterCrossing d s = countEnter s := by
  have low : raisedPhase (countEnter s) = false := by rw [countEnter_eq, raisedPhase_recounted, h]
  rw [enterCrossing_eq, matchEnter, low]
  rfl

theorem exitCrossing_unraised {e : Edge} {s : State} (h : raisedPhase s = false) : exitCrossing e s = countExit s := by
  have low : raisedPhase (countExit s) = false := by rw [countExit_eq, raisedPhase_recounted, h]
  rw [exitCrossing_eq, matchExit, low]
  rfl

/-! ## The slot given PROCEED first -/

/-- The earlier given of a slot found and another. -/
def earlierGiven (best : Option Slot) (x : Slot) : Option Slot :=
  match best with
  | none => some x
  | some b => if x.givenAt < b.givenAt then some x else some b

theorem foldl_earlierGiven {x : Slot} (l : List Slot) (best : Option Slot)
    (first : ∀ y ∈ l, y = x ∨ x.givenAt < y.givenAt) (sofar : ∀ b, best = some b → b = x ∨ x.givenAt < b.givenAt)
    (inside : x ∈ l ∨ best = some x) : l.foldl earlierGiven best = some x := by
  induction l generalizing best with
  | nil => simpa using inside
  | cons y l ih =>
    have next : ∀ b, earlierGiven best y = some b → b = x ∨ x.givenAt < b.givenAt := by
      intro b hb
      unfold earlierGiven at hb
      split at hb
      · exact Option.some.inj hb ▸ first y (by simp)
      · next c => split at hb
                  · exact Option.some.inj hb ▸ first y (by simp)
                  · exact Option.some.inj hb ▸ sofar c rfl
    refine ih _ (fun z hz => first z (by simp [hz])) next ?_
    by_cases later : x ∈ l
    · exact .inl later
    · refine .inr ?_
      have here : x = y ∨ best = some x := by simpa [later] using inside
      rcases here with rfl | found
      · unfold earlierGiven
        split
        · rfl
        · next c =>
          rcases sofar c rfl with rfl | less
          · simp
          · rw [if_pos less]
      · have notless : ¬ y.givenAt < x.givenAt := by
          rcases first y (by simp) with rfl | less
          · exact lt_irrefl _
          · exact not_lt.mpr less.le
        simp [found, earlierGiven, notless]

theorem oldestGiven_eq (s : State) (d : Direction) : oldestGiven s d =
    ((slots s).filter (fun x => x.direction == d && x.state == .proceedGiven)).foldl earlierGiven none := rfl

theorem oldestGiven_of_first {s : State} {d : Direction} {x : Slot} (hx : x ∈ slots s) (dir : x.direction = d)
    (given : x.state = .proceedGiven)
    (first : ∀ y ∈ slots s, y.direction = d → y.state = .proceedGiven → y = x ∨ x.givenAt < y.givenAt) :
    oldestGiven s d = some x := by
  rw [oldestGiven_eq]
  refine foldl_earlierGiven _ none (fun y hy => ?_) (fun b hb => by cases hb) (.inl ?_)
  · obtain ⟨mem, test⟩ := List.mem_filter.1 hy
    simp only [Bool.and_eq_true, beq_iff_eq] at test
    exact first y mem test.1 test.2
  · simp [hx, dir, given]

theorem oldestGiven_none {s : State} {d : Direction}
    (none_ : ∀ y ∈ slots s, ¬ (y.direction = d ∧ y.state = .proceedGiven)) : oldestGiven s d = none := by
  rw [oldestGiven_eq, List.filter_eq_nil_iff.2 fun y hy => by simpa using none_ y hy]
  rfl

/-! ## An ENTER -/

/-- The member that enters goes into the zone (R184). -/
theorem matchEnter_member {s : State} {d : Direction} {x : Slot} (hm : SlotsMatched s) (hs : TableSound s)
    (raised : raisedPhase s = true) (hx : x ∈ slots s) (dir : x.direction = d) (given : x.state = .proceedGiven)
    (first : ∀ y ∈ slots s, y.direction = d → y.state = .proceedGiven → y = x ∨ x.givenAt < y.givenAt) :
    slots (matchEnter d s) = changeSlot x.serial Slot.entered (slots s) ∧
      (matchEnter d s).channel.zoneList = s.channel.zoneList ++ [x.serial] ∧
      ∀ i, x.entry = some i → (entryAt (matchEnter d s) i).state = .transiting := by
  have open_ : x.state ≠ .done := by simp [given]
  have eq : matchEnter d s = mapChannel (fun c => { c with zoneList := c.zoneList ++ [x.serial] })
      (mapSlot x.serial Slot.entered (asked .enter x s)) := by
    unfold matchEnter
    rw [raised, oldestGiven_of_first hx dir given first]
    exact withAsked_matched hm hs hx open_ (by rw [given]; rfl)
  rw [eq]
  refine ⟨?_, ?_, ?_⟩
  · have mapped := slots_mapSlot x.serial Slot.entered (asked .enter x s)
    rw [slots_of_seq (asked_seq _ _ hs)] at mapped
    exact mapped
  · exact congrArg (·.zoneList ++ [x.serial]) (asked_channel .enter x hs)
  · exact entryAt_asked_state hm hs hx open_ fun _ => rfl

theorem matchEnter_stranger {s : State} {d : Direction} (raised : raisedPhase s = true)
    (none_ : ∀ y ∈ slots s, ¬ (y.direction = d ∧ y.state = .proceedGiven)) : matchEnter d s =
      if s.channel.servingRuns && s.channel.serving == some d.opposite then stopServing (raiseControl .conflict s)
      else raiseControl .unlisted s := by
  unfold matchEnter
  rw [raised, oldestGiven_none none_]
  rfl

theorem stopServing_runs (s : State) : (stopServing s).channel.servingRuns = false := by
  rw [stopServing_channel]
  rfl

/-! ## An EXIT -/

theorem earliestInZone_some {s : State} {d : Direction} {x : Slot} (h : earliestInZone s d = some x) :
    x ∈ slots s ∧ x.direction = d := by
  obtain ⟨n, -, found⟩ := List.exists_of_findSome?_eq_some h
  obtain ⟨slot, dir⟩ := Option.filter_eq_some_iff.1 found
  exact ⟨(findSlot_some slot).1, by simpa using dir⟩

/-! ### A vessel that turns back -/

theorem find?_insertBefore {p : Slot → Bool} {x : Slot} (hx : p x = true) (l : List Slot) :
    (insertBefore p x l).find? p = some x := by
  induction l with
  | nil => simp [insertBefore, hx]
  | cons y l ih =>
    unfold insertBefore
    split
    · simp [hx]
    · next h => simp [h, ih]

theorem length_insertBefore (p : Slot → Bool) (x : Slot) (l : List Slot) :
    (insertBefore p x l).length = l.length + 1 := by
  induction l with
  | nil => rfl
  | cons y l ih =>
    unfold insertBefore
    split <;> simp [ih]

theorem Numbered.length_without {l : List Slot} (h : Numbered l) {x : Slot} (hx : x ∈ l) :
    (l.filter (fun z => z.serial != x.serial)).length + 1 = l.length := by
  induction h with
  | nil => cases hx
  | @cons z l hz _ ih =>
    rcases List.mem_cons.1 hx with rfl | hx'
    · have kept : l.filter (fun y => y.serial != x.serial) = l :=
        List.filter_eq_self.2 fun y hy => by simpa using (hz y hy).symm
      simp [kept]
    · have other : z.serial ≠ x.serial := hz x hx'
      simp [other, ih hx']

theorem Numbered.find? {l : List Slot} (h : Numbered l) {x : Slot} (hx : x ∈ l) :
    l.find? (fun y => y.serial == x.serial) = some x := by
  cases hf : l.find? (fun y => y.serial == x.serial) with
  | none => simpa using List.find?_eq_none.1 hf x hx
  | some y =>
    have same : y.serial = x.serial := by simpa using List.find?_some hf
    rw [h.eq (List.mem_of_find?_eq_some hf) hx same]

/-- The slot moved ahead is the first that waits in its direction, and no slot is lost (R187). -/
theorem moveAhead_spec {l : List Slot} (h : Numbered l) {x : Slot} (hx : x ∈ l) (waits : x.state = .waiting) :
    (moveAhead x.serial l).find? (fun y => y.direction == x.direction && y.state == .waiting) = some x ∧
      (moveAhead x.serial l).length = l.length := by
  have itself : (x.direction == x.direction && x.state == .waiting) = true := by simp [waits]
  unfold moveAhead
  rw [h.find? hx]
  dsimp only
  cases hf : l.find? (fun y => y.direction == x.direction && y.state == .waiting) with
  | none => exact absurd itself (List.find?_eq_none.1 hf x hx)
  | some y =>
    dsimp only
    split
    · next same =>
      have : y = x := h.eq (List.mem_of_find?_eq_some hf) hx (by simpa using same)
      exact ⟨this ▸ hf, rfl⟩
    · exact ⟨find?_insertBefore itself _, by rw [length_insertBefore, h.length_without hx]⟩

/-- A check of one slot changes no more of the slots than their marks (R190). -/
theorem checkOneSlot_slots (n : Nat) (s : State) : ∃ g : Slot → Slot,
    slots (checkOneSlot n s) = (slots s).map g ∧ ∀ y, g y = { y with short := (g y).short } := by
  have kept : ∃ g : Slot → Slot, slots s = (slots s).map g ∧ ∀ y, g y = { y with short := (g y).short } :=
    ⟨id, by simp, fun _ => rfl⟩
  have marked : ∀ (t : State) (m : Nat) (b : Bool), slots t = slots s → ∃ g : Slot → Slot,
      slots (mapSlot m (fun x => { x with short := b }) t) = (slots s).map g ∧
        ∀ y, g y = { y with short := (g y).short } := fun t m b same =>
    ⟨fun y => if y.serial = m then { y with short := b } else y, by rw [slots_mapSlot, same],
      fun y => by dsimp only; split <;> rfl⟩
  have raised : ∀ (b : Bool) (x : ControlSource), slots (if b then raiseControl x s else s) = slots s := by
    intro b x
    split <;> rfl
  unfold checkOneSlot
  cases findSlot n s with
  | none => exact kept
  | some w =>
    dsimp only
    change ∃ g, slots (checkSlot s w) = _ ∧ _
    unfold checkSlot
    dsimp only
    cases w.state with
    | waiting => exact marked _ _ _ (raised _ _)
    | proceedGiven => exact marked _ _ _ (raised _ _)
    | inZone =>
      obtain ⟨g, same, marks⟩ := kept
      exact ⟨g, (raised _ _).trans same, marks⟩
    | done => exact kept

theorem checkSlot_table (s : State) (x : Slot) : (checkSlot s x).table = s.table := by
  unfold checkSlot
  dsimp only
  (repeat' split) <;> rfl

theorem checkSlot_channel (s : State) (x : Slot) : (checkSlot s x).channel = s.channel := by
  unfold checkSlot
  dsimp only
  (repeat' split) <;> rfl

theorem checkOneSlot_table (n : Nat) (s : State) : (checkOneSlot n s).table = s.table := by
  unfold checkOneSlot
  split
  · exact checkSlot_table _ _
  · rfl

theorem checkOneSlot_zoneList (n : Nat) (s : State) : (checkOneSlot n s).channel.zoneList = s.channel.zoneList := by
  unfold checkOneSlot
  split
  · exact congrArg (·.zoneList) (checkSlot_channel _ _)
  · rfl

theorem Numbered.changeSlot {l : List Slot} (h : Numbered l) (n : Nat) {f : Slot → Slot}
    (keeps : ∀ x, (f x).serial = x.serial) : Numbered (changeSlot n f l) := by
  refine List.Pairwise.map _ (fun x y distinct => ?_) h
  have serial : ∀ z : Slot, (if z.serial = n then f z else z).serial = z.serial := by
    intro z
    split
    · exact keeps z
    · rfl
  rw [serial, serial]
  exact distinct

/-- A vessel that turns back with the closing call clear waits again, ahead of its direction (R187). -/
theorem revertTurned_spec {s : State} {x : Slot} (hm : SlotsMatched s) (hs : TableSound s) (hx : x ∈ slots s)
    (inside : x.state = .inZone) :
    (∃ y, firstWaiting (revertTurned x.serial s) x.direction = some y ∧ y.serial = x.serial ∧ y.noShow = .stopped ∧
      y.overdue = false) ∧ (slots (revertTurned x.serial s)).length = (slots s).length ∧
      (revertTurned x.serial s).channel.zoneList = s.channel.zoneList.filter (· != x.serial) ∧
      ∀ i, x.entry = some i → (entryAt (revertTurned x.serial s) i).state = .assigned := by
  have open_ : x.state ≠ .done := by simp [inside]
  have eq : revertTurned x.serial s = checkOneSlot x.serial
      (mapOpening (fun o => { o with slots := moveAhead x.serial o.slots })
        (leaveZone x.serial (mapSlot x.serial Slot.reverted (asked .revert x s)))) :=
    withAsked_matched hm hs hx open_ (by rw [inside]; rfl)
  have moved : slots (mapOpening (fun o => { o with slots := moveAhead x.serial o.slots })
      (leaveZone x.serial (mapSlot x.serial Slot.reverted (asked .revert x s)))) =
        moveAhead x.serial (changeSlot x.serial Slot.reverted (slots s)) := by
    have back := slots_mapSlot x.serial Slot.reverted (asked .revert x s)
    rw [slots_of_seq (asked_seq _ _ hs)] at back
    have whole : ∀ t : State, slots (mapOpening (fun o => { o with slots := moveAhead x.serial o.slots }) t) =
        moveAhead x.serial (slots t) := by
      intro t
      rw [slots_mapOpening]
      unfold slots
      cases t.seq.opening <;> rfl
    exact (whole _).trans (congrArg (moveAhead x.serial) back)
  have numbered := (numbered_of_matched hm).changeSlot x.serial (f := Slot.reverted) fun _ => rfl
  have member : x.reverted ∈ changeSlot x.serial Slot.reverted (slots s) :=
    List.mem_map.2 ⟨x, hx, if_pos rfl⟩
  obtain ⟨first, length⟩ := moveAhead_spec numbered member rfl
  obtain ⟨g, marked, marks⟩ := checkOneSlot_slots x.serial
    (mapOpening (fun o => { o with slots := moveAhead x.serial o.slots })
      (leaveZone x.serial (mapSlot x.serial Slot.reverted (asked .revert x s))))
  rw [eq]
  refine ⟨⟨g x.reverted, ?_, ?_, ?_, ?_⟩, ?_, ?_, ?_⟩
  · have tests : (fun y : Slot => y.direction == x.direction && y.state == .waiting) ∘ g =
        fun y => y.direction == x.direction && y.state == .waiting := by
      funext y
      rw [Function.comp_apply, marks y]
    rw [firstWaiting, marked, moved, List.find?_map, tests]
    exact congrArg (Option.map g) first
  · rw [marks]; rfl
  · rw [marks]; rfl
  · rw [marks]; rfl
  · rw [marked, moved, List.length_map]
    exact length.trans (List.length_map _)
  · rw [checkOneSlot_zoneList]
    exact congrArg (fun c : Channel => c.zoneList.filter (· != x.serial)) (asked_channel .revert x hs)
  · intro i hi
    rw [entryAt_of_table (checkOneSlot_table _ _)]
    exact entryAt_asked_state hm hs hx open_ (fun _ => rfl) i hi

/-- The earliest member of the direction that leaves at the edge has PASSED (R187). -/
theorem matchExit_passed {s : State} {e : Edge} {x : Slot} (hm : SlotsMatched s) (hs : TableSound s)
    (raised : raisedPhase s = true) (inside : x.state = .inZone) (found : earliestInZone s (departing e) = some x) :
    ∃ v, matchExit e s = checkAllDone v ∧ EndedBy .passed x s v := by
  obtain ⟨v, eq, ended⟩ := concludeSlot_spec .passed hm hs (earliestInZone_some found).1 (by simp [inside])
  refine ⟨v, ?_, ended⟩
  unfold matchExit
  rw [raised, found]
  exact eq

theorem matchExit_turned {s : State} {e : Edge} {x : Slot} (raised : raisedPhase s = true)
    (none_ : earliestInZone s (departing e) = none) (found : earliestInZone s (departing e).opposite = some x) :
    matchExit e s = if closingCall s then concludeSlot .turnedOut x.serial s else revertTurned x.serial s := by
  unfold matchExit
  rw [raised, none_]
  dsimp only
  rw [found]
  rfl

theorem matchExit_stranger {s : State} {e : Edge} (raised : raisedPhase s = true)
    (none_ : ∀ d, earliestInZone s d = none) : matchExit e s = raiseControl .unlisted s := by
  unfold matchExit
  rw [raised, none_]
  dsimp only
  rw [none_]
  rfl

/-! ## An approach that clears -/

/-- A walk in which one member alone acts, and stands once. -/
theorem foldl_only {α β : Type} {f : β → α → β} {x : α} {l : List α} (once : l.Nodup) (hx : x ∈ l)
    (idle : ∀ y ∈ l, y ≠ x → ∀ t, f t y = t) (s : β) : l.foldl f s = f s x := by
  have quiet : ∀ (l : List α) (t : β), (∀ y ∈ l, ∀ t, f t y = t) → l.foldl f t = t := by
    intro l
    induction l with
    | nil => intro t _; rfl
    | cons y l ih =>
      intro t h
      rw [List.foldl_cons, h y (by simp), ih t fun z hz => h z (by simp [hz])]
  induction l with
  | nil => cases hx
  | cons y l ih =>
    obtain ⟨notin, once⟩ := List.nodup_cons.1 once
    rw [List.foldl_cons]
    by_cases same : y = x
    · subst same
      exact quiet l _ fun z hz => idle z (by simp [hz]) fun h => notin (h ▸ hz)
    · rw [idle y (by simp) same]
      exact ih once (by simpa [Ne.symm same] using hx) fun z hz => idle z (by simp [hz])

theorem Numbered.nodup {l : List Slot} (h : Numbered l) : l.Nodup := by
  refine List.Pairwise.imp (fun {x y} distinct => ?_) h
  rintro rfl
  exact distinct rfl

/-- Only a kept or overdue slot is touched by an approach that clears (R189). -/
theorem clearedSlot_idle {x : Slot} (h : ¬ (x.state = .proceedGiven ∧ (x.kept = true ∨ x.overdue = true))) (s : State) :
    clearedSlot s x = s := if_neg (by simpa using h)

theorem approachCleared_eq {s : State} {d : Direction} {x : Slot} (hm : SlotsMatched s) (hx : x ∈ slots s)
    (dir : x.direction = d)
    (only : ∀ y ∈ slots s, y.direction = d → y.state = .proceedGiven → y.kept = true ∨ y.overdue = true → y = x) :
    approachCleared d s = clearedSlot s x := by
  unfold approachCleared
  refine foldl_only ((numbered_of_matched hm).nodup.filter _) (by simp [hx, dir]) (fun y hy other t => ?_) s
  obtain ⟨mem, test⟩ := List.mem_filter.1 hy
  exact clearedSlot_idle (fun ⟨given, waits⟩ => other (only y mem (by simpa using test) given waits)) t

theorem clearedSlot_eq {x : Slot} (given : x.state = .proceedGiven) (waits : x.kept = true ∨ x.overdue = true)
    (s : State) : clearedSlot s x =
      if closingCall s then
        withAsked .giveBackWithoutEntry x.serial (fun s => checkAllDone (countReturned (removeSlot x.serial s))) s
      else if x.overdue then concludeSlot .noShow x.serial s else revertSlot x.serial s :=
  if_pos (by simpa [given] using waits)

/-- A slot given back with no entry made, the closing call being set (R189). -/
theorem giveBackWithoutEntry_spec {s : State} {x : Slot} {o : Opening} (hm : SlotsMatched s) (hs : TableSound s)
    (ho : s.seq.opening = some o) (hx : x ∈ o.slots) (given : x.state = .proceedGiven) :
    ∃ v o', withAsked .giveBackWithoutEntry x.serial
        (fun s => checkAllDone (countReturned (removeSlot x.serial s))) s = checkAllDone v ∧
      v.seq.opening = some o' ∧ o'.slots = o.slots.filter (fun y => y.serial != x.serial) ∧
      o'.returned = o.returned + 1 ∧ ∀ i, x.entry = some i →
        (i < s.table.tb → (entryAt v i).state = .pending ∧ (entryAt v i).lastOutcome = some .noShow) ∧
        (s.table.tb ≤ i → (entryAt s i).lapseMark ≠ some true →
          (entryAt v i).state = .due ∧ i ∈ v.table.dueList) := by
  have open_ : x.state ≠ .done := by simp [given]
  have mem : x ∈ slots s := (slots_of_opening ho).symm ▸ hx
  have opening : (asked .giveBackWithoutEntry x s).seq.opening = some o := by rw [asked_seq _ _ hs, ho]
  have table : (countReturned (removeSlot x.serial (asked .giveBackWithoutEntry x s))).table =
      (asked .giveBackWithoutEntry x s).table := removeSlot_table _ _
  refine ⟨countReturned (removeSlot x.serial (asked .giveBackWithoutEntry x s)),
    { o with slots := o.slots.filter (fun y => y.serial != x.serial), returned := o.returned + 1 },
    withAsked_matched hm hs mem open_ (by rw [given]; rfl), ?_, rfl, rfl, fun i hi => ?_⟩
  · exact congrArg (Option.map _) (removeSlot_opening opening hx)
  · have lt := (entry_of_matched hm mem open_ hi).1
    rw [entryAt_of_table table, table, asked_named _ hi]
    constructor
    · intro low
      have eq : applyChange .giveBackWithoutEntry i s = concludeEntry i .noShow s := by
        simp only [applyChange, (kindOf_eq_timetable_iff s.table i).2 low]
      rw [eq]
      exact (concludeEntry_outcome .noShow hs lt).2 low
    · intro high unmarked
      have eq : applyChange .giveBackWithoutEntry i s = returnEntry i false s := by
        have kind := kindOf_ne_timetable high
        unfold applyChange
        dsimp only
        split
        · next h => exact absurd h kind
        · rfl
      rw [eq]
      exact returnEntry_spec false hs lt unmarked

/-! ## The edges at a sample -/

/-- The two beams found clear give an INWARD crossing where the outer one broke first and the inner one cleared
last. -/
theorem edgeSample_inward {before now : RawInputs} {e : Edge} {s : State} (outer_ : RawInputs.outer now e = false)
    (inner_ : RawInputs.inner now e = false) (first : s.channel.recognizers.get e = some .outer)
    (ob : RawInputs.outer before e = false) (ib : RawInputs.inner before e = true) :
    edgeSample before now e s = enterCrossing (Edge.arrivals e)
      { s with channel := { s.channel with recognizers := s.channel.recognizers.set e none } } := by
  simp only [edgeSample, recognize, outer_, inner_, first, ob, ib]
  rfl

theorem edgeSample_outward {before now : RawInputs} {e : Edge} {s : State} (outer_ : RawInputs.outer now e = false)
    (inner_ : RawInputs.inner now e = false) (first : s.channel.recognizers.get e = some .inner)
    (ob : RawInputs.outer before e = true) (ib : RawInputs.inner before e = false) :
    edgeSample before now e s = approachCleared (Edge.arrivals e) (exitCrossing e
      { s with channel := { s.channel with recognizers := s.channel.recognizers.set e none } }) := by
  simp only [edgeSample, recognize, outer_, inner_, first, ob, ib]
  rfl

theorem edgeSample_withdrawn {before now : RawInputs} {e : Edge} {s : State} (outer_ : RawInputs.outer now e = false)
    (inner_ : RawInputs.inner now e = false) (first : s.channel.recognizers.get e = some .outer)
    (ob : RawInputs.outer before e = true) (ib : RawInputs.inner before e = false) :
    edgeSample before now e s = approachCleared (Edge.arrivals e)
      { s with channel := { s.channel with recognizers := s.channel.recognizers.set e none } } := by
  simp only [edgeSample, recognize, outer_, inner_, first, ob, ib]
  rfl

/-- Settles O57: crossings are matched with the slots. -/
theorem crossingsMatched : Obligations.CrossingsMatched := by
  unfold Obligations.CrossingsMatched
  refine ⟨fun s d => ⟨⟨fun h => ?_, fun h => ⟨?_, ?_⟩⟩, fun low => ?_⟩,
    fun s e => ⟨⟨fun h => ?_, fun h => ⟨?_, ?_⟩⟩, fun low => ?_⟩, ?enter, ?stranger, ?exit, ?nobody, ?cleared,
    fun before now e s v ho hi hv => ?edges, fun raw now s hnow => ?sample⟩
  · rw [enterCrossing_zoneCount, countEnter_below h]
  · rw [enterCrossing_zoneCount, countEnter_full h]
    rfl
  · rw [enterCrossing_eq, countEnter_full h]
    exact lit_matchEnter d _ (lit_of_raiseControl .countError s)
  · rw [enterCrossing_unraised low, countEnter_eq]
    exact ⟨rfl, rfl⟩
  · rw [exitCrossing_zoneCount, countExit_above h]
  · rw [exitCrossing_zoneCount, countExit_empty h]
    exact h
  · rw [exitCrossing_eq, countExit_empty h]
    exact lit_matchExit e _ (lit_of_raiseControl .countError s)
  · rw [exitCrossing_unraised low, countExit_eq]
    exact ⟨rfl, rfl⟩
  case enter =>
    rintro s d x u hm hs raised hx dir given first rfl
    rw [enterCrossing_eq, countEnter_eq]
    exact matchEnter_member (s := recounted _ _ s) hm hs raised hx dir given first
  case stranger =>
    rintro s d u raised none_ rfl
    rw [enterCrossing_eq, countEnter_eq]
    generalize (countEnter s).ports = p
    generalize (countEnter s).channel.zoneCount = n
    rw [matchEnter_stranger (s := recounted p n s) raised none_]
    refine ⟨fun runs serving => ?_, fun other => ?_⟩
    · rw [if_pos (by simp [recounted, runs, serving])]
      exact ⟨lit_stopServing _ (lit_of_raiseControl .conflict _), stopServing_serving _, stopServing_runs _⟩
    · rw [if_neg (by simpa [recounted] using other)]
      exact ⟨lit_of_raiseControl .unlisted _, rfl, rfl⟩
  case exit =>
    rintro s e d x hm hs raised rfl inside
    rw [departing_eq, exitCrossing_eq, countExit_eq]
    generalize (countExit s).ports = p
    generalize (countExit s).channel.zoneCount = n
    refine ⟨fun found => ?_, fun none_ found closing => ?_, fun none_ found closing => ?_⟩
    · obtain ⟨v, eq, slots_, zone, entry, lost⟩ := matchExit_passed (s := recounted p n s) hm hs raised inside found
      exact ⟨v, eq, slots_, zone, entry, lost⟩
    · obtain ⟨v, eq, slots_, zone, entry, -⟩ := concludeSlot_spec .turnedOut (s := recounted p n s) hm hs
        (earliestInZone_some found).1 (by simp [inside])
      refine ⟨v, ?_, slots_, zone, entry⟩
      rw [matchExit_turned (s := recounted p n s) raised none_ found, if_pos (by exact closing), eq]
    · obtain ⟨⟨y, first, serial, stopped, due⟩, length, zone, entry⟩ := revertTurned_spec (s := recounted p n s) hm hs
        (earliestInZone_some found).1 inside
      refine ⟨_, y, rfl, ?_⟩
      rw [matchExit_turned (s := recounted p n s) raised none_ found, if_neg (by exact ne_true_of_eq_false closing)]
      exact ⟨first, serial, stopped, due, length, zone, entry⟩
  case nobody =>
    rintro s e u raised none_ rfl
    rw [exitCrossing_eq, countExit_eq]
    generalize (countExit s).ports = p
    generalize (countExit s).channel.zoneCount = n
    rw [matchExit_stranger (s := recounted p n s) raised none_]
    exact ⟨lit_of_raiseControl .unlisted _, rfl, rfl⟩
  case cleared =>
    intro s d x o hm hs ho hx dir given waits only
    have mem : x ∈ slots s := (slots_of_opening ho).symm ▸ hx
    have alone : approachCleared d s = clearedSlot s x :=
      approachCleared_eq hm mem dir (fun y hy => only y ((slots_of_opening ho) ▸ hy))
    rw [alone, clearedSlot_eq given waits]
    refine ⟨fun closing => ?_, fun closing late => ?_, fun closing late => ⟨_, rfl, ?_⟩⟩
    · rw [if_pos closing]
      exact giveBackWithoutEntry_spec hm hs ho hx given
    · obtain ⟨v, eq, slots_, -, entry, -⟩ := concludeSlot_spec .noShow hm hs mem (by simp [given])
      rw [if_neg (ne_true_of_eq_false closing), if_pos late]
      exact ⟨v, eq, slots_, entry⟩
    · rw [if_neg (ne_true_of_eq_false closing), if_neg (ne_true_of_eq_false late)]
      exact revertSlot_spec hm hs mem given
  case edges =>
    subst hv
    exact ⟨edgeSample_inward ho hi, edgeSample_outward ho hi, edgeSample_withdrawn ho hi⟩
  case sample =>
    subst hnow
    have same := outer_beforeEdges raw s
    refine ⟨beforeEdges raw s, sampleEdges raw s, rfl, rfl,
      (recognizers_of_outer same :), (congrArg Outer.zoneCount same :), beforeEdges_zoneList raw s⟩

end Sys2Proof.Machine
end


section
/-!
Serving (R180 to R183), clearance checks (R190) and the re-lift (R87, R191).
-/

namespace Sys2Proof.Machine

/-! ## Slots changed in place -/

theorem find?_changeSlot_ne {n m : Nat} (f : Slot → Slot) (keeps : ∀ x, (f x).serial = x.serial) (h : m ≠ n)
    (l : List Slot) : (changeSlot n f l).find? (fun x => x.serial == m) = l.find? (fun x => x.serial == m) := by
  induction l with
  | nil => rfl
  | cons y l ih =>
    have tail : (changeSlot n f (y :: l)) = (if y.serial = n then f y else y) :: changeSlot n f l := rfl
    rw [tail, List.find?_cons, List.find?_cons, ih]
    split_ifs with same
    · rw [keeps y, same, beq_false_of_ne (Ne.symm h)]
    · rfl

/-- The changes of several slots in turn are one change of each. -/
theorem foldl_changeSlot {f : Slot → Slot} (keeps : ∀ x, (f x).serial = x.serial) {l : List Slot} (h : Numbered l)
    (k : List Slot) : l.foldl (fun k x => changeSlot x.serial f k) k =
      k.map (fun y => if y.serial ∈ l.map (·.serial) then f y else y) := by
  induction h generalizing k with
  | nil => simp
  | @cons x l hx _ ih =>
    rw [List.foldl_cons, ih, changeSlot, List.map_map]
    refine List.map_congr_left fun y _ => ?_
    have apart : x.serial ∉ l.map (·.serial) := by
      simpa using fun z hz => (hx z hz).symm
    by_cases same : y.serial = x.serial
    · simp only [Function.comp_apply, keeps, same, if_neg apart, List.map_cons, List.mem_cons, true_or,
        if_true]
    · simp only [Function.comp_apply, same, if_false, List.map_cons, List.mem_cons, false_or]

theorem foldl_changeSlot_self {f : Slot → Slot} (keeps : ∀ x, (f x).serial = x.serial) {l : List Slot}
    (h : Numbered l) : l.foldl (fun k x => changeSlot x.serial f k) l = l.map f := by
  rw [foldl_changeSlot keeps h]
  exact List.map_congr_left fun y hy => if_pos (List.mem_map.2 ⟨y, hy, rfl⟩)

/-- A change by the slot's own snapshot is a change by the slot's number. -/
theorem changeSlot_congr {l : List Slot} (h : Numbered l) {x : Slot} (hx : x ∈ l) {f g : Slot → Slot}
    (same : f x = g x) : changeSlot x.serial f l = changeSlot x.serial g l := by
  refine List.map_congr_left fun y hy => ?_
  by_cases hxy : y.serial = x.serial
  · rw [h.eq hy hx hxy, same]
  · rw [if_neg hxy, if_neg hxy]

theorem changeSlot_same {l : List Slot} (h : Numbered l) {x : Slot} (hx : x ∈ l) {f : Slot → Slot} (same : f x = x) :
    changeSlot x.serial f l = l := by
  rw [changeSlot_congr h hx (g := id) same]
  exact (List.map_congr_left fun y _ => ite_self _).trans (List.map_id _)

theorem mem_changeSlot_ne {l : List Slot} {x y : Slot} (f : Slot → Slot) (hy : y ∈ l) (h : y.serial ≠ x.serial) :
    y ∈ changeSlot x.serial f l :=
  List.mem_map.2 ⟨y, hy, if_neg h⟩

/-! ## PROCEED (R182) -/

theorem firstWaiting_some {s : State} {d : Direction} {x : Slot} (h : firstWaiting s d = some x) :
    x ∈ slots s ∧ x.direction = d ∧ x.state = .waiting := by
  have test := List.find?_some h
  simp only [Bool.and_eq_true, beq_iff_eq] at test
  exact ⟨List.mem_of_find?_eq_some h, test⟩

theorem giveProceed_spec {s : State} {d : Direction} {x : Slot} {o : Opening} (hm : SlotsMatched s) (hs : TableSound s)
    (ho : s.seq.opening = some o) (hx : firstWaiting s d = some x) :
    slots (giveProceed d s) = changeSlot x.serial (fun y => { y with
        state := .proceedGiven, noShow := .running 0 (60000 * s.params.noShowTime), overdue := false,
        givenAt := o.proceedCount }) o.slots ∧
      ∀ i, x.entry = some i → (entryAt (giveProceed d s) i).state = .cleared := by
  obtain ⟨mem, -, waits⟩ := firstWaiting_some hx
  have open_ : x.state ≠ .done := by simp [waits]
  have eq : giveProceed d s = mapOpening (fun o => { o with
      proceedCount := o.proceedCount + 1,
      slots := o.slots.map (fun y => if y.serial == x.serial then
        { y with state := .proceedGiven, noShow := .start (60000 * (asked .proceed x s).params.noShowTime),
                 overdue := false, givenAt := o.proceedCount } else y) }) (asked .proceed x s) := by
    unfold giveProceed
    rw [hx]
    exact withAsked_matched hm hs mem open_ (by rw [waits]; rfl)
  have opening : (asked .proceed x s).seq.opening = some o := by rw [asked_seq _ _ hs, ho]
  have params : (asked .proceed x s).params = s.params := params_of_offTable (offTable_asked _ _ hs)
  rw [eq]
  constructor
  · rw [slots_mapOpening, opening, params]
    simp only [changeSlot, beq_iff_eq, Timer.start]
  · exact entryAt_asked_state hm hs mem open_ fun _ => rfl

/-! ## Serving stops (R183) -/

/-- A slot as a stop of serving leaves it. -/
def stoppedSlot (s : State) (x : Slot) : Slot :=
  if x.state = .proceedGiven then
    if committed s x.direction then { x with kept := true } else x.reverted
  else x

theorem stoppedSlot_serial (s : State) (x : Slot) : (stoppedSlot s x).serial = x.serial := by
  unfold stoppedSlot
  split_ifs <;> rfl

theorem stoppedSlot_of_channel {s t : State} (h : t.channel = s.channel) : stoppedSlot t = stoppedSlot s := by
  have near : committed t = committed s := by
    funext d
    rw [committed, committed, h]
  funext x
  rw [stoppedSlot, stoppedSlot, near]

/-- A slot that a stop of serving reverts, with the entry it names. -/
def StopsAt (s : State) (x : Slot) : Prop :=
  x.state = .proceedGiven → ∀ i, x.entry = some i → i < 64 ∧ (entryAt s i).state = .cleared

theorem stopSlot_reverts {s : State} {x : Slot} (given : x.state = .proceedGiven)
    (away : committed s x.direction = false) (hs : TableSound s) (found : findSlot x.serial s = some x)
    (stops : StopsAt s x) : stopSlot s x = mapSlot x.serial Slot.reverted (asked .revert x s) := by
  unfold stopSlot
  rw [if_pos (by simpa using given), if_neg (by simp [away])]
  exact withAsked_eq hs found fun i hi => by rw [(stops given i hi).2]; rfl

theorem stopSlot_spec {s : State} {x : Slot} (hs : TableSound s) (numbered : Numbered (slots s)) (hx : x ∈ slots s)
    (stops : StopsAt s x) :
    slots (stopSlot s x) = changeSlot x.serial (stoppedSlot s) (slots s) ∧ TableSound (stopSlot s x) ∧
      (∀ j, (x.state = .proceedGiven → x.entry ≠ some j) → entryAt (stopSlot s x) j = entryAt s j) ∧
      (x.state = .proceedGiven → committed s x.direction = false → ∀ i, x.entry = some i →
        (entryAt (stopSlot s x) i).state = .assigned) := by
  by_cases given : x.state = .proceedGiven
  · by_cases away : committed s x.direction = true
    · have eq : stopSlot s x = keepSlot x.serial s := by simp [stopSlot, given, away]
      rw [eq]
      refine ⟨?_, hs, fun _ _ => rfl, fun _ h => by rw [away] at h; cases h⟩
      exact (slots_mapSlot _ _ _).trans
        (changeSlot_congr numbered hx (by simp [stoppedSlot, given, away]))
    · have away : committed s x.direction = false := by simpa using away
      rw [stopSlot_reverts given away hs (findSlot_of_mem numbered hx) stops]
      refine ⟨?_, asked_sound _ _ hs, fun j other => entryAt_asked_ne _ hs (other given), fun _ _ i hi => ?_⟩
      · rw [slots_mapSlot, slots_of_seq (asked_seq _ _ hs)]
        exact changeSlot_congr numbered hx (by simp [stoppedSlot, given, away])
      · change (entryAt (asked .revert x s) i).state = _
        rw [asked_named _ hi]
        exact congrArg Entry.state (entryAt_writeEntry_same _ hs (stops given i hi).1)
  · have eq : stopSlot s x = s := by simp [stopSlot, given]
    rw [eq]
    exact ⟨(changeSlot_same numbered hx (by simp [stoppedSlot, given])).symm, hs, fun _ _ => rfl,
      fun h => absurd h given⟩

/-- The slots of a list name different entries where they name any and are not DONE. -/
def NamesApart (l : List Slot) : Prop :=
  l.Pairwise (fun x y => x.state ≠ .done → y.state ≠ .done → x.entry.isSome = true → x.entry ≠ y.entry)

theorem foldl_stopSlot {l : List Slot} (numbered : Numbered l) (apart : NamesApart l) {s : State} (hs : TableSound s)
    (all : Numbered (slots s)) (inside : ∀ x ∈ l, x ∈ slots s) (stops : ∀ x ∈ l, StopsAt s x) :
    slots (l.foldl stopSlot s) = l.foldl (fun k x => changeSlot x.serial (stoppedSlot s) k) (slots s) ∧
      (∀ j, (∀ x ∈ l, x.state = .proceedGiven → x.entry ≠ some j) →
        entryAt (l.foldl stopSlot s) j = entryAt s j) ∧
      ∀ x ∈ l, x.state = .proceedGiven → committed s x.direction = false → ∀ i, x.entry = some i →
        (entryAt (l.foldl stopSlot s) i).state = .assigned := by
  induction l generalizing s with
  | nil => exact ⟨rfl, fun _ _ => rfl, fun x hx => by cases hx⟩
  | cons x l ih =>
    obtain ⟨others, numbered⟩ := List.pairwise_cons.1 numbered
    obtain ⟨otherNames, apart⟩ := List.pairwise_cons.1 apart
    obtain ⟨slots_, sound, kept, here⟩ := stopSlot_spec hs all (inside x (by simp)) (stops x (by simp))
    have channel := stopSlot_channel s x
    have stillThere : ∀ y ∈ l, y ∈ slots (stopSlot s x) := fun y hy =>
      slots_ ▸ mem_changeSlot_ne _ (inside y (by simp [hy])) (others y hy).symm
    have away : ∀ y ∈ l, y.state = .proceedGiven → ∀ i, y.entry = some i → x.state = .proceedGiven →
        x.entry ≠ some i := by
      intro y hy given i hi hgiven same
      exact otherNames y hy (by simp [hgiven]) (by simp [given]) (by simp [same]) (same.trans hi.symm)
    have stillStops : ∀ y ∈ l, StopsAt (stopSlot s x) y := by
      intro y hy given i hi
      rw [kept i (away y hy given i hi)]
      exact stops y (by simp [hy]) given i hi
    obtain ⟨slotsL, keptL, hereL⟩ := ih numbered apart sound
      (slots_ ▸ all.changeSlot _ (stoppedSlot_serial s)) stillThere stillStops
    rw [stoppedSlot_of_channel channel, slots_] at slotsL
    refine ⟨slotsL, fun j hj => ?_, fun y hy given away_ i hi => ?_⟩
    · rw [List.foldl_cons, keptL j fun y hy => hj y (by simp [hy]), kept j (hj x (by simp))]
    · rcases List.mem_cons.1 hy with rfl | hy
      · have rest : ∀ z ∈ l, z.state = .proceedGiven → z.entry ≠ some i := by
          intro z hz hgiven same
          exact away z hz hgiven i same given hi
        rw [List.foldl_cons, keptL i rest]
        exact here given away_ i hi
      · exact hereL y hy given (by simpa [committed, channel] using away_) i hi

theorem namesApart_of_matched {s : State} (h : SlotsMatched s) : NamesApart (slots s) := by
  unfold slots
  cases ho : s.seq.opening with
  | none => exact .nil
  | some o =>
    obtain ⟨-, -, -, -, -, -, apart⟩ := h.2.2 o ho
    exact apart

/-- The direction served is dropped (R183). -/
def idled (s : State) : State := mapChannel (fun c => { c with servingRuns := false }) (dropServing s)

theorem idled_eq (s : State) : idled s = { s with channel := (idled s).channel } := rfl

theorem committed_idled (s : State) (d : Direction) : committed (idled s) d = committed s d := by
  simp only [committed, idled, dropServing, mapChannel_channel]
  cases s.channel.serving <;> rfl

theorem stopServing_spec {s : State} (hm : SlotsMatched s) (hs : TableSound s) :
    slots (stopServing s) = (slots s).map (stoppedSlot s) ∧
      ∀ x ∈ slots s, x.state = .proceedGiven → committed s x.direction = false → ∀ i, x.entry = some i →
        (entryAt (stopServing s) i).state = .assigned := by
  have numbered := numbered_of_matched hm
  obtain ⟨slots_, -, here⟩ := foldl_stopSlot (s := idled s) numbered (namesApart_of_matched hm) hs numbered
    (fun _ h => h) (fun x hx given i hi => by
      have matched := entry_of_matched hm hx (by simp [given]) hi
      rw [given] at matched
      exact matched)
  have same : stoppedSlot (idled s) = stoppedSlot s := by
    funext x
    simp only [stoppedSlot, committed_idled]
  refine ⟨?_, fun x hx given away => here x hx given (by rwa [committed_idled])⟩
  rw [same] at slots_
  exact slots_.trans (foldl_changeSlot_self (stoppedSlot_serial s) numbered)

theorem stopServing_servedLast (s : State) : (stopServing s).channel.servedLast =
    if s.channel.serving.isSome then s.channel.serving else s.channel.servedLast := by
  rw [stopServing_channel]
  simp only [mapChannel_channel, dropServing]
  cases s.channel.serving <;> simp

/-! ## Clearance checks (R190) -/

/-- A slot as a clearance check leaves it. -/
def checkedSlot (s : State) (x : Slot) : Slot :=
  if x.state = .waiting ∨ x.state = .proceedGiven then { x with short := !sufficient s x.airDraft } else x

theorem checkedSlot_serial (s : State) (x : Slot) : (checkedSlot s x).serial = x.serial := by
  unfold checkedSlot
  split_ifs <;> rfl

theorem sufficient_of_offSlots {s t : State} (h : offSlots t = offSlots s) (a : Int) :
    sufficient t a = sufficient s a := by
  have water : t.water = s.water := (congrArg (·.water) h :)
  unfold sufficient availableClearance lowerPosition
  rw [drive_of_offSlots h, params_of_offSlots h, water]

theorem checkSlot_slots {s : State} {x : Slot} (numbered : Numbered (slots s)) (hx : x ∈ slots s) :
    slots (checkSlot s x) = changeSlot x.serial (checkedSlot s) (slots s) := by
  have raised : ∀ (b : Bool) (c : ControlSource), slots (if b then raiseControl c s else s) = slots s := by
    intro b c
    split <;> rfl
  unfold checkSlot
  dsimp only
  cases hst : x.state with
  | waiting =>
    rw [slots_mapSlot, raised]
    exact changeSlot_congr numbered hx (by simp [checkedSlot, hst])
  | proceedGiven =>
    rw [slots_mapSlot, raised]
    exact changeSlot_congr numbered hx (by simp [checkedSlot, hst])
  | inZone => exact (raised _ _).trans (changeSlot_same numbered hx (by simp [checkedSlot, hst])).symm
  | done => exact (changeSlot_same numbered hx (by simp [checkedSlot, hst])).symm

theorem foldl_checkSlot {l : List Slot} (numbered : Numbered l) {s : State} (all : Numbered (slots s))
    (inside : ∀ x ∈ l, x ∈ slots s) :
    slots (l.foldl checkSlot s) = l.foldl (fun k x => changeSlot x.serial (checkedSlot s) k) (slots s) := by
  induction l generalizing s with
  | nil => rfl
  | cons x l ih =>
    obtain ⟨others, numbered⟩ := List.pairwise_cons.1 numbered
    have slots_ := checkSlot_slots all (inside x (by simp))
    have same : checkedSlot (checkSlot s x) = checkedSlot s := by
      funext y
      simp only [checkedSlot, sufficient_of_offSlots (offSlots_checkSlot s x)]
    have tail := ih numbered (s := checkSlot s x) (slots_ ▸ all.changeSlot _ (checkedSlot_serial s)) fun y hy =>
      slots_ ▸ mem_changeSlot_ne _ (inside y (by simp [hy])) (others y hy).symm
    rw [same, slots_] at tail
    exact tail

/-- A source that one member's check raises is pending after the walk. -/
theorem lit_of_foldl_checkSlot {bit : Nat} {l : List Slot} {x : Slot} (hx : x ∈ l) {s : State}
    (raises : ∀ t, offSlots t = offSlots s → Lit .control bit (checkSlot t x)) :
    Lit .control bit (l.foldl checkSlot s) := by
  obtain ⟨a, b, rfl⟩ := List.append_of_mem hx
  rw [List.foldl_append, List.foldl_cons]
  exact lit_foldl (fun t y => lit_checkSlot t y) b _
    (raises _ (foldl_keeps offSlots offSlots_checkSlot a s))

theorem checkSlot_lights {s : State} {x : Slot} (waits : x.state = .waiting ∨ x.state = .proceedGiven)
    (long : x.short = false) (low : sufficient s x.airDraft = false) : Lit .control 4 (checkSlot s x) := by
  have eq : checkSlot s x = mapSlot x.serial (fun x => { x with short := true }) (raiseControl .clearanceLow s) := by
    unfold checkSlot
    rcases waits with h | h <;> simp [h, long, low]
  rw [eq]
  exact lit_mapSlot _ _ _ (lit_of_raiseControl .clearanceLow s)

theorem checkSlot_lights_inZone {s : State} {x : Slot} (inside : x.state = .inZone)
    (low : sufficient s x.airDraft = false) : Lit .control 3 (checkSlot s x) := by
  have eq : checkSlot s x = raiseControl .clearanceLowInZone s := by
    unfold checkSlot
    simp [inside, low]
  rw [eq]
  exact lit_of_raiseControl .clearanceLowInZone s

theorem shortEmpty_false_iff (s : State) : shortEmpty s = false ↔ ∃ y ∈ slots s, y.short = true := by
  simp [shortEmpty]

theorem waterAtChannel_raised {s : State} (h : raisedPhase s = true) : waterAtChannel s = clearanceCheck true s := by
  have opening : s.seq.opening.isNone = false := by
    unfold raisedPhase at h
    simp only [Bool.and_eq_true] at h
    simpa [Option.isNone_iff_eq_none, Option.isSome_iff_ne_none] using h.1
  simp [waterAtChannel, opening, h]

theorem clearanceCheck_armed (s : State) : (clearanceCheck true s).channel.reliftArmed = true ↔
    ∃ y ∈ slots (clearanceCheck true s), y.short = true := by
  rw [← shortEmpty_false_iff]
  have same : shortEmpty (clearanceCheck true s) = shortEmpty ((slots s).foldl checkSlot s) := rfl
  rw [same]
  simp only [clearanceCheck, rearm, mapChannel_channel]
  cases shortEmpty ((slots s).foldl checkSlot s) <;> simp

/-! ## Joins outside RAISED -/

theorem verifyGeneration_channel (i : Nat) (s : State) : (verifyGeneration i s).channel = s.channel := by
  unfold verifyGeneration
  dsimp only
  (repeat' split)
  · rfl
  · rfl
  · exact damageEntry_channel _ _

theorem takeMember_channel (n : BitVec 16) (i : Nat) (s : State) : (takeMember n i s).1.channel = s.channel := by
  have asked := (ask_channel (.assign n) i (verifyGeneration i s)).trans (verifyGeneration_channel i s)
  unfold takeMember
  split
  all_goals
    rename_i h
    rw [h] at asked
    exact asked

/-- A join changes nothing at the channel unit but in RAISED (R63, R190). -/
theorem considerJoin_channel {s : State} (h : s.seq.state ≠ .raised) (i : Nat) :
    (considerJoin s i).channel = s.channel := by
  have lowered : (s.seq.state == .raised) = false := by simpa using h
  unfold considerJoin
  cases s.seq.opening with
  | none => rfl
  | some o =>
    dsimp only
    (repeat' split)
    · rfl
    · next joined => exact absurd (lowered.symm.trans joined) (by decide)
    · next t taken _ =>
      have member := takeMember_channel o.number i (verifyEntry i s)
      rw [taken] at member
      exact member.trans (verifyEntry_channel i s)
    · next t taken =>
      have member := takeMember_channel o.number i (verifyEntry i s)
      rw [taken] at member
      exact member.trans (verifyEntry_channel i s)
    · exact verifyEntry_channel i s

theorem considerJoins_channel {s : State} (h : s.seq.state ≠ .raised) (p : Nat → Bool) :
    (considerJoins p s).channel = s.channel := by
  have read : ∀ l, (verifyEntries l s).seq.state = s.seq.state := fun l =>
    seq_state_of_offSlots (offSlots_verifyEntries l s)
  unfold considerJoins
  dsimp only
  refine (List.foldlRecOn (motive := fun t : State => t.channel = s.channel ∧ t.seq.state = s.seq.state) _ _
    ⟨verifyEntries_channel _ s, read _⟩ fun t ht i _ => ?_).1
  obtain ⟨channel, state⟩ := ht
  exact ⟨(considerJoin_channel (state ▸ h) i).trans channel,
    (seq_state_of_offSlots (offSlots_considerJoin t i)).trans state⟩

/-! ## The re-lift -/

theorem beginPhase_motion (s : State) : (beginPhase s).drive.motion = s.drive.motion ∧
    (beginPhase s).drive.direction = s.drive.direction ∧ (beginPhase s).drive.target = s.drive.target := by
  unfold beginPhase
  dsimp only
  (repeat' split) <;> exact ⟨rfl, rfl, rfl⟩

theorem startMotion_motion (m : Motion) (dir : Vertical) (target : Option Int) (s : State) :
    (startMotion m dir target s).drive.motion = m ∧ (startMotion m dir target s).drive.direction = dir ∧
      (startMotion m dir target s).drive.target = target :=
  beginPhase_motion _

theorem beginPhase_frame (s : State) : (beginPhase s).seq = s.seq ∧ (beginPhase s).channel = s.channel := by
  unfold beginPhase
  dsimp only
  (repeat' split) <;> exact ⟨rfl, rfl⟩

theorem startMotion_frame (m : Motion) (dir : Vertical) (target : Option Int) (s : State) :
    (startMotion m dir target s).seq = s.seq ∧ (startMotion m dir target s).channel = s.channel :=
  beginPhase_frame _

/-- RAISE to a target above the span with every arm down (R151). -/
theorem raiseSpan_starts {s : State} {o : Opening} {t : Int} (ho : s.seq.opening = some o) (target : o.target = some t)
    (arms : allArmsDown s = true) (below : spanPosition s < t) : raiseSpan s = startMotion .raise .up (some t) s := by
  unfold raiseSpan
  rw [ho]
  dsimp only
  rw [target]
  dsimp only
  rw [arms, if_neg (by decide), if_neg (not_le.mpr below)]

/-- The opening with its lifts computed anew (R45). -/
def relifted (s : State) (o : Opening) : Opening :=
  { o with slots := o.slots.map (fun x => if x.state == .done then x else { x with lift := requiredLift s x.airDraft }) }

theorem relifted_open (s : State) (o : Opening) : (relifted s o).slots.filter (fun x => x.state != .done) =
    (o.slots.filter (fun x => x.state != .done)).map (fun x => { x with lift := requiredLift s x.airDraft }) := by
  have walk : ∀ l : List Slot, (l.map (fun x => if x.state == .done then x else
      { x with lift := requiredLift s x.airDraft })).filter (fun x => x.state != .done) =
        (l.filter (fun x => x.state != .done)).map (fun x => { x with lift := requiredLift s x.airDraft }) := by
    intro l
    induction l with
    | nil => rfl
    | cons x l ih =>
      rw [List.map_cons]
      by_cases h : x.state = .done
      · rw [if_pos (by simpa using h), List.filter_cons_of_neg (by simp [h]), List.filter_cons_of_neg (by simp [h]), ih]
      · rw [if_neg (by simpa using h), List.filter_cons_of_pos (by simpa using h),
          List.filter_cons_of_pos (by simpa using h), ih, List.map_cons]
  exact walk o.slots

/-- The lift for which the re-lift is taken. -/
def reliftTarget (s : State) (o : Opening) : Int :=
  min s.params.maxLift (max 100
    (((o.slots.filter (fun y => y.state != .done)).map (fun y => requiredLift s y.airDraft)).foldl max 0))

/-- A re-lift with no required lift above Hmax stores its target and raises (R45, R87). -/
theorem takeRelift_eq {s : State} {o : Opening} (ho : s.seq.opening = some o) (lift : o.operatorLift = false)
    (some_ : ∃ y ∈ o.slots, y.state ≠ .done)
    (reach : ∀ y ∈ o.slots, y.state ≠ .done → requiredLift s y.airDraft ≤ s.params.maxLift) :
    takeRelift s = raiseSpan (considerJoins (fun _ => true) (setSeq .lifting
      (stopServing (storeTarget (reliftTarget s o) (rewriteLifts s))))) := by
  have opening : (rewriteLifts s).seq.opening = some (relifted s o) := by simp [rewriteLifts, ho, relifted]
  have left : openSlots (rewriteLifts s) =
      (o.slots.filter (fun x => x.state != .done)).map (fun x => { x with lift := requiredLift s x.airDraft }) := by
    rw [openSlots, slots_of_opening opening, relifted_open]
  have beyond : (openSlots (rewriteLifts s)).filter (fun x => decide (s.params.maxLift < x.lift)) = [] := by
    rw [left, List.filter_eq_nil_iff]
    intro y hy
    obtain ⟨x, hx, rfl⟩ := List.mem_map.1 hy
    obtain ⟨mem, open_⟩ := List.mem_filter.1 hx
    simpa using reach x mem (by simpa using open_)
  have nonempty : (openSlots (rewriteLifts s)).isEmpty = false := by
    obtain ⟨y, hy, open_⟩ := some_
    rw [left, List.isEmpty_eq_false_iff]
    intro none_
    exact absurd (List.map_eq_nil_iff.1 none_)
      (List.ne_nil_of_mem (List.mem_filter.2 ⟨hy, by simpa using open_⟩))
  have lifts : (openSlots (rewriteLifts s)).map (·.lift) =
      (o.slots.filter (fun y => y.state != .done)).map (fun y => requiredLift s y.airDraft) := by
    rw [left, List.map_map]
    rfl
  unfold takeRelift
  rw [ho]
  dsimp only
  rw [beyond, List.isEmpty_nil, if_pos rfl, List.foldl_nil, nonempty, if_neg (by decide), lift, if_neg (by decide),
    lifts]
  rfl

theorem allArmsDown_of_guard {s t : State} (h : t.guard.arms = s.guard.arms) : allArmsDown t = allArmsDown s := by
  simp [allArmsDown, h]

/-- What stands when the raise of a re-lift is commanded. -/
theorem relift_before {s : State} {o : Opening} (t : Int) (ho : s.seq.opening = some o) :
    ∃ u o', u = considerJoins (fun _ => true) (setSeq .lifting (stopServing (storeTarget t (rewriteLifts s)))) ∧
      u.seq.state = .lifting ∧ u.seq.opening = some o' ∧ o'.target = some t ∧
      o'.levelUsed = some s.water.effective ∧ u.channel.reliftArmed = s.channel.reliftArmed ∧
      u.channel.serving = none ∧ u.guard.arms = s.guard.arms ∧ u.drive = s.drive := by
  have stored : (storeTarget t (rewriteLifts s)).seq.opening =
      some { relifted s o with target := some t, levelUsed := some s.water.effective } := by
    simp [storeTarget, rewriteLifts, ho, relifted]
  obtain ⟨o1, h1, f1⟩ := opening_of_offSlots (offSlots_stopServing (storeTarget t (rewriteLifts s)))
    (o := { relifted s o with target := some t, levelUsed := some s.water.effective }) (by simpa using stored)
  have h2 : (setSeq .lifting (stopServing (storeTarget t (rewriteLifts s)))).seq.opening = some o1 := by simp [h1]
  have joins := offSlots_considerJoins (fun _ => true)
    (setSeq .lifting (stopServing (storeTarget t (rewriteLifts s))))
  obtain ⟨o2, h3, f2⟩ := opening_of_offSlots joins h2
  have frame : o2.frame = Opening.frame { relifted s o with target := some t, levelUsed := some s.water.effective } :=
    f2.trans f1
  have state : (setSeq .lifting (stopServing (storeTarget t (rewriteLifts s)))).seq.state = .lifting := by simp
  have channel := considerJoins_channel (s := setSeq .lifting (stopServing (storeTarget t (rewriteLifts s))))
    (by rw [state]; decide) (fun _ => true)
  have armed : (stopServing (storeTarget t (rewriteLifts s))).channel.reliftArmed = s.channel.reliftArmed := by
    rw [stopServing_channel]
    simp only [mapChannel_channel, dropServing]
    cases h : s.channel.serving <;> simp [storeTarget, rewriteLifts, h]
  refine ⟨_, o2, rfl, (seq_state_of_offSlots joins).trans state, h3, (congrArg Opening.target frame :),
    (congrArg Opening.levelUsed frame :), ?_, ?_, ?_, ?_⟩
  · rw [channel, setSeq_channel, armed]
  · rw [channel, setSeq_channel, stopServing_serving]
  · rw [guard_of_offSlots joins, setSeq_arms, stopServing_guard]
    rfl
  · rw [drive_of_offSlots joins, setSeq_drive, stopServing_drive]
    rfl

theorem takeRelift_raises {s : State} {o : Opening} (ho : s.seq.opening = some o) (lift : o.operatorLift = false)
    (some_ : ∃ y ∈ o.slots, y.state ≠ .done)
    (reach : ∀ y ∈ o.slots, y.state ≠ .done → requiredLift s y.airDraft ≤ s.params.maxLift)
    (arms : allArmsDown s = true) (below : spanPosition s < reliftTarget s o) :
    ∃ u o', u = takeRelift s ∧ u.seq.state = .lifting ∧ u.seq.opening = some o' ∧ o'.target = some (reliftTarget s o) ∧
      o'.levelUsed = some s.water.effective ∧ u.channel.reliftArmed = s.channel.reliftArmed ∧
      u.channel.serving = none ∧ u.drive.motion = .raise ∧ u.drive.direction = .up ∧
      u.drive.target = some (reliftTarget s o) := by
  obtain ⟨u, o', hu, state, opening, target, level, armed, serving, guard, drive⟩ := relift_before (reliftTarget s o) ho
  have raised : takeRelift s = startMotion .raise .up (some (reliftTarget s o)) u := by
    rw [takeRelift_eq ho lift some_ reach, ← hu]
    refine raiseSpan_starts opening target ?_ ?_
    · rw [allArmsDown_of_guard guard, arms]
    · simpa only [spanPosition, drive] using below
  obtain ⟨motion, dir, target_⟩ := startMotion_motion .raise .up (some (reliftTarget s o)) u
  obtain ⟨seq, channel⟩ := startMotion_frame .raise .up (some (reliftTarget s o)) u
  refine ⟨_, o', rfl, ?_⟩
  rw [raised, seq, channel]
  exact ⟨state, opening, target, level, armed, serving, motion, dir, target_⟩

/-! ## The direction taken up -/

theorem servingOwes_iff (s : State) : servingOwes s = true ↔ s.channel.servingRuns = true ∧ ∃ d,
    s.channel.serving = some d ∧ (∃ y ∈ slots s, y.direction = d ∧ y.state = .waiting) ∧
      ∀ y ∈ slots s, y.direction = d → y.state ≠ .proceedGiven := by
  unfold servingOwes
  cases h : s.channel.serving with
  | none => simp
  | some d =>
    simp only [hasSlot, Bool.and_eq_true, Bool.not_eq_true', List.any_eq_true, List.any_eq_false, beq_iff_eq,
      Option.some.injEq, exists_eq_left', and_assoc, not_and]

theorem mayTakeUp_iff (s : State) : mayTakeUp s = true ↔ s.channel.servingRuns = true ∧ s.channel.serving = none ∧
    channelConditions s = true ∧ ∃ y ∈ slots s, y.state = .waiting := by
  simp [mayTakeUp, and_assoc]

theorem reliftDue_iff (s : State) : reliftDue s = true ↔ s.channel.reliftArmed = true ∧
    (∃ y ∈ slots s, y.short = true) ∧ s.seq.state = .raised ∧ channelConditions s = true := by
  have short : (!shortEmpty s) = true ↔ ∃ y ∈ slots s, y.short = true := by
    rw [Bool.not_eq_true', shortEmpty_false_iff]
  simp only [reliftDue, Bool.and_eq_true, short, beq_iff_eq, and_assoc]

/-- Settles O59: serving, clearance checks, the re-lift. -/
theorem servingAndClearance : Obligations.ServingAndClearance := by
  unfold Obligations.ServingAndClearance
  refine ⟨fun s x y hx hy => ?choice, fun s => ⟨mayTakeUp_iff s, fun d hd => ?_⟩, ?proceed, ?stop, ?water, reliftDue_iff,
    fun s o t ho => ⟨fun closing => ?_, fun closing lift some_ reach ht arms below => ?relift⟩, by simp [followRules],
    by simp [followRules], fun s => ⟨servingOwes_iff s, fun d hd => ?_⟩, by simp [followRules], by simp [followRules]⟩
  case choice =>
    unfold chooseDirection
    rw [hx, hy]
    refine ⟨?_, ?_, ?_, ?_⟩
    · rintro rfl rfl; rfl
    · intro h hn
      obtain ⟨a, rfl⟩ := Option.isSome_iff_exists.1 h
      rw [hn]
    · intro hn h
      obtain ⟨b, rfl⟩ := Option.isSome_iff_exists.1 h
      rw [hn]
    · rintro a b rfl rfl
      refine ⟨fun h => if_pos h, fun h => ?_, fun d h last => ?_, fun h last => ?_⟩
      · dsimp only
        rw [if_neg (by omega), if_pos h]
      · dsimp only
        rw [if_neg (by omega), if_neg (by omega), last]
      · dsimp only
        rw [if_neg (by omega), if_neg (by omega), last]
  · unfold takeUp
    rw [hd]
    rfl
  case proceed =>
    rintro s d x o u hm hs ho hx rfl
    exact giveProceed_spec hm hs ho hx
  case stop =>
    rintro s u hm hs rfl
    obtain ⟨slots_, entries⟩ := stopServing_spec hm hs
    refine ⟨stopServing_serving s, stopServing_runs s, stopServing_servedLast s, fun y hy => ?_⟩
    have mem : stoppedSlot s y ∈ slots (stopServing s) := slots_ ▸ List.mem_map.2 ⟨y, hy, rfl⟩
    refine ⟨fun h => ?_, fun given near => ?_, fun given away => ⟨?_, entries y hy given away⟩⟩
    · rwa [stoppedSlot, if_neg h] at mem
    · rwa [stoppedSlot, if_pos given, if_pos near] at mem
    · rwa [stoppedSlot, if_pos given, if_neg (by simp [away])] at mem
  case water =>
    rintro s u hm opening rfl
    refine ⟨fun low => ?_, fun raised => ?_⟩
    · have present : s.seq.opening.isNone = false := by simpa [Option.isSome_iff_ne_none] using opening
      simp only [waterAtChannel, present, low]
      rfl
    · have numbered := numbered_of_matched hm
      rw [waterAtChannel_raised raised]
      refine ⟨?_, clearanceCheck_armed s, ?_, ?_⟩
      · exact (foldl_checkSlot numbered numbered fun _ h => h).trans
          (foldl_changeSlot_self (checkedSlot_serial s) numbered)
      · rintro ⟨y, hy, waits, long, low⟩
        exact lit_rearm _ _ (lit_of_foldl_checkSlot hy fun t ht =>
          checkSlot_lights waits long ((sufficient_of_offSlots ht _).trans low))
      · rintro ⟨y, hy, inside, low⟩
        exact lit_rearm _ _ (lit_of_foldl_checkSlot hy fun t ht =>
          checkSlot_lights_inZone inside ((sufficient_of_offSlots ht _).trans low))
  · have closed : closingCall (mapChannel (fun c => { c with reliftArmed := false }) s) = true := by
      simpa [closingCall, ho] using closing
    unfold requestRelift
    dsimp only
    rw [if_pos closed]
    rfl
  case relift =>
    have open_ : closingCall (mapChannel (fun c => { c with reliftArmed := false }) s) = false := by
      simp [closingCall, ho, closing]
    have request : requestRelift s = takeRelift (mapChannel (fun c => { c with reliftArmed := false }) s) := by
      unfold requestRelift
      dsimp only
      rw [if_neg (by simp [open_])]
    rw [request]
    subst ht
    exact takeRelift_raises (s := mapChannel (fun c => { c with reliftArmed := false }) s) ho lift some_ reach arms below
  · unfold followServed
    rw [hd]

end Sys2Proof.Machine
end


section
/-!
The stages of an input sample (log 9): what the bolts, the secure edge, the arms, the deck and the edges leave to each
other (R122 to R131, R136, R161, R163, R174).
-/

namespace Sys2Proof.Machine

/-! ## The drive and the sequence controller -/

/-- What a report speaks of, the attention sets apart: the drive, and the sequence controller but for its opening. -/
def reportable (s : State) : Drive × Sequence := (s.drive, s.seq.bare)

theorem reportable_of_offSlots {s t : State} (h : offSlots t = offSlots s) : reportable t = reportable s := by
  have bare : t.seq.bare = s.seq.bare := by
    have kept := congrArg (fun t => t.seq.bare) h
    simpa [offSlots, Sequence.bare] using kept
  rw [reportable, reportable, drive_of_offSlots h, bare]

theorem reportable_setClosingCall (cause : ClosingCause) (s : State) :
    reportable (setClosingCall cause s) = reportable s := by
  have drive : (setClosingCall cause s).drive = s.drive := by
    cases ho : s.seq.opening with
    | none => rw [setClosingCall_of_none cause ho]
    | some o =>
      by_cases hc : o.closingCause = none
      · have kept := drive_of_offSlots (offSlots_setClosingCall cause ho hc)
        simpa [dropServing] using kept
      · rw [setClosingCall_of_set cause ho (Option.isSome_iff_ne_none.2 hc)]
  rw [reportable, reportable, drive, setClosingCall_bare]

theorem reportable_checkAllDone (s : State) : reportable (checkAllDone s) = reportable s := by
  unfold checkAllDone
  (repeat' split)
  · rfl
  · exact reportable_setClosingCall _ s
  · rfl

theorem reportable_withAsked {c : Change} {n : Nat} {f : State → State}
    (keeps : ∀ s, reportable (f s) = reportable s) (s : State) : reportable (withAsked c n f s) = reportable s := by
  have asked := reportable_of_offSlots (offSlots_askSlot c n s)
  unfold withAsked
  split
  next h => rw [h] at asked; exact (keeps _).trans asked
  next h => rw [h] at asked; exact asked

theorem reportable_concludeSlot (o : PassageOutcome) (n : Nat) (s : State) :
    reportable (concludeSlot o n s) = reportable s :=
  reportable_withAsked (fun t => (reportable_checkAllDone _).trans (reportable_of_offSlots (offSlots_finishSlot n o t))) s

theorem reportable_stopServing (s : State) : reportable (stopServing s) = reportable s := by
  rw [reportable, reportable, stopServing_drive, stopServing_bare]

theorem reportable_enterCrossing (d : Direction) (s : State) : reportable (enterCrossing d s) = reportable s := by
  have counted : reportable (countEnter s) = reportable s := by rw [countEnter_eq]; rfl
  rw [enterCrossing_eq, ← counted]
  unfold matchEnter
  (repeat' split)
  · rfl
  · refine reportable_withAsked (fun t => ?_) _
    rfl
  · exact reportable_stopServing _
  · rfl

theorem reportable_revertTurned (n : Nat) (s : State) : reportable (revertTurned n s) = reportable s := by
  unfold revertTurned
  refine reportable_withAsked (fun t => ?_) s
  rw [reportable_of_offSlots (offSlots_checkOneSlot n _)]
  rfl

theorem reportable_exitCrossing (e : Edge) (s : State) : reportable (exitCrossing e s) = reportable s := by
  have counted : reportable (countExit s) = reportable s := by rw [countExit_eq]; rfl
  rw [exitCrossing_eq, ← counted]
  unfold matchExit
  (repeat' split)
  · rfl
  · exact reportable_concludeSlot _ _ _
  · exact reportable_concludeSlot _ _ _
  · exact reportable_revertTurned _ _
  · rfl

theorem reportable_clearedSlot (s : State) (x : Slot) : reportable (clearedSlot s x) = reportable s := by
  unfold clearedSlot
  (repeat' split)
  · exact reportable_withAsked (fun t => (reportable_checkAllDone _).trans
      (reportable_of_offSlots ((offSlots_countReturned _).trans (offSlots_removeSlot _ t)))) s
  · exact reportable_concludeSlot _ _ s
  · exact reportable_of_offSlots (offSlots_revertSlot _ s)
  · rfl

theorem reportable_approachCleared (d : Direction) (s : State) : reportable (approachCleared d s) = reportable s :=
  foldl_keeps reportable reportable_clearedSlot _ s

theorem reportable_edgeSample (before now : RawInputs) (e : Edge) (s : State) :
    reportable (edgeSample before now e s) = reportable s :=
  edgeSample_keeps (P := fun t => reportable t = reportable s) (fun _ => rfl) (fun _ h => h)
    (fun d t h => (reportable_enterCrossing d t).trans h) (fun t h => (reportable_exitCrossing e t).trans h)
    (fun d t h => (reportable_approachCleared d t).trans h)

/-! ## The road guard under the edges -/

theorem guard_withAsked {c : Change} {n : Nat} {f : State → State} (keeps : ∀ s, (f s).guard = s.guard) (s : State) :
    (withAsked c n f s).guard = s.guard := by
  have asked := guard_of_offSlots (offSlots_askSlot c n s)
  unfold withAsked
  split
  next h => rw [h] at asked; exact (keeps _).trans asked
  next h => rw [h] at asked; exact asked

theorem guard_checkAllDone (s : State) : (checkAllDone s).guard = s.guard := by
  unfold checkAllDone
  split
  · rfl
  · next o ho =>
    split
    · next h =>
      have clear : o.closingCause = none := by
        simp only [Bool.and_eq_true, Option.isNone_iff_eq_none] at h
        exact h.1.2
      have kept := guard_of_offSlots (offSlots_setClosingCall .allDone ho clear)
      simpa [dropServing] using kept
    · rfl

theorem guard_concludeSlot (o : PassageOutcome) (n : Nat) (s : State) : (concludeSlot o n s).guard = s.guard :=
  guard_withAsked (fun t => (guard_checkAllDone _).trans (guard_of_offSlots (offSlots_finishSlot n o t))) s

theorem guard_enterCrossing (d : Direction) (s : State) : (enterCrossing d s).guard = s.guard := by
  have counted : (countEnter s).guard = s.guard := by rw [countEnter_eq]; rfl
  rw [enterCrossing_eq, ← counted]
  unfold matchEnter
  (repeat' split)
  · rfl
  · refine guard_withAsked (fun t => ?_) _
    rfl
  · exact stopServing_guard _
  · rfl

theorem guard_revertTurned (n : Nat) (s : State) : (revertTurned n s).guard = s.guard := by
  unfold revertTurned
  refine guard_withAsked (fun t => ?_) s
  rw [guard_of_offSlots (offSlots_checkOneSlot n _)]
  rfl

theorem guard_exitCrossing (e : Edge) (s : State) : (exitCrossing e s).guard = s.guard := by
  have counted : (countExit s).guard = s.guard := by rw [countExit_eq]; rfl
  rw [exitCrossing_eq, ← counted]
  unfold matchExit
  (repeat' split)
  · rfl
  · exact guard_concludeSlot _ _ _
  · exact guard_concludeSlot _ _ _
  · exact guard_revertTurned _ _
  · rfl

theorem guard_clearedSlot (s : State) (x : Slot) : (clearedSlot s x).guard = s.guard := by
  unfold clearedSlot
  (repeat' split)
  · exact guard_withAsked (fun t => (guard_checkAllDone _).trans
      (guard_of_offSlots ((offSlots_countReturned _).trans (offSlots_removeSlot _ t)))) s
  · exact guard_concludeSlot _ _ s
  · exact guard_of_offSlots (offSlots_revertSlot _ s)
  · rfl

theorem guard_edgeSample (before now : RawInputs) (e : Edge) (s : State) :
    (edgeSample before now e s).guard = s.guard :=
  edgeSample_keeps (P := fun t => t.guard = s.guard) (fun _ => rfl) (fun _ h => h)
    (fun d t h => (guard_enterCrossing d t).trans h) (fun t h => (guard_exitCrossing e t).trans h)
    (fun _ t h => (foldl_keeps State.guard guard_clearedSlot _ t).trans h)

theorem guard_sampleEdges (raw : RawInputs) (s : State) : (sampleEdges raw s).guard = (beforeEdges raw s).guard :=
  (guard_edgeSample _ _ _ _).trans (guard_edgeSample _ _ _ _)

/-! ## What is pending -/

section
variable {port : Port} {bit : Nat}

theorem lit_edgeSample (before now : RawInputs) (e : Edge) (s : State) (lit : Lit port bit s) :
    Lit port bit (edgeSample before now e s) := by
  have entered : ∀ t, Lit port bit t → Lit port bit (countEnter t) := by
    intro t lit
    unfold countEnter
    split
    · exact lit_of_ports rfl lit
    · exact lit_raiseControl _ t lit
  have left : ∀ t, Lit port bit t → Lit port bit (countExit t) := by
    intro t lit
    unfold countExit
    split
    · exact lit_raiseControl _ t lit
    · exact lit_of_ports rfl lit
  have cleared : ∀ (t : State) (x : Slot), Lit port bit t → Lit port bit (clearedSlot t x) := by
    intro t x lit
    unfold clearedSlot
    (repeat' split)
    · exact lit_withAsked _ _ _ (fun u lit => by simp (maxDischargeDepth := 12) [lit]) t lit
    · exact lit_concludeSlot _ _ t lit
    · exact lit_revertSlot _ t lit
    · exact lit
  exact edgeSample_keeps (P := Lit port bit) (fun _ => lit_of_ports rfl lit) (fun t h => lit_raiseControl _ t h)
    (fun d t h => lit_matchEnter d _ (entered t h)) (fun t h => lit_matchExit e _ (left t h))
    (fun d t h => lit_foldl cleared _ t h)

theorem lit_sampleEdges (raw : RawInputs) (s : State) (lit : Lit port bit (beforeEdges raw s)) :
    Lit port bit (sampleEdges raw s) :=
  lit_edgeSample _ _ _ _ (lit_edgeSample _ _ _ _ lit)

theorem lit_firstPhases (s : State) (lit : Lit port bit s) : Lit port bit (firstPhases s) := by
  unfold firstPhases firstPhase
  (repeat' split) <;> simp (maxDischargeDepth := 12) [lit]

theorem deckSample_ports (before now : RawInputs) (s : State) : (deckSample before now s).ports = s.ports := by
  have ended : ∀ t : State, (allDetectors.foldl (endOccupancy now) t).ports = t.ports :=
    foldl_keeps State.ports (f := endOccupancy now) (fun _ _ => rfl) _
  have sampled : ∀ t : State, (allDetectors.foldl (occupancySample before now) t).ports = t.ports :=
    foldl_keeps State.ports (f := occupancySample before now) (fun t d => by unfold occupancySample; dsimp only; (repeat' split) <;> rfl) _
  unfold deckSample
  dsimp only
  split
  · exact (sampled _).trans (ended s)
  · exact ended s

end

/-! ## A report that outlives later stages -/

theorem FaultReported.rested {c : FaultCause} {s u : State} (h : FaultReported c s u) : Rested u := by
  obtain ⟨motion, jog, towers, -⟩ := h
  exact ⟨motion, jog, towers⟩

/-- A report stands as long as the towers rest, no bolt is commanded, and the sequence controller keeps its state. -/
theorem FaultReported.of_same {c : FaultCause} {s u v : State} (h : FaultReported c s u) (rest : Rested v)
    (bolts : v.drive.bolts = u.drive.bolts) (seq : v.seq.bare = u.seq.bare) (lit : Lit .control 1 u → Lit .control 1 v) :
    FaultReported c s v := by
  have state : v.seq.state = u.seq.state := (congrArg Sequence.state seq :)
  have phase : v.seq.heldPhase = u.seq.heldPhase := (congrArg Sequence.heldPhase seq :)
  have causes : v.seq.causes = u.seq.causes := (congrArg Sequence.causes seq :)
  have locks : LocksStopped u → LocksStopped v := fun l => by
    unfold LocksStopped
    rw [bolts]
    exact l
  rcases seqState_kinds s.seq.state with hst | hst | hst | hst | hst
  · rw [faultReported_inactive hst] at h ⊢
    rw [state, causes]
    exact ⟨rest, h.2⟩
  · rw [faultReported_lost hst] at h ⊢
    obtain ⟨-, st, cs, l⟩ := h
    rw [state, causes]
    exact ⟨rest, st, cs, lit l⟩
  · rw [faultReported_recovering hst] at h ⊢
    obtain ⟨-, st, ls, cs, l⟩ := h
    rw [state, causes]
    exact ⟨rest, st, locks ls, cs, lit l⟩
  · rw [faultReported_held hst] at h ⊢
    obtain ⟨-, st, ph, cs, l⟩ := h
    rw [state, phase, causes]
    exact ⟨rest, st, ph, cs, lit l⟩
  · rw [faultReported_running hst] at h ⊢
    obtain ⟨-, st, ph, ls, cs, l⟩ := h
    rw [state, phase, causes]
    exact ⟨rest, st, ph, locks ls, cs, lit l⟩

theorem FaultReported.of_reportable {c : FaultCause} {s u v : State} (h : FaultReported c s u)
    (same : reportable v = reportable u) (lit : Lit .control 1 u → Lit .control 1 v) : FaultReported c s v := by
  have drive : v.drive = u.drive := congrArg Prod.fst same
  exact h.of_same (rested_of_drive drive h.rested) (congrArg (·.bolts) drive) (congrArg Prod.snd same) lit

theorem foundFaults_after {c : FaultCause} {s u : State} (h : FaultReported c s u) (l : List FaultCause) :
    FaultReported c s (foundFaults l u) ∧ ∀ d ∈ l, FaultReported d s (foundFaults l u) := by
  have ended : FaultReported c s (endMotion u) := h.of_same (rested_endMotion u) rfl rfl id
  unfold foundFaults
  split
  · next empty =>
    rw [List.isEmpty_iff] at empty
    subst empty
    exact ⟨h, fun d hd => by cases hd⟩
  · exact reportFaults_after ended l

/-- Nothing has been reported since a state, or a report of it stands. -/
def ReportsOnly (s v : State) : Prop := v.seq.bare = s.seq.bare ∨ ∃ c, FaultReported c s v

theorem ReportsOnly.found {s v : State} (h : ReportsOnly s v) {l : List FaultCause} {d : FaultCause} (hd : d ∈ l) :
    FaultReported d s (foundFaults l v) := by
  rcases h with same | ⟨c, reported⟩
  · exact faultReported_congr (congrArg Sequence.state same :) (congrArg Sequence.heldPhase same :)
      (congrArg Sequence.causes same :) (foundFaults_reported hd v)
  · exact (foundFaults_after reported l).2 d hd

theorem ReportsOnly.after_found {s v : State} (h : ReportsOnly s v) (l : List FaultCause) :
    ReportsOnly s (foundFaults l v) := by
  cases l with
  | nil => exact h
  | cons d l => exact .inr ⟨d, h.found (by simp)⟩

theorem ReportsOnly.of_reportable {s u v : State} (h : ReportsOnly s u) (same : reportable v = reportable u)
    (lit : Lit .control 1 u → Lit .control 1 v) : ReportsOnly s v := by
  rcases h with kept | ⟨c, reported⟩
  · exact .inl ((congrArg Prod.snd same :).trans kept)
  · exact .inr ⟨c, reported.of_reportable same lit⟩

/-! ## The bolts behind the reports -/

/-- The bolts stand as sampled and the sequence keeps its state, or a report has stopped their travel and changed it
(R164). -/
def BoltsReported (st : SeqState) (B : PerTower BoltRecord) (v : State) : Prop :=
  v.seq.state = st ∧ v.drive.bolts = B ∨
    v.drive.bolts = B.map stopBolt ∧
      (v.seq.state = .faultHold ∧ st.running = true ∨ v.seq.state = .positionLost ∧ st = .recovering)

theorem enterFaultHold_state (s : State) : (enterFaultHold s).seq.state = .faultHold := by simp [enterFaultHold]

theorem BoltsReported.report {st : SeqState} {B : PerTower BoltRecord} {v : State} (h : BoltsReported st B v)
    (c : FaultCause) : BoltsReported st B (reportFault c v) := by
  rcases h with ⟨state, bolts⟩ | ⟨bolts, ⟨state, run⟩ | ⟨state, was⟩⟩
  · rcases seqState_kinds v.seq.state with hst | hst | hst | hst | hst
    · rw [reportFault_inactive hst]
      exact .inl ⟨state, bolts⟩
    · rw [reportFault_positionLost hst]
      refine .inl ⟨?_, ?_⟩
      · exact (congrArg (·.state) (endJog_seq v)).trans state
      · exact (endJog_bolts v).trans bolts
    · rw [reportFault_recovering hst]
      refine .inr ⟨?_, .inr ⟨by simp, state ▸ hst⟩⟩
      rw [raiseControl_drive, setSeq_drive, ← bolts]
      rfl
    · rw [reportFault_held hst]
      exact .inl ⟨state, bolts⟩
    · rw [reportFault_running hst]
      refine .inr ⟨?_, .inl ⟨enterFaultHold_state v, state ▸ hst⟩⟩
      rw [← bolts]
      exact congrArg (·.bolts) (enterFaultHold_drive v)
  · rw [reportFault_held (.inl state)]
    exact .inr ⟨bolts, .inl ⟨state, run⟩⟩
  · rw [reportFault_positionLost state]
    refine .inr ⟨(endJog_bolts v).trans bolts, .inr ⟨?_, was⟩⟩
    exact (congrArg (·.state) (endJog_seq v)).trans state

theorem BoltsReported.found {st : SeqState} {B : PerTower BoltRecord} {v : State} (h : BoltsReported st B v)
    (l : List FaultCause) : BoltsReported st B (foundFaults l v) := by
  unfold foundFaults
  split
  · exact h
  · exact List.foldlRecOn l (motive := BoltsReported st B) _ (by exact h) fun u hu c _ => hu.report c

theorem BoltsReported.of_reportable {st : SeqState} {B : PerTower BoltRecord} {u v : State} (h : BoltsReported st B u)
    (same : reportable v = reportable u) : BoltsReported st B v := by
  have drive : v.drive = u.drive := congrArg Prod.fst same
  have state : v.seq.state = u.seq.state := (congrArg (fun p : Drive × Sequence => p.2.state) same :)
  unfold BoltsReported
  rw [drive, state]
  exact h

theorem BoltsReported.bolt {st : SeqState} {B : PerTower BoltRecord} {v : State} (h : BoltsReported st B v) (b : Tower) :
    v.drive.bolts.get b = B.get b ∨ v.drive.bolts.get b = stopBolt (B.get b) ∧ v.seq.state ≠ st := by
  rcases h with ⟨-, bolts⟩ | ⟨bolts, other⟩
  · exact .inl (by rw [bolts])
  · refine .inr ⟨by rw [bolts, PerTower.get_map], fun same => ?_⟩
    rcases other with ⟨state, run⟩ | ⟨state, was⟩
    · rw [← same, state] at run
      exact absurd run (by decide)
    · rw [same, was] at state
      exact absurd state (by decide)

theorem stopBolt_driven (r : BoltRecord) : ((stopBolt r).state == .driven) = (r.state == .driven) := by
  unfold stopBolt
  cases h : r.state <;> simp

theorem BoltsReported.driven {st : SeqState} {B : PerTower BoltRecord} {v : State} (h : BoltsReported st B v) :
    boltsAre .driven v = (B.w.state == .driven && B.e.state == .driven) := by
  rcases h with ⟨-, bolts⟩ | ⟨bolts, -⟩
  · rw [boltsAre, bolts]
  · rw [boltsAre, bolts]
    exact congrArg₂ (· && ·) (stopBolt_driven B.w) (stopBolt_driven B.e)

/-! ## The invariant of the stages -/

/-- The bolts as their switches give them at a sample. -/
def sampledBolts (raw : RawInputs) (s : State) : PerTower BoltRecord :=
  { w := boltSample (filtered (takeReading raw s)) .w s.drive.bolts.w,
    e := boltSample (filtered (takeReading raw s)) .e s.drive.bolts.e }

theorem sampledBolts_get (raw : RawInputs) (s : State) (b : Tower) : (sampledBolts raw s).get b =
    boltSample (filtered (takeReading raw s)) b (s.drive.bolts.get b) := by
  cases b <;> rfl

/-- What every stage of a sample keeps: the readings, the parameters, the bolts and the reports. -/
def Sampled (raw : RawInputs) (s v : State) : Prop :=
  v.inputs = (takeReading raw s).inputs ∧ v.params = s.params ∧ ReportsOnly s v ∧
    BoltsReported s.seq.state (sampledBolts raw s) v

theorem sampled_boltsSample (raw : RawInputs) (s : State) :
    Sampled raw s (boltsSample (filtered (takeReading raw s)) (takeReading raw s)) :=
  ⟨rfl, rfl, .inl rfl, .inl ⟨rfl, rfl⟩⟩

theorem Sampled.found {raw : RawInputs} {s v : State} (h : Sampled raw s v) (l : List FaultCause) :
    Sampled raw s (foundFaults l v) := by
  obtain ⟨inputs, params, reports, bolts⟩ := h
  have same := outer_foundFaults l v
  exact ⟨(congrArg Outer.inputs same :).trans inputs, (congrArg Outer.params same :).trans params,
    reports.after_found l, bolts.found l⟩

theorem Sampled.of_frame {raw : RawInputs} {s u v : State} (h : Sampled raw s u) (inputs : v.inputs = u.inputs)
    (params : v.params = u.params) (same : reportable v = reportable u)
    (lit : Lit .control 1 u → Lit .control 1 v) : Sampled raw s v :=
  ⟨inputs.trans h.1, params.trans h.2.1, h.2.2.1.of_reportable same lit, h.2.2.2.of_reportable same⟩

theorem Sampled.filtered {raw : RawInputs} {s v : State} (h : Sampled raw s v) :
    filtered v = filtered (takeReading raw s) :=
  filtered_of_inputs h.1

/-- Whether the span is seated and locked at a sample. -/
def secureAtSample (raw : RawInputs) (s : State) : Bool :=
  seated (takeReading raw s) && ((sampledBolts raw s).w.state == .driven && (sampledBolts raw s).e.state == .driven)

theorem Sampled.secure {raw : RawInputs} {s v : State} (h : Sampled raw s v) :
    spanSecure v = secureAtSample raw s := by
  rw [spanSecure, secureAtSample, h.2.2.2.driven, seated, seated, h.filtered]

/-! ## The bolts' stage -/

theorem sampleBolts_eq (raw : RawInputs) (s : State) :
    sampleBolts (takeReading raw s) =
      foundFaults (if conflictEntered s.drive.bolts.e (sampledBolts raw s).e then [.lockSwitchConflict] else [])
        (foundFaults (if conflictEntered s.drive.bolts.w (sampledBolts raw s).w then [.lockSwitchConflict] else [])
          (boltsSample (filtered (takeReading raw s)) (takeReading raw s))) := by
  have none_ : ∀ t, foundFaults [] t = t := fun _ => rfl
  unfold sampleBolts
  dsimp only
  change (if conflictEntered s.drive.bolts.e (sampledBolts raw s).e then foundFaults _ (if conflictEntered
    s.drive.bolts.w (sampledBolts raw s).w then foundFaults _ _ else _) else (if conflictEntered
    s.drive.bolts.w (sampledBolts raw s).w then foundFaults _ _ else _)) = _
  cases conflictEntered s.drive.bolts.w (sampledBolts raw s).w <;>
    cases conflictEntered s.drive.bolts.e (sampledBolts raw s).e <;> rfl

theorem sampled_sampleBolts (raw : RawInputs) (s : State) : Sampled raw s (sampleBolts (takeReading raw s)) := by
  rw [sampleBolts_eq]
  exact ((sampled_boltsSample raw s).found _).found _

theorem guard_sampleBolts (raw : RawInputs) (s : State) : (sampleBolts (takeReading raw s)).guard = s.guard := by
  rw [sampleBolts_eq, foundFaults_guard, foundFaults_guard]
  rfl

/-- A conflict entered is reported (R163). -/
theorem sampleBolts_reports {raw : RawInputs} {s : State} {b : Tower}
    (h : conflictEntered (s.drive.bolts.get b) ((sampledBolts raw s).get b) = true) :
    FaultReported .lockSwitchConflict s (sampleBolts (takeReading raw s)) := by
  rw [sampleBolts_eq]
  have start := sampled_boltsSample raw s
  cases b with
  | w =>
    have here : conflictEntered s.drive.bolts.w (sampledBolts raw s).w = true := h
    rw [if_pos here]
    exact (foundFaults_after (start.2.2.1.found (by simp)) _).1
  | e =>
    have here : conflictEntered s.drive.bolts.e (sampledBolts raw s).e = true := h
    rw [if_pos here]
    exact (start.found _).2.2.1.found (by simp)

end Sys2Proof.Machine
end


section
/-!
The arms, the deck and the bolts at an input sample (R122 to R131, R136, R137, R161 to R164).
-/

namespace Sys2Proof.Machine

/-! ## A walk over the arms -/

/-- All of a state but the arms and what is pending. -/
def offBarriers (s : State) : State :=
  { s with ports := State.reset.ports, guard := { s.guard with arms := Guard.reset.arms } }

theorem reportable_of_offBarriers {s t : State} (h : offBarriers t = offBarriers s) : reportable t = reportable s := by
  have drive : t.drive = s.drive := (congrArg (·.drive) h :)
  have seq : t.seq = s.seq := (congrArg (·.seq) h :)
  rw [reportable, reportable, drive, seq]

theorem inputs_of_offBarriers {s t : State} (h : offBarriers t = offBarriers s) : t.inputs = s.inputs := (congrArg (·.inputs) h :)
theorem params_of_offBarriers {s t : State} (h : offBarriers t = offBarriers s) : t.params = s.params := (congrArg (·.params) h :)

theorem halted_of_offBarriers {s t : State} (h : offBarriers t = offBarriers s) : t.guard.halted = s.guard.halted :=
  (congrArg (·.guard.halted) h :)

theorem secure_of_offBarriers {s t : State} (h : offBarriers t = offBarriers s) : spanSecure t = spanSecure s := by
  have drive : t.drive = s.drive := (congrArg (·.drive) h :)
  rw [spanSecure, spanSecure, seated, seated, boltsAre, boltsAre, filtered_of_inputs (inputs_of_offBarriers h), drive]

theorem deck_of_offBarriers {s t : State} (h : offBarriers t = offBarriers s) : t.guard.deck = s.guard.deck :=
  (congrArg (·.guard.deck) h :)

theorem detectors_of_offBarriers {s t : State} (h : offBarriers t = offBarriers s) :
    t.guard.detectors = s.guard.detectors :=
  (congrArg (·.guard.detectors) h :)

theorem Sampled.of_offBarriers {raw : RawInputs} {s u v : State} (h : Sampled raw s u) (same : offBarriers v = offBarriers u)
    (lit : Lit .control 1 u → Lit .control 1 v) : Sampled raw s v :=
  h.of_frame (inputs_of_offBarriers same) (params_of_offBarriers same) (reportable_of_offBarriers same) lit

/-- A walk that changes each arm by its own record, the rest of the state being the same at every turn. -/
theorem foldl_arms_framed {f : State → Arm → State} {g : Arm → ArmRecord → ArmRecord} {s0 : State}
    (frame : ∀ s a, offBarriers (f s a) = offBarriers s)
    (h : ∀ s a, offBarriers s = offBarriers s0 → (f s a).guard.arms = s.guard.arms.set a (g a (s.guard.arms.get a))) (a : Arm) :
    (allArms.foldl f s0).guard.arms.get a = g a (s0.guard.arms.get a) := by
  have f1 := frame s0 .nEntry
  have f2 := (frame (f s0 .nEntry) .nExit).trans f1
  have f3 := (frame (f (f s0 .nEntry) .nExit) .sEntry).trans f2
  simp only [allArms, List.foldl_cons, List.foldl_nil, h _ _ f3, h _ _ f2, h _ _ f1, h s0 .nEntry rfl]
  cases a <;> rfl

theorem arms_set_set (x : PerArm ArmRecord) (a : Arm) (r t : ArmRecord) : (x.set a r).set a t = x.set a t := by
  cases a <;> rfl

/-! ## The secure edge -/

/-- A raising arm as the end of the span's seat and lock leaves it (R126). -/
def droppedArm (r : ArmRecord) : ArmRecord := if r.state = .raising then faultedArm .notLocked r else r

theorem offBarriers_dropRaising (s : State) (a : Arm) : offBarriers (dropRaising s a) = offBarriers s := by
  unfold dropRaising
  split <;> rfl

theorem dropRaising_arms (s : State) (a : Arm) :
    (dropRaising s a).guard.arms = s.guard.arms.set a (droppedArm (s.guard.arms.get a)) := by
  unfold dropRaising droppedArm
  by_cases h : (s.guard.arms.get a).state = .raising
  · rw [if_pos (by simpa using h), if_pos h, armFault_arms]
  · rw [if_neg (by simpa using h), if_neg h, arms_set_get]

theorem dropRaising_lights {s : State} {a : Arm} (h : (s.guard.arms.get a).state = .raising) :
    Lit .control 6 (dropRaising s a) := by
  unfold dropRaising
  rw [if_pos (by simpa using h)]
  exact lit_armFault_six _ _ _

/-! ## One arm at a sample -/

/-- An arm at its obstruction edge (R130). -/
def obstructedArm (secure : Bool) (p : Parameters) (r : ArmRecord) : ArmRecord :=
  if secure then
    { travelArm .raising p { r with obstructions := min (r.obstructions + 1) Config.obstructionLimit } with
      reversal := some (if min (r.obstructions + 1) Config.obstructionLimit == Config.obstructionLimit then .final
        else .reversing) }
  else faultedArm .obstructed { r with obstructions := min (r.obstructions + 1) Config.obstructionLimit }

/-- A raising arm at its rest position (R127, R131). -/
def arrivedArm (p : Parameters) (r : ArmRecord) : ArmRecord :=
  match r.reversal with
  | some .final => faultedArm .obstructed r
  | some .reversing => { restArm .up r with retryWait := .start (1000 * p.retryTime) }
  | none => restArm .up r

/-- An arm at a later input sample. -/
def sampledArm (x : RawInputs) (secure : Bool) (p : Parameters) (halted : Bool) (a : Arm) (r : ArmRecord) : ArmRecord :=
  match r.state with
  | .outOfService | .fault => r
  | st =>
    if bothEnds x a then faultedArm .switchConflict r
    else
      match st with
      | .lowering =>
        if restDown x a then restArm .down r
        else if RawInputs.obstruction x a then obstructedArm secure p r
        else r
      | .raising => if restUp x a then arrivedArm p r else r
      | .up => if restUp x a then r else faultedArm .upLost r
      | .down => if restDown x a then r else faultedArm .downLost r
      | _ =>
        if !halted then r
        else if restDown x a then restArm .down r
        else if restUp x a then restArm .up r
        else r

/-- An arm at the first input sample (R122). -/
def firstSampledArm (x : RawInputs) (a : Arm) (r : ArmRecord) : ArmRecord :=
  if r.state == .outOfService then r
  else if restUp x a then { restArm .up r with commandedEnd := .up }
  else if restDown x a then { restArm .down r with commandedEnd := .down }
  else faultedArm .position { r with commandedEnd := .down }

theorem offBarriers_firstArmSample (x : RawInputs) (s : State) (a : Arm) : offBarriers (firstArmSample x s a) = offBarriers s := by
  unfold firstArmSample
  dsimp only
  (repeat' split) <;> rfl

theorem offBarriers_obstructArm (a : Arm) (s : State) : offBarriers (obstructArm a s) = offBarriers s := by
  unfold obstructArm
  dsimp only
  split <;> rfl

theorem offBarriers_arriveUp (a : Arm) (s : State) : offBarriers (arriveUp a s) = offBarriers s := by
  unfold arriveUp
  dsimp only
  split <;> rfl

theorem offBarriers_armSample (x : RawInputs) (s : State) (a : Arm) : offBarriers (armSample x s a) = offBarriers s := by
  unfold armSample
  dsimp only
  (repeat' split) <;> first | rfl | exact offBarriers_obstructArm a s | exact offBarriers_arriveUp a s

theorem firstArmSample_arms (x : RawInputs) (s : State) (a : Arm) :
    (firstArmSample x s a).guard.arms = s.guard.arms.set a (firstSampledArm x a (s.guard.arms.get a)) := by
  unfold firstArmSample firstSampledArm
  dsimp only
  split_ifs
  · rw [arms_set_get]
  · rfl
  · rfl
  · rw [armFault_arms, setArm_arms, PerArm.get_set, arms_set_set]

theorem obstructArm_arms (a : Arm) (s : State) : (obstructArm a s).guard.arms =
    s.guard.arms.set a (obstructedArm (spanSecure s) s.params (s.guard.arms.get a)) := by
  unfold obstructArm obstructedArm
  dsimp only
  by_cases secure : spanSecure s = true
  · rw [if_pos secure, if_pos secure]
    rfl
  · rw [if_neg secure, if_neg secure, armFault_arms, setArm_arms, PerArm.get_set, arms_set_set]

theorem arriveUp_arms (a : Arm) (s : State) :
    (arriveUp a s).guard.arms = s.guard.arms.set a (arrivedArm s.params (s.guard.arms.get a)) := by
  unfold arriveUp arrivedArm
  dsimp only
  cases (s.guard.arms.get a).reversal with
  | none => rfl
  | some r => cases r <;> rfl

theorem armSample_arms (x : RawInputs) (s : State) (a : Arm) : (armSample x s a).guard.arms =
    s.guard.arms.set a (sampledArm x (spanSecure s) s.params s.guard.halted a (s.guard.arms.get a)) := by
  unfold armSample sampledArm
  dsimp only
  cases (s.guard.arms.get a).state with
  | outOfService => exact (arms_set_get _ _).symm
  | fault => exact (arms_set_get _ _).symm
  | lowering =>
    dsimp only
    split_ifs
    · rfl
    · rfl
    · exact obstructArm_arms a s
    · exact (arms_set_get _ _).symm
  | raising =>
    dsimp only
    split_ifs
    · rfl
    · exact arriveUp_arms a s
    · exact (arms_set_get _ _).symm
  | up =>
    dsimp only
    split_ifs
    · rfl
    · exact (arms_set_get _ _).symm
    · rfl
  | down =>
    dsimp only
    split_ifs
    · rfl
    · exact (arms_set_get _ _).symm
    · rfl
  | stopped =>
    dsimp only
    split_ifs
    · rfl
    · exact (arms_set_get _ _).symm
    · rfl
    · rfl
    · exact (arms_set_get _ _).symm

/-! ### A new FAULT is pending -/

/-- ARM_FAULT is pending for every arm that came to FAULT since a state (R127). -/
def FaultsLit (s0 v : State) : Prop :=
  ∀ a, (v.guard.arms.get a).state = .fault → (s0.guard.arms.get a).state ≠ .fault → Lit .control 6 v

theorem FaultsLit.of_arms {s0 u v : State} (h : FaultsLit s0 u) (arms : v.guard.arms = u.guard.arms)
    (lit : Lit .control 6 u → Lit .control 6 v) : FaultsLit s0 v := fun a new old => lit (h a (arms ▸ new) old)

theorem FaultsLit.step {s0 u v : State} {a : Arm} {r : ArmRecord} (h : FaultsLit s0 u)
    (arms : v.guard.arms = u.guard.arms.set a r) (lit : Lit .control 6 u → Lit .control 6 v)
    (lights : r.state = .fault → (u.guard.arms.get a).state ≠ .fault → Lit .control 6 v) : FaultsLit s0 v := by
  intro b new old
  rw [arms] at new
  by_cases hb : b = a
  · subst hb
    rw [PerArm.get_set] at new
    by_cases was : (u.guard.arms.get b).state = .fault
    · exact lit (h b was old)
    · exact lights new was
  · rw [PerArm.get_set_ne _ _ hb] at new
    exact lit (h b new old)

theorem FaultsLit.foldl {f : State → Arm → State} {s0 : State} (step : ∀ s a, FaultsLit s0 s → FaultsLit s0 (f s a))
    {s : State} (h : FaultsLit s0 s) : FaultsLit s0 (allArms.foldl f s) :=
  List.foldlRecOn allArms f h fun t ht a _ => step t a ht

theorem FaultsLit.dropRaising {s0 s : State} (h : FaultsLit s0 s) (a : Arm) : FaultsLit s0 (dropRaising s a) := by
  refine h.step (dropRaising_arms s a) (lit_dropRaising s a) fun new old => dropRaising_lights ?_
  by_contra other
  rw [droppedArm, if_neg other] at new
  exact old new

theorem lit_obstructArm {port : Port} {bit : Nat} (a : Arm) (s : State) (lit : Lit port bit s) :
    Lit port bit (obstructArm a s) := by
  unfold obstructArm
  dsimp only
  split <;> simp [lit]

theorem lit_arriveUp {port : Port} {bit : Nat} (a : Arm) (s : State) (lit : Lit port bit s) :
    Lit port bit (arriveUp a s) := by
  unfold arriveUp
  dsimp only
  split <;> simp [lit]

theorem lit_armSample {port : Port} {bit : Nat} (x : RawInputs) (s : State) (a : Arm) (lit : Lit port bit s) :
    Lit port bit (armSample x s a) := by
  unfold armSample
  dsimp only
  (repeat' split) <;> simp [lit, lit_obstructArm, lit_arriveUp]

theorem obstructArm_lights {a : Arm} {s : State}
    (h : (obstructedArm (spanSecure s) s.params (s.guard.arms.get a)).state = .fault) : Lit .control 6 (obstructArm a s) := by
  unfold obstructArm
  dsimp only
  split
  · next secure =>
    rw [obstructedArm, if_pos secure] at h
    cases h
  · exact lit_armFault_six _ _ _

theorem arriveUp_lights {a : Arm} {s : State} (h : (arrivedArm s.params (s.guard.arms.get a)).state = .fault) :
    Lit .control 6 (arriveUp a s) := by
  unfold arriveUp
  unfold arrivedArm at h
  cases hr : (s.guard.arms.get a).reversal with
  | none => rw [hr] at h; cases h
  | some r =>
    cases r with
    | reversing => rw [hr] at h; cases h
    | final =>
      dsimp only
      rw [hr]
      exact lit_armFault_six _ _ _

theorem armSample_lights {x : RawInputs} {a : Arm} {s : State} (old : (s.guard.arms.get a).state ≠ .fault)
    (new : (sampledArm x (spanSecure s) s.params s.guard.halted a (s.guard.arms.get a)).state = .fault) :
    Lit .control 6 (armSample x s a) := by
  unfold armSample
  unfold sampledArm at new
  dsimp only
  cases hst : (s.guard.arms.get a).state with
  | fault => exact absurd hst old
  | outOfService => rw [hst] at new; exact absurd (hst.symm.trans new) (by decide)
  | lowering =>
    rw [hst] at new
    dsimp only at new ⊢
    split_ifs at new ⊢
    · exact lit_armFault_six _ _ _
    · cases new
    · exact obstructArm_lights new
    · exact absurd (hst.symm.trans new) (by decide)
  | raising =>
    rw [hst] at new
    dsimp only at new ⊢
    split_ifs at new ⊢
    · exact lit_armFault_six _ _ _
    · exact arriveUp_lights new
    · exact absurd (hst.symm.trans new) (by decide)
  | up =>
    rw [hst] at new
    dsimp only at new ⊢
    split_ifs at new ⊢
    · exact lit_armFault_six _ _ _
    · exact absurd (hst.symm.trans new) (by decide)
    · exact lit_armFault_six _ _ _
  | down =>
    rw [hst] at new
    dsimp only at new ⊢
    split_ifs at new ⊢
    · exact lit_armFault_six _ _ _
    · exact absurd (hst.symm.trans new) (by decide)
    · exact lit_armFault_six _ _ _
  | stopped =>
    rw [hst] at new
    dsimp only at new ⊢
    split_ifs at new ⊢
    · exact lit_armFault_six _ _ _
    · exact absurd (hst.symm.trans new) (by decide)
    · cases new
    · cases new
    · exact absurd (hst.symm.trans new) (by decide)

theorem FaultsLit.armSample {s0 s : State} (h : FaultsLit s0 s) (x : RawInputs) (a : Arm) :
    FaultsLit s0 (armSample x s a) :=
  h.step (armSample_arms x s a) (lit_armSample x s a) fun new old => armSample_lights old new

end Sys2Proof.Machine
end


section
/-!
The stages of an input sample put together: what it leaves of the arms, the bolts and the deck (R122 to R131, R136, R137,
R161 to R163), and the reports it makes (R94, R95).
-/

namespace Sys2Proof.Machine

/-- A fault list that is empty reports nothing. -/
theorem foundFaults_ite (b : Bool) (l : List FaultCause) (s : State) :
    (if b then foundFaults l s else s) = foundFaults (if b then l else []) s := by
  cases b <;> rfl

theorem foundFaults_unless (b : Bool) (l : List FaultCause) (s : State) :
    (if b then s else foundFaults l s) = foundFaults (if !b then l else []) s := by
  cases b <;> rfl

/-! ## The secure edge at a sample -/

/-- The raising arms drop (R126). -/
def droppedArms (s : State) : State :=
  allArms.foldl dropRaising { s with guard := { s.guard with seatedLocked := false } }

/-- The edge of the judgement "seated and locked", its report apart. -/
def secureEdge (secure locked : Bool) (s : State) : State :=
  match secure, locked with
  | false, true => droppedArms s
  | true, false => { s with guard := { s.guard with seatedLocked := true } }
  | _, _ => s

/-- What the edge reports (R126, R129). -/
def edgeReports (secure locked : Bool) (s : State) : List FaultCause :=
  if !secure && locked && !allArmsDown (secureEdge secure locked s) then [.armLost] else []

/-- An input sample up to the arms. -/
def secured (raw : RawInputs) (s : State) : State :=
  if spanSecure (sampleBolts (takeReading raw s)) != (sampleBolts (takeReading raw s)).guard.seatedLocked then
    followSecure (sampleBolts (takeReading raw s))
  else sampleBolts (takeReading raw s)

theorem followSecure_secure {s : State} (h : spanSecure s = true) :
    followSecure s = { s with guard := { s.guard with seatedLocked := true } } := by
  unfold followSecure
  dsimp only
  rw [if_pos h, h]

theorem followSecure_insecure {s : State} (h : spanSecure s = false) : followSecure s =
    foundFaults (if !allArmsDown (droppedArms s) then [.armLost] else []) (droppedArms s) := by
  unfold followSecure droppedArms
  dsimp only
  rw [if_neg (by simp [h]), h, foundFaults_unless]

theorem secured_eq (raw : RawInputs) (s : State) : secured raw s =
    foundFaults (edgeReports (secureAtSample raw s) s.guard.seatedLocked (sampleBolts (takeReading raw s)))
      (secureEdge (secureAtSample raw s) s.guard.seatedLocked (sampleBolts (takeReading raw s))) := by
  have secure := (sampled_sampleBolts raw s).secure
  have locked : (sampleBolts (takeReading raw s)).guard.seatedLocked = s.guard.seatedLocked := by rw [guard_sampleBolts]
  unfold secured edgeReports
  rw [locked]
  cases hs : secureAtSample raw s <;> cases hl : s.guard.seatedLocked <;> rw [hs] at secure <;> rw [secure]
  · rfl
  · rw [if_pos (by decide), followSecure_insecure secure]
    simp only [Bool.not_false, Bool.true_and, secureEdge]
  · rw [if_pos (by decide), followSecure_secure secure]
    rfl
  · rfl

/-- The rest of the state that the secure edge leaves. -/
theorem secureEdge_frame (secure locked : Bool) (s : State) : (secureEdge secure locked s).inputs = s.inputs ∧
    (secureEdge secure locked s).params = s.params ∧ reportable (secureEdge secure locked s) = reportable s ∧
    (secureEdge secure locked s).guard.deck = s.guard.deck ∧ (secureEdge secure locked s).guard.detectors = s.guard.detectors ∧
    (secureEdge secure locked s).guard.halted = s.guard.halted := by
  unfold secureEdge
  split
  · have same : offBarriers (droppedArms s) = offBarriers { s with guard := { s.guard with seatedLocked := false } } :=
      foldl_keeps offBarriers offBarriers_dropRaising allArms _
    exact ⟨(inputs_of_offBarriers same :), (params_of_offBarriers same :), (reportable_of_offBarriers same :),
      (deck_of_offBarriers same :), (detectors_of_offBarriers same :), (halted_of_offBarriers same :)⟩
  · exact ⟨rfl, rfl, rfl, rfl, rfl, rfl⟩
  · exact ⟨rfl, rfl, rfl, rfl, rfl, rfl⟩

theorem lit_droppedArms {port : Port} {bit : Nat} (s : State) (lit : Lit port bit s) : Lit port bit (droppedArms s) :=
  lit_foldl (fun s a => lit_dropRaising s a) _ _ (by exact lit)

theorem lit_secureEdge {port : Port} {bit : Nat} (secure locked : Bool) (s : State) (lit : Lit port bit s) :
    Lit port bit (secureEdge secure locked s) := by
  unfold secureEdge
  split
  · exact lit_droppedArms s lit
  · exact lit
  · exact lit

/-- An arm behind the secure edge. -/
def edgedArm (secure locked : Bool) (r : ArmRecord) : ArmRecord := if !secure && locked then droppedArm r else r

theorem secureEdge_arm (secure locked : Bool) (s : State) (a : Arm) :
    (secureEdge secure locked s).guard.arms.get a = edgedArm secure locked (s.guard.arms.get a) := by
  unfold secureEdge edgedArm
  split
  · exact foldl_arms_framed offBarriers_dropRaising (fun s a _ => dropRaising_arms s a) a
  · rfl
  · next h _ =>
    cases secure <;> cases locked <;> first | rfl | exact absurd rfl (h rfl)

theorem faultsLit_secureEdge {s0 s : State} (h : FaultsLit s0 s) (secure locked : Bool) :
    FaultsLit s0 (secureEdge secure locked s) := by
  unfold secureEdge
  split
  · exact FaultsLit.foldl (fun s a h => h.dropRaising a) (by exact h)
  · exact h
  · exact h

theorem faultsLit_found {s0 s : State} (h : FaultsLit s0 s) (l : List FaultCause) : FaultsLit s0 (foundFaults l s) :=
  h.of_arms (congrArg Guard.arms (foundFaults_guard l s)) (lit_foundFaults l s)

theorem sampled_secured (raw : RawInputs) (s : State) : Sampled raw s (secured raw s) := by
  rw [secured_eq]
  obtain ⟨inputs, params, same, -⟩ := secureEdge_frame (secureAtSample raw s) s.guard.seatedLocked
    (sampleBolts (takeReading raw s))
  exact ((sampled_sampleBolts raw s).of_frame inputs params same (lit_secureEdge _ _ _)).found _

theorem secured_keeps {raw : RawInputs} {s : State} {c : FaultCause}
    (h : FaultReported c s (sampleBolts (takeReading raw s))) : FaultReported c s (secured raw s) := by
  rw [secured_eq]
  obtain ⟨-, -, same, -⟩ := secureEdge_frame (secureAtSample raw s) s.guard.seatedLocked (sampleBolts (takeReading raw s))
  exact (foundFaults_after (h.of_reportable same (lit_secureEdge _ _ _)) _).1

theorem secured_arm (raw : RawInputs) (s : State) (a : Arm) : (secured raw s).guard.arms.get a =
    edgedArm (secureAtSample raw s) s.guard.seatedLocked (s.guard.arms.get a) := by
  rw [secured_eq, foundFaults_guard, secureEdge_arm, guard_sampleBolts]

theorem secured_deck (raw : RawInputs) (s : State) : (secured raw s).guard.deck = s.guard.deck ∧
    (secured raw s).guard.detectors = s.guard.detectors ∧ (secured raw s).guard.halted = s.guard.halted := by
  rw [secured_eq, foundFaults_guard]
  obtain ⟨-, -, -, deck, detectors, halted⟩ := secureEdge_frame (secureAtSample raw s) s.guard.seatedLocked
    (sampleBolts (takeReading raw s))
  rw [deck, detectors, halted, guard_sampleBolts]
  exact ⟨rfl, rfl, rfl⟩

theorem faultsLit_secured (raw : RawInputs) (s : State) : FaultsLit s (secured raw s) := by
  rw [secured_eq]
  have start : FaultsLit s (sampleBolts (takeReading raw s)) := by
    intro a new old
    rw [guard_sampleBolts] at new
    exact absurd new old
  exact faultsLit_found (faultsLit_secureEdge start _ _) _

/-- The end of seat and lock with an arm not DOWN is reported (R126, R129). -/
theorem secured_reports {raw : RawInputs} {s : State} (locked : s.guard.seatedLocked = true)
    (open_ : secureAtSample raw s = false)
    (lost : ∃ a, (s.guard.arms.get a).state ≠ .down ∧ (s.guard.arms.get a).state ≠ .outOfService) :
    FaultReported .armLost s (secured raw s) := by
  obtain ⟨inputs, params, same, -⟩ := secureEdge_frame (secureAtSample raw s) s.guard.seatedLocked
    (sampleBolts (takeReading raw s))
  have before : Sampled raw s (secureEdge (secureAtSample raw s) s.guard.seatedLocked (sampleBolts (takeReading raw s))) :=
    (sampled_sampleBolts raw s).of_frame inputs params same (lit_secureEdge _ _ _)
  have notDown : allArmsDown (secureEdge (secureAtSample raw s) s.guard.seatedLocked (sampleBolts (takeReading raw s))) =
      false := by
    obtain ⟨a, ha, hb⟩ := lost
    have member : a ∈ allArms := by cases a <;> decide
    refine List.all_eq_false.2 ⟨a, member, ?_⟩
    rw [secureEdge_arm, guard_sampleBolts, open_, locked]
    change ¬ ((droppedArm (s.guard.arms.get a)).state == .down || (droppedArm (s.guard.arms.get a)).state == .outOfService)
    unfold droppedArm
    split
    · simp [faultedArm, restArm]
    · simp [ha, hb]
  rw [secured_eq]
  refine before.2.2.1.found ?_
  rw [edgeReports, notDown, open_, locked]
  exact List.mem_singleton.2 rfl

/-! ## The arms at a sample -/

/-- The arms take their switches. -/
def walkedArms (first : Bool) (s : State) : State :=
  if first then allArms.foldl (firstArmSample (filtered s)) s else allArms.foldl (armSample (filtered s)) s

/-- An arm that leaves DOWN with the span not secure is reported (R128, R129). -/
def armReports (first : Bool) (s : State) : List FaultCause :=
  if !first && (downLost s.guard.arms (walkedArms first s).guard.arms && !spanSecure (walkedArms first s)) then [.armLost]
  else []

theorem sampleArms_eq (first : Bool) (s : State) :
    sampleArms first s = foundFaults (armReports first s) (walkedArms first s) := by
  cases first with
  | true => rfl
  | false => exact foundFaults_ite _ _ _

theorem offBarriers_walkedArms (first : Bool) (s : State) : offBarriers (walkedArms first s) = offBarriers s := by
  unfold walkedArms
  split
  · exact foldl_keeps offBarriers (offBarriers_firstArmSample _) _ s
  · exact foldl_keeps offBarriers (offBarriers_armSample _) _ s

theorem lit_firstArmSample {port : Port} {bit : Nat} (x : RawInputs) (s : State) (a : Arm) (lit : Lit port bit s) :
    Lit port bit (firstArmSample x s a) := by
  unfold firstArmSample
  dsimp only
  (repeat' split) <;> simp [lit]

theorem lit_walkedArms {port : Port} {bit : Nat} (first : Bool) (s : State) (lit : Lit port bit s) :
    Lit port bit (walkedArms first s) := by
  unfold walkedArms
  split
  · exact lit_foldl (lit_firstArmSample _) _ s lit
  · exact lit_foldl (lit_armSample _) _ s lit

theorem walkedArms_first (s : State) (a : Arm) :
    (walkedArms true s).guard.arms.get a = firstSampledArm (filtered s) a (s.guard.arms.get a) := by
  rw [walkedArms, if_pos rfl]
  exact foldl_arms_framed (offBarriers_firstArmSample _) (fun t a _ => firstArmSample_arms _ t a) a

theorem walkedArms_later (s : State) (a : Arm) : (walkedArms false s).guard.arms.get a =
    sampledArm (filtered s) (spanSecure s) s.params s.guard.halted a (s.guard.arms.get a) := by
  rw [walkedArms, if_neg Bool.false_ne_true]
  exact foldl_arms_framed (offBarriers_armSample _) (fun t a same => by
    rw [armSample_arms, secure_of_offBarriers same, params_of_offBarriers same, halted_of_offBarriers same]) a

theorem Sampled.walked {raw : RawInputs} {s v : State} (h : Sampled raw s v) (first : Bool) :
    Sampled raw s (walkedArms first v) :=
  h.of_offBarriers (offBarriers_walkedArms first v) (lit_walkedArms first v)

theorem Sampled.armed {raw : RawInputs} {s v : State} (h : Sampled raw s v) (first : Bool) :
    Sampled raw s (sampleArms first v) := by
  rw [sampleArms_eq]
  exact (h.walked first).found _

theorem sampleArms_keeps {s v : State} {c : FaultCause} (h : FaultReported c s v) (first : Bool) :
    FaultReported c s (sampleArms first v) := by
  rw [sampleArms_eq]
  exact (foundFaults_after (h.of_reportable (reportable_of_offBarriers (offBarriers_walkedArms first v))
    (lit_walkedArms first v)) _).1

theorem sampleArms_reports {raw : RawInputs} {s v : State} (h : Sampled raw s v) (open_ : secureAtSample raw s = false)
    {a : Arm} (was : (v.guard.arms.get a).state = .down)
    (is : ((walkedArms false v).guard.arms.get a).state = .fault) : FaultReported .armLost s (sampleArms false v) := by
  have member : a ∈ allArms := by cases a <;> decide
  have lost : downLost v.guard.arms (walkedArms false v).guard.arms = true :=
    List.any_eq_true.2 ⟨a, member, by simp [was, is]⟩
  rw [sampleArms_eq]
  refine (h.walked false).2.2.1.found ?_
  rw [armReports, lost, (h.walked false).secure, open_]
  exact List.mem_singleton.2 rfl

/-! ## The first phases -/

/-- The deck of a state, and the halt mark. -/
def deckOf (s : State) : Deck × PerDetector DetectorRecord × Bool := (s.guard.deck, s.guard.detectors, s.guard.halted)

theorem deckOf_applyPhase (a : Approach) (s : State) : deckOf (applyPhase a s) = deckOf s := by
  have lamp : ∀ h on s l, deckOf (switchLamp h on s l) = deckOf s := by
    intro h on s l
    unfold switchLamp
    dsimp only
    (repeat' split) <;> rfl
  exact foldl_keeps deckOf (fun s h => foldl_keeps deckOf (f := fun s l => switchLamp h _ s l) (fun s l => lamp h _ s l) _ s) _ s

theorem deckOf_evaluateApproach (a : Approach) (s : State) : deckOf (evaluateApproach a s) = deckOf s := by
  unfold evaluateApproach
  dsimp only
  split <;> rfl

theorem deckOf_firstPhase (a : Approach) (s : State) : deckOf (firstPhase a s) = deckOf s := by
  unfold firstPhase
  split
  · exact (deckOf_evaluateApproach a _).trans ((deckOf_applyPhase a _).trans rfl)
  · exact (deckOf_applyPhase a _).trans rfl

theorem deckOf_firstPhases (s : State) : deckOf (firstPhases s) = deckOf s :=
  (deckOf_firstPhase .south _).trans (deckOf_firstPhase .north s)

theorem reportable_of_offRoad {s t : State} (h : offRoad t = offRoad s) : reportable t = reportable s := by
  have drive : t.drive = s.drive := (congrArg (·.drive) h :)
  have seq : t.seq = s.seq := (congrArg (·.seq) h :)
  rw [reportable, reportable, drive, seq]

theorem arms_of_offRoad {s t : State} (h : offRoad t = offRoad s) : t.guard.arms = s.guard.arms :=
  (congrArg (·.guard.arms) h :)

theorem Sampled.of_offRoad {raw : RawInputs} {s u v : State} (h : Sampled raw s u) (same : offRoad v = offRoad u)
    (lit : Lit .control 1 u → Lit .control 1 v) : Sampled raw s v :=
  h.of_frame (congrArg (·.inputs) same :) (congrArg (·.params) same :) (reportable_of_offRoad same) lit

/-- An input sample up to the deck. -/
def afterPhases (raw : RawInputs) (s : State) : State :=
  if s.inputs.isNone then firstPhases (sampleArms true (secured raw s)) else sampleArms false (secured raw s)

theorem beforeEdges_eq (raw : RawInputs) (s : State) :
    beforeEdges raw s = deckSample (filtered s) (filtered (takeReading raw s)) (afterPhases raw s) := by
  unfold beforeEdges afterPhases secured
  dsimp only
  cases s.inputs with
  | none => simp only [Option.isNone_none, if_true]
  | some x => simp only [Option.isNone_some, Bool.false_eq_true, if_false]

theorem afterPhases_eq (raw : RawInputs) (s : State) : ∃ u, offRoad (afterPhases raw s) = offRoad u ∧ deckOf (afterPhases raw s) = deckOf u ∧
    u = sampleArms s.inputs.isNone (secured raw s) ∧
    ∀ port bit, Lit port bit u → Lit port bit (afterPhases raw s) := by
  unfold afterPhases
  cases s.inputs with
  | none =>
    simp only [Option.isNone_none, if_true]
    exact ⟨_, offRoad_firstPhases _, deckOf_firstPhases _, rfl, fun _ _ => lit_firstPhases _⟩
  | some x =>
    simp only [Option.isNone_some, Bool.false_eq_true, if_false]
    exact ⟨_, rfl, rfl, rfl, fun _ _ h => h⟩

/-! ## The deck at a sample -/

theorem foldl_detectors {f : State → Detector → State} {g : Detector → DetectorRecord → DetectorRecord}
    (h : ∀ s d, (f s d).guard.detectors = s.guard.detectors.set d (g d (s.guard.detectors.get d))) (s : State)
    (d : Detector) : (allDetectors.foldl f s).guard.detectors.get d = g d (s.guard.detectors.get d) := by
  simp only [allDetectors, List.foldl_cons, List.foldl_nil, h]
  cases d <;> rfl

/-- A detector whose occupancy may end (R137). -/
def endedOccupancy (now : RawInputs) (d : Detector) (r : DetectorRecord) : DetectorRecord :=
  { r with spent := r.spent && RawInputs.occupied now d }

/-- A detector's occupancy timer at a sample of a measurement (R137). -/
def occupancyAt (before now : RawInputs) (p : Parameters) (d : Detector) (r : DetectorRecord) : DetectorRecord :=
  if !r.inService then r
  else if !RawInputs.occupied now d then { r with occupancy := .stopped }
  else if !RawInputs.occupied before d then { r with occupancy := waitStart p }
  else r

theorem detectors_set_get (x : PerDetector DetectorRecord) (d : Detector) : x.set d (x.get d) = x := by cases d <;> rfl

theorem foldl_endOccupancy (now : RawInputs) (s : State) (d : Detector) :
    (allDetectors.foldl (endOccupancy now) s).guard.detectors.get d = endedOccupancy now d (s.guard.detectors.get d) :=
  foldl_detectors (g := endedOccupancy now) (fun _ _ => rfl) s d

theorem occupancySample_detectors (before now : RawInputs) (s : State) (d : Detector) :
    (occupancySample before now s d).guard.detectors =
      s.guard.detectors.set d (occupancyAt before now s.params d (s.guard.detectors.get d)) := by
  unfold occupancySample occupancyAt
  dsimp only
  split_ifs
  · exact (detectors_set_get _ _).symm
  · rfl
  · rfl
  · exact (detectors_set_get _ _).symm

theorem occupancySample_params (before now : RawInputs) (s : State) (d : Detector) :
    (occupancySample before now s d).params = s.params := by
  unfold occupancySample
  dsimp only
  (repeat' split) <;> rfl

theorem foldl_occupancySample (before now : RawInputs) (s : State) (d : Detector) :
    (allDetectors.foldl (occupancySample before now) s).guard.detectors.get d =
      occupancyAt before now s.params d (s.guard.detectors.get d) := by
  simp only [allDetectors, List.foldl_cons, List.foldl_nil, occupancySample_detectors, occupancySample_params]
  cases d <;> rfl

/-- The deck and the halt mark under the walks over the detectors. -/
theorem foldl_endOccupancy_deck (now : RawInputs) (s : State) :
    (allDetectors.foldl (endOccupancy now) s).guard.deck = s.guard.deck ∧
      (allDetectors.foldl (endOccupancy now) s).guard.halted = s.guard.halted ∧
      (allDetectors.foldl (endOccupancy now) s).params = s.params ∧
      (allDetectors.foldl (endOccupancy now) s).inputs = s.inputs := by
  have all := foldl_keeps (fun t : State => (t.guard.deck, t.guard.halted, t.params, t.inputs))
    (f := endOccupancy now) (fun _ _ => rfl) allDetectors s
  exact ⟨congrArg (·.1) all, congrArg (·.2.1) all, congrArg (·.2.2.1) all, congrArg (·.2.2.2) all⟩

theorem measuring_endOccupancy (now : RawInputs) (s : State) :
    measuring (allDetectors.foldl (endOccupancy now) s) = measuring s := by
  obtain ⟨deck, halted, -⟩ := foldl_endOccupancy_deck now s
  rw [measuring, measuring, deck, halted]

theorem foldl_occupancySample_deck (before now : RawInputs) (s : State) :
    (allDetectors.foldl (occupancySample before now) s).guard.deck = s.guard.deck ∧
      (allDetectors.foldl (occupancySample before now) s).params = s.params ∧
      (allDetectors.foldl (occupancySample before now) s).inputs = s.inputs := by
  have one : ∀ (t : State) (d : Detector), (fun t : State => (t.guard.deck, t.params, t.inputs))
      (occupancySample before now t d) = (t.guard.deck, t.params, t.inputs) := by
    intro t d
    unfold occupancySample
    dsimp only
    (repeat' split) <;> rfl
  have all := foldl_keeps (fun t : State => (t.guard.deck, t.params, t.inputs)) one allDetectors s
  exact ⟨congrArg (·.1) all, congrArg (·.2.1) all, congrArg (·.2.2) all⟩

theorem occupancyAt_inService (before now : RawInputs) (p : Parameters) (d : Detector) (r : DetectorRecord) :
    (occupancyAt before now p d r).inService = r.inService := by
  unfold occupancyAt
  split_ifs <;> rfl

/-- The deck and the detectors behind a sample (R136, R137). -/
theorem deckSample_idle {before now : RawInputs} {s : State} (h : measuring s = false) :
    deckSample before now s = allDetectors.foldl (endOccupancy now) s := by
  unfold deckSample
  dsimp only
  rw [measuring_endOccupancy, if_neg (by simp [h])]

theorem deckSample_measuring {before now : RawInputs} {s : State} (h : measuring s = true) :
    deckSample before now s =
      followClear (allDetectors.foldl (occupancySample before now) (allDetectors.foldl (endOccupancy now) s)) := by
  unfold deckSample
  dsimp only
  rw [measuring_endOccupancy, if_pos h]

theorem deckSample_detector (before now : RawInputs) (s : State) (d : Detector) :
    (deckSample before now s).guard.detectors.get d =
      if measuring s then occupancyAt before now s.params d (endedOccupancy now d (s.guard.detectors.get d))
      else endedOccupancy now d (s.guard.detectors.get d) := by
  cases h : measuring s with
  | false =>
    rw [deckSample_idle h]
    exact foldl_endOccupancy now s d
  | true =>
    rw [deckSample_measuring h]
    refine (foldl_occupancySample before now _ d).trans ?_
    obtain ⟨-, -, params, -⟩ := foldl_endOccupancy_deck now s
    rw [foldl_endOccupancy, params]
    rfl

theorem deckSample_deck (before now : RawInputs) (s : State) :
    (deckSample before now s).guard.deck =
      if measuring s then { s.guard.deck with
        clear := if detectorsClear s then
            (if s.guard.deck.clear.isRunning then s.guard.deck.clear else .running 0 (1000 * s.params.deckClearTime))
          else .stopped }
      else s.guard.deck := by
  cases h : measuring s with
  | false =>
    rw [deckSample_idle h]
    exact (foldl_endOccupancy_deck now s).1
  | true =>
    rw [deckSample_measuring h]
    obtain ⟨deck0, -, params0, inputs0⟩ := foldl_endOccupancy_deck now s
    obtain ⟨deck, params, inputs⟩ := foldl_occupancySample_deck before now (allDetectors.foldl (endOccupancy now) s)
    have clear : detectorsClear (allDetectors.foldl (occupancySample before now)
        (allDetectors.foldl (endOccupancy now) s)) = detectorsClear s := by
      unfold detectorsClear
      rw [filtered_of_inputs (inputs.trans inputs0)]
      refine List.all_congr rfl fun d => ?_
      rw [foldl_occupancySample, occupancyAt_inService, foldl_endOccupancy]
      rfl
    unfold followClear
    dsimp only
    rw [clear, deck, params, deck0, params0]
    rfl

end Sys2Proof.Machine
end


section
/-!
What an input sample leaves of the arms, of the bolts and of the deck.
-/

namespace Sys2Proof.Machine

/-! ## The state behind a sample -/

theorem edgeSample_params (before now : RawInputs) (e : Edge) (s : State) :
    (edgeSample before now e s).params = s.params :=
  edgeSample_keeps (P := fun t => t.params = s.params) (fun _ => rfl) (fun _ h => h)
    (fun d t h => (congrArg Outer.params (outer_enterCrossing d t) :).trans
      ((by rw [countEnter_eq]; rfl : (countEnter t).params = t.params).trans h))
    (fun t h => (congrArg Outer.params (outer_exitCrossing e t) :).trans
      ((by rw [countExit_eq]; rfl : (countExit t).params = t.params).trans h))
    (fun d t h => (congrArg Outer.params (outer_approachCleared d t) :).trans h)

theorem reportable_sampleEdges (raw : RawInputs) (s : State) :
    reportable (sampleEdges raw s) = reportable (beforeEdges raw s) :=
  (reportable_edgeSample _ _ _ _).trans (reportable_edgeSample _ _ _ _)

theorem reportable_beforeEdges (raw : RawInputs) (s : State) :
    reportable (beforeEdges raw s) = reportable (sampleArms s.inputs.isNone (secured raw s)) := by
  obtain ⟨u, same, -, rfl, -⟩ := afterPhases_eq raw s
  rw [beforeEdges_eq, reportable_of_offRoad (offRoad_deckSample _ _ _), reportable_of_offRoad same]

theorem lit_afterArms {port : Port} {bit : Nat} {raw : RawInputs} {s : State}
    (lit : Lit port bit (sampleArms s.inputs.isNone (secured raw s))) : Lit port bit (sampleEdges raw s) := by
  obtain ⟨u, -, -, rfl, lits⟩ := afterPhases_eq raw s
  refine lit_sampleEdges raw s ?_
  rw [beforeEdges_eq]
  exact lit_of_ports (deckSample_ports _ _ _) (lits port bit lit)

theorem sampled_sampleEdges (raw : RawInputs) (s : State) : Sampled raw s (sampleEdges raw s) := by
  have arms := (sampled_secured raw s).armed s.inputs.isNone
  refine arms.of_frame ?_ ?_ ((reportable_sampleEdges raw s).trans (reportable_beforeEdges raw s)) lit_afterArms
  · rw [sampleEdges, edgeSample_inputs, edgeSample_inputs, arms.1]
    exact congrArg Outer.inputs (outer_beforeEdges raw s)
  · rw [sampleEdges, edgeSample_params, edgeSample_params, arms.2.1]
    exact congrArg Outer.params (outer_beforeEdges raw s)

/-- A report made before the arms, or at them, stands at the end. -/
theorem sampleEdges_keeps {raw : RawInputs} {s : State} {c : FaultCause}
    (h : FaultReported c s (sampleArms s.inputs.isNone (secured raw s))) : FaultReported c s (sampleEdges raw s) :=
  h.of_reportable ((reportable_sampleEdges raw s).trans (reportable_beforeEdges raw s)) lit_afterArms

theorem sampleEdges_arms (raw : RawInputs) (s : State) :
    (sampleEdges raw s).guard.arms = (walkedArms s.inputs.isNone (secured raw s)).guard.arms := by
  obtain ⟨u, same, -, rfl, -⟩ := afterPhases_eq raw s
  rw [guard_sampleEdges, beforeEdges_eq, arms_of_offRoad (offRoad_deckSample _ _ _), arms_of_offRoad same,
    sampleArms_eq, foundFaults_guard]

theorem sampleEdges_arm_first {raw : RawInputs} {s : State} (h : s.inputs = none) (a : Arm) :
    (sampleEdges raw s).guard.arms.get a = firstSampledArm (filtered (takeReading raw s)) a
      (edgedArm (secureAtSample raw s) s.guard.seatedLocked (s.guard.arms.get a)) := by
  rw [sampleEdges_arms, h, Option.isNone_none, walkedArms_first, (sampled_secured raw s).filtered, secured_arm]

theorem sampleEdges_arm_later {raw : RawInputs} {s : State} (h : s.inputs ≠ none) (a : Arm) :
    (sampleEdges raw s).guard.arms.get a =
      sampledArm (filtered (takeReading raw s)) (secureAtSample raw s) s.params s.guard.halted a
        (edgedArm (secureAtSample raw s) s.guard.seatedLocked (s.guard.arms.get a)) := by
  have sampled := sampled_secured raw s
  have later : s.inputs.isNone = false := by simpa [Option.isSome_iff_ne_none] using h
  rw [sampleEdges_arms, later, walkedArms_later, sampled.filtered, sampled.secure, sampled.2.1, secured_arm,
    (secured_deck raw s).2.2]

theorem faultsLit_sampleEdges {raw : RawInputs} {s : State} (h : s.inputs ≠ none) : FaultsLit s (sampleEdges raw s) := by
  have later : s.inputs.isNone = false := by simpa [Option.isSome_iff_ne_none] using h
  have walked : FaultsLit s (walkedArms false (secured raw s)) := by
    rw [walkedArms, if_neg Bool.false_ne_true]
    exact FaultsLit.foldl (fun t a ht => ht.armSample _ a) (faultsLit_secured raw s)
  refine walked.of_arms (by rw [sampleEdges_arms, later]) fun lit => lit_afterArms ?_
  rw [later, sampleArms_eq]
  exact lit_foundFaults _ _ lit

/-! ## The arms -/

theorem edgedArm_of_ne {r : ArmRecord} (h : r.state ≠ .raising) (secure locked : Bool) : edgedArm secure locked r = r := by
  unfold edgedArm droppedArm
  rw [if_neg h, ite_self]

theorem edgedArm_drops {r : ArmRecord} (h : r.state = .raising) :
    edgedArm false true r = faultedArm .notLocked r := by
  unfold edgedArm droppedArm
  rw [if_pos (by decide), if_pos h]

theorem edgedArm_of_not {r : ArmRecord} {secure locked : Bool}
    (h : ¬ (r.state = .raising ∧ locked = true ∧ secure = false)) : edgedArm secure locked r = r := by
  by_cases raising : r.state = .raising
  · unfold edgedArm
    rw [if_neg (by simpa [raising, and_comm] using h)]
  · exact edgedArm_of_ne raising _ _

theorem edgedArm_inService {r : ArmRecord} (h : r.state ≠ .outOfService) (secure locked : Bool) :
    (edgedArm secure locked r).state ≠ .outOfService := by
  unfold edgedArm droppedArm
  split_ifs
  · simp [faultedArm, restArm]
  · exact h
  · exact h

/-- The first sample's judgement of an arm by its switches (R122). -/
theorem firstSampledArm_spec {x : RawInputs} {a : Arm} {r : ArmRecord} (h : r.state ≠ .outOfService) :
    (firstSampledArm x a r).state = (match RawInputs.armUp x a, RawInputs.armDown x a with
      | true, false => .up
      | false, true => .down
      | _, _ => .fault) ∧
      (firstSampledArm x a r).commandedEnd =
        (if RawInputs.armUp x a = true ∧ RawInputs.armDown x a = false then .up else .down) ∧
      (firstSampledArm x a r).faultReason =
        (if RawInputs.armUp x a = RawInputs.armDown x a then some .position else none) := by
  unfold firstSampledArm restUp restDown
  rw [if_neg (by simpa using h)]
  cases RawInputs.armUp x a <;> cases RawInputs.armDown x a <;> exact ⟨rfl, rfl, rfl⟩

section
variable {x : RawInputs} {a : Arm} {r : ArmRecord} {secure halted up down : Bool} {p : Parameters}

theorem sampledArm_stays (h : r.state = .outOfService ∨ r.state = .fault) : sampledArm x secure p halted a r = r := by
  unfold sampledArm
  rcases h with h | h <;> rw [h]

/-- Both switches made (R127, R128). -/
theorem sampledArm_conflict (inService : r.state ≠ .outOfService) (sound : r.state ≠ .fault)
    (hu : RawInputs.armUp x a = true) (hd : RawInputs.armDown x a = true) :
    sampledArm x secure p halted a r = faultedArm .switchConflict r := by
  have both : bothEnds x a = true := by simp [bothEnds, hu, hd]
  unfold sampledArm
  rw [both]
  cases hst : r.state with
  | outOfService => exact absurd hst inService
  | fault => exact absurd hst sound
  | _ => rfl

variable (hu : RawInputs.armUp x a = up) (hd : RawInputs.armDown x a = down)
include hu hd

/-- A lowering arm (R127, R130). -/
theorem sampledArm_lowering (h : r.state = .lowering) :
    (up = false → down = true → sampledArm x secure p halted a r = restArm .down r) ∧
    (down = false → RawInputs.obstruction x a = true → sampledArm x secure p halted a r = obstructedArm secure p r) ∧
    (down = false → RawInputs.obstruction x a = false → sampledArm x secure p halted a r = r) := by
  unfold sampledArm bothEnds restDown
  rw [h, hu, hd]
  refine ⟨?_, ?_, ?_⟩
  · rintro rfl rfl; rfl
  · rintro rfl ho; simp [ho]
  · rintro rfl ho; simp [ho]

/-- A raising arm (R127, R131). -/
theorem sampledArm_raising (h : r.state = .raising) :
    (up = false → sampledArm x secure p halted a r = r) ∧
    (up = true → down = false → sampledArm x secure p halted a r = arrivedArm p r) := by
  unfold sampledArm bothEnds restUp
  rw [h, hu, hd]
  refine ⟨?_, ?_⟩
  · rintro rfl; simp
  · rintro rfl rfl; rfl

/-- An arm at rest UP (R128). -/
theorem sampledArm_up (h : r.state = .up) :
    (up = true → down = false → sampledArm x secure p halted a r = r) ∧
    (up = false → sampledArm x secure p halted a r = faultedArm .upLost r) := by
  unfold sampledArm bothEnds restUp
  rw [h, hu, hd]
  refine ⟨?_, ?_⟩
  · rintro rfl rfl; rfl
  · rintro rfl; simp

/-- An arm at rest DOWN (R128). -/
theorem sampledArm_down (h : r.state = .down) :
    (up = false → down = true → sampledArm x secure p halted a r = r) ∧
    (down = false → sampledArm x secure p halted a r = faultedArm .downLost r) := by
  unfold sampledArm bothEnds restDown
  rw [h, hu, hd]
  refine ⟨?_, ?_⟩
  · rintro rfl rfl; rfl
  · rintro rfl; simp

/-- A STOPPED arm completes while HALTED is not yet left (R98, R132). -/
theorem sampledArm_stopped (h : r.state = .stopped) :
    (up = false → down = false → sampledArm x secure p halted a r = r) ∧
    (up ≠ down → halted = false → sampledArm x secure p halted a r = r) ∧
    (up ≠ down → halted = true → sampledArm x secure p halted a r = restArm (if up then .up else .down) r) := by
  unfold sampledArm bothEnds restUp restDown
  rw [h, hu, hd]
  cases up <;> cases down <;> cases halted <;> simp

end

theorem obstructedArm_secure (p : Parameters) (r : ArmRecord) :
    (obstructedArm true p r).state = .raising ∧ (obstructedArm true p r).obstructions = min (r.obstructions + 1) 3 ∧
      (obstructedArm true p r).reversal = some (if 3 ≤ r.obstructions + 1 then .final else .reversing) ∧
      (obstructedArm true p r).travel = .running 0 (1000 * p.armTimeout) := by
  refine ⟨rfl, rfl, ?_, rfl⟩
  have limit : (min (r.obstructions + 1) Config.obstructionLimit == Config.obstructionLimit) =
      decide (3 ≤ r.obstructions + 1) := by
    rw [Bool.eq_iff_iff, beq_iff_eq, decide_eq_true_iff]
    exact min_eq_right_iff
  unfold obstructedArm
  rw [if_pos rfl, limit]
  dsimp only
  split_ifs <;> simp_all

/-- What a later sample leaves of an arm that the secure edge has not dropped. -/
theorem sampledArm_spec (x : RawInputs) (a : Arm) (r t : ArmRecord) (secure halted up down : Bool) (p : Parameters)
    (ht : t = sampledArm x secure p halted a r) (hu : RawInputs.armUp x a = up) (hd : RawInputs.armDown x a = down) :
    (r.state ≠ .outOfService → r.state ≠ .fault → up = true → down = true →
      t.state = .fault ∧ t.faultReason = some .switchConflict) ∧
    (r.state = .lowering →
      (up = false → down = true → t.state = .down ∧ t.travel = .stopped) ∧
      (down = false → RawInputs.obstruction x a = true → secure = true →
        t.state = .raising ∧ t.obstructions = min (r.obstructions + 1) 3 ∧
        t.reversal = some (if 3 ≤ r.obstructions + 1 then .final else .reversing) ∧
        t.travel = .running 0 (1000 * p.armTimeout)) ∧
      (down = false → RawInputs.obstruction x a = true → secure = false →
        t.state = .fault ∧ t.faultReason = some .obstructed) ∧
      (down = false → RawInputs.obstruction x a = false → t = r)) ∧
    (r.state = .raising →
      (up = false → t = r) ∧
      (up = true → down = false →
        (r.reversal = none → t.state = .up ∧ t.retryWait = .stopped) ∧
        (r.reversal = some .reversing → t.state = .up ∧ t.retryWait = .running 0 (1000 * p.retryTime)) ∧
        (r.reversal = some .final → t.state = .fault ∧ t.faultReason = some .obstructed))) ∧
    (r.state = .up → (up = true → down = false → t = r) ∧
      (up = false → t.state = .fault ∧ t.faultReason = some .upLost)) ∧
    (r.state = .down → (up = false → down = true → t = r) ∧
      (down = false → t.state = .fault ∧ t.faultReason = some .downLost)) ∧
    (r.state = .stopped →
      (up = false → down = false → t = r) ∧
      (up ≠ down → halted = false → t = r) ∧
      (up ≠ down → halted = true → t.state = (if up then .up else .down))) := by
  subst ht
  refine ⟨fun inService sound h1 h2 => ?_, fun h => ?_, fun h => ?_, fun h => ?_, fun h => ?_, fun h => ?_⟩
  · rw [sampledArm_conflict inService sound (hu.trans h1) (hd.trans h2)]
    exact ⟨rfl, rfl⟩
  · obtain ⟨arrives, obstructed, goes⟩ := sampledArm_lowering (secure := secure) (halted := halted) (p := p) hu hd h
    refine ⟨fun h1 h2 => ?_, fun h1 h2 h3 => ?_, fun h1 h2 h3 => ?_, goes⟩
    · rw [arrives h1 h2]
      exact ⟨rfl, rfl⟩
    · rw [obstructed h1 h2, h3]
      exact obstructedArm_secure p r
    · rw [obstructed h1 h2, h3]
      exact ⟨rfl, rfl⟩
  · obtain ⟨goes, arrives⟩ := sampledArm_raising (secure := secure) (halted := halted) (p := p) hu hd h
    refine ⟨goes, fun h1 h2 => ?_⟩
    rw [arrives h1 h2, arrivedArm]
    refine ⟨fun hr => ?_, fun hr => ?_, fun hr => ?_⟩
    · rw [hr]; exact ⟨rfl, rfl⟩
    · rw [hr]; exact ⟨rfl, rfl⟩
    · rw [hr]; exact ⟨rfl, rfl⟩
  · obtain ⟨stays, lost⟩ := sampledArm_up (secure := secure) (halted := halted) (p := p) hu hd h
    refine ⟨stays, fun h1 => ?_⟩
    rw [lost h1]
    exact ⟨rfl, rfl⟩
  · obtain ⟨stays, lost⟩ := sampledArm_down (secure := secure) (halted := halted) (p := p) hu hd h
    refine ⟨stays, fun h1 => ?_⟩
    rw [lost h1]
    exact ⟨rfl, rfl⟩
  · obtain ⟨between, stays, completes⟩ := sampledArm_stopped (secure := secure) (halted := halted) (p := p) hu hd h
    refine ⟨between, stays, fun h1 h2 => ?_⟩
    rw [completes h1 h2]
    rfl

/-- An arm lost at a sample is reported (R126, R128, R129). -/
theorem sampleEdges_reports {raw : RawInputs} {s : State} (later : s.inputs ≠ none)
    (open_ : secureAtSample raw s = false)
    (lost : (∃ a, (s.guard.arms.get a).state = .down ∧ ((sampleEdges raw s).guard.arms.get a).state = .fault) ∨
      s.guard.seatedLocked = true ∧
        (∃ a, (s.guard.arms.get a).state ≠ .down ∧ (s.guard.arms.get a).state ≠ .outOfService)) :
    FaultReported .armLost s (sampleEdges raw s) := by
  have laterB : s.inputs.isNone = false := by simpa [Option.isSome_iff_ne_none] using later
  refine sampleEdges_keeps ?_
  rcases lost with ⟨a, was, is⟩ | ⟨locked, up⟩
  · rw [laterB]
    rw [sampleEdges_arms, laterB] at is
    refine sampleArms_reports (sampled_secured raw s) open_ (a := a) ?_ is
    rw [secured_arm, edgedArm_of_ne (by simp [was]), was]
  · exact sampleArms_keeps (secured_reports locked open_ up) _

/-- Settles O55: the arms at an input sample. -/
theorem armsAtSample : Obligations.ArmsAtSample := by
  unfold Obligations.ArmsAtSample
  rintro raw x s rfl
  have secure := (sampled_sampleEdges raw s).secure
  refine ⟨sampleEdges raw s, rfl, ?_, fun later open_ lost => sampleEdges_reports later (secure ▸ open_) lost⟩
  rintro a r t up down rfl rfl rfl rfl
  refine ⟨fun first => ⟨fun out => ?_, fun inService => ?_⟩,
    fun later => ⟨fun stays => ?_, fun raising locked open_ => ?_, fun new old => ?_, fun kept => ?_⟩⟩
  · rw [sampleEdges_arm_first first, edgedArm_of_ne (by simp [out]), firstSampledArm, if_pos (by simp [out])]
  · rw [sampleEdges_arm_first first]
    exact firstSampledArm_spec (edgedArm_inService inService _ _)
  · rw [sampleEdges_arm_later later, edgedArm_of_ne (by rcases stays with h | h <;> simp [h]), sampledArm_stays stays]
  · rw [secure] at open_
    rw [sampleEdges_arm_later later, open_, locked, edgedArm_drops raising, sampledArm_stays (.inr rfl)]
    exact ⟨rfl, rfl⟩
  · exact faultsLit_sampleEdges later a new old
  · rw [secure] at kept ⊢
    refine sampledArm_spec _ a _ _ _ s.guard.halted _ _ s.params ?_ rfl rfl
    rw [sampleEdges_arm_later later, edgedArm_of_not kept]

/-! ## The bolts -/

theorem stopBolt_rest {r : BoltRecord} (h : r.state ≠ .withdrawing) (h' : r.state ≠ .driving) :
    stopBolt r = { r with waiting := false } := by
  unfold stopBolt
  cases hst : r.state with
  | withdrawing => exact absurd hst h
  | driving => exact absurd hst h'
  | _ => rfl

/-- A bolt sampled at rest is not touched by the reports of the sample but for its waiting. -/
theorem sampleEdges_bolt_rest {raw : RawInputs} {s : State} {b : Tower} {r : BoltRecord}
    (hr : r = (sampledBolts raw s).get b) (h : r.state ≠ .withdrawing) (h' : r.state ≠ .driving) :
    ∃ w, (sampleEdges raw s).drive.bolts.get b = { r with waiting := w } := by
  subst hr
  rcases (sampled_sampleEdges raw s).2.2.2.bolt b with same | ⟨stopped, -⟩
  · exact ⟨_, same⟩
  · exact ⟨false, stopped.trans (stopBolt_rest h h')⟩

theorem boltSample_rest {x : RawInputs} {b : Tower} {r : BoltRecord}
    (h : r.state = .driven ∨ r.state = .withdrawn ∨ r.state = .fault ∧ r.reason ≠ some .timeout) :
    boltSample x b r = boltFromSwitches x b r := by
  unfold boltSample
  rcases h with h | h | ⟨h, untimed⟩
  · simp only [h]
  · simp only [h]
  · cases hr : r.reason with
    | none => simp only [h]
    | some why =>
      cases why with
      | timeout => exact absurd hr untimed
      | _ => simp only [h]

theorem boltFromSwitches_spec (x : RawInputs) (b : Tower) (r : BoltRecord) :
    (boltFromSwitches x b r).state = (match RawInputs.driven x b, RawInputs.withdrawn x b with
      | true, false => .driven
      | false, true => .withdrawn
      | _, _ => .fault) ∧
      (boltFromSwitches x b r).reason = (match RawInputs.driven x b, RawInputs.withdrawn x b with
        | true, true => some .switchConflict
        | false, false => some .position
        | _, _ => none) := by
  unfold boltFromSwitches
  cases RawInputs.driven x b <;> cases RawInputs.withdrawn x b <;> exact ⟨rfl, rfl⟩

theorem boltFromSwitches_rests (x : RawInputs) (b : Tower) (r : BoltRecord) :
    (boltFromSwitches x b r).state ≠ .withdrawing ∧ (boltFromSwitches x b r).state ≠ .driving := by
  unfold boltFromSwitches
  split <;> simp

theorem boltSample_timedOut {x : RawInputs} {b : Tower} {r : BoltRecord} (h : r.state = .fault)
    (hr : r.reason = some .timeout) : boltSample x b r = r := by
  unfold boltSample
  simp only [h, hr]

/-- A travel that meets both switches (R163). -/
theorem boltSample_conflict {x : RawInputs} {b : Tower} {r : BoltRecord} (h : r.state = .withdrawing ∨ r.state = .driving)
    (hdr : RawInputs.driven x b = true) (hwd : RawInputs.withdrawn x b = true) :
    boltSample x b r = { r with state := .fault, reason := some .switchConflict, travel := .stopped } := by
  unfold boltSample
  rcases h with h | h <;> simp [h, hdr, hwd]

theorem boltSample_arrives {x : RawInputs} {b : Tower} {r : BoltRecord} :
    (r.state = .withdrawing → RawInputs.driven x b = false → RawInputs.withdrawn x b = true →
      boltSample x b r = { r with state := .withdrawn, travel := .stopped }) ∧
    (r.state = .driving → RawInputs.driven x b = true → RawInputs.withdrawn x b = false →
      boltSample x b r = { r with state := .driven, travel := .stopped }) ∧
    (r.state = .withdrawing ∧ RawInputs.withdrawn x b = false ∨ r.state = .driving ∧ RawInputs.driven x b = false →
      boltSample x b r = r) := by
  unfold boltSample
  refine ⟨fun h hdr hwd => ?_, fun h hdr hwd => ?_, ?_⟩
  · simp [h, hdr, hwd]
  · simp [h, hdr, hwd]
  · rintro (⟨h, hs⟩ | ⟨h, hs⟩) <;> simp [h, hs]

theorem driveWaiting_bolt (s : State) (b : Tower) : (driveWaiting s).drive.bolts.get b =
    (if (s.drive.bolts.get b).waiting then
      { state := .driving, reason := none, travel := .running 0 (1000 * s.params.lockTimeout), waiting := false }
      else s.drive.bolts.get b) := by
  have each : (driveWaiting s).drive.bolts.get b = startWaiting s.params (s.drive.bolts.get b) :=
    PerTower.get_map _ _ b
  rw [each, startWaiting]
  cases (s.drive.bolts.get b).waiting <;> rfl

theorem boltsWait_iff (s : State) :
    boltsWait s = true ↔ seated s = true ∧ ∃ k, (s.drive.bolts.get k).waiting = true := by
  unfold boltsWait
  rw [Bool.and_eq_true, Bool.or_eq_true]
  refine and_congr_right fun _ => ⟨?_, ?_⟩
  · rintro (h | h)
    · exact ⟨.w, h⟩
    · exact ⟨.e, h⟩
  · rintro ⟨k, h⟩
    cases k
    · exact .inl h
    · exact .inr h

/-- A conflict entered at a sample is reported (R163). -/
theorem sampleEdges_conflict {raw : RawInputs} {s : State} {b : Tower}
    (new : ((sampleEdges raw s).drive.bolts.get b).reason = some .switchConflict)
    (old : (s.drive.bolts.get b).reason ≠ some .switchConflict) :
    FaultReported .lockSwitchConflict s (sampleEdges raw s) := by
  have sampled : ((sampledBolts raw s).get b).reason = some .switchConflict := by
    rcases (sampled_sampleEdges raw s).2.2.2.bolt b with same | ⟨stopped, -⟩
    · rwa [same] at new
    · rw [stopped] at new
      unfold stopBolt at new
      split at new
      · cases new
      · cases new
      · exact new
  have entered : conflictEntered (s.drive.bolts.get b) ((sampledBolts raw s).get b) = true := by
    simp [conflictEntered, sampled, old]
  exact sampleEdges_keeps (sampleArms_keeps (secured_keeps (sampleBolts_reports entered)) _)

/-! ## The deck -/

theorem afterPhases_deck (raw : RawInputs) (s : State) : (afterPhases raw s).guard.deck = s.guard.deck ∧
    (afterPhases raw s).guard.detectors = s.guard.detectors ∧ (afterPhases raw s).guard.halted = s.guard.halted := by
  obtain ⟨u, -, same, rfl, -⟩ := afterPhases_eq raw s
  have barriers := offBarriers_walkedArms s.inputs.isNone (secured raw s)
  obtain ⟨deck, detectors, halted⟩ := secured_deck raw s
  have guard : (sampleArms s.inputs.isNone (secured raw s)).guard =
      (walkedArms s.inputs.isNone (secured raw s)).guard := by
    rw [sampleArms_eq, foundFaults_guard]
  have d1 : (afterPhases raw s).guard.deck = (sampleArms s.inputs.isNone (secured raw s)).guard.deck :=
    congrArg (·.1) same
  have d2 : (afterPhases raw s).guard.detectors = (sampleArms s.inputs.isNone (secured raw s)).guard.detectors :=
    congrArg (·.2.1) same
  have d3 : (afterPhases raw s).guard.halted = (sampleArms s.inputs.isNone (secured raw s)).guard.halted :=
    congrArg (·.2.2) same
  rw [d1, d2, d3, guard, deck_of_offBarriers barriers, detectors_of_offBarriers barriers,
    halted_of_offBarriers barriers]
  exact ⟨deck, detectors, halted⟩

theorem afterPhases_reads (raw : RawInputs) (s : State) : (afterPhases raw s).inputs = (takeReading raw s).inputs ∧
    (afterPhases raw s).params = s.params := by
  obtain ⟨u, same, -, rfl, -⟩ := afterPhases_eq raw s
  have arms := (sampled_secured raw s).armed s.inputs.isNone
  exact ⟨(congrArg (·.inputs) same :).trans arms.1, (congrArg (·.params) same :).trans arms.2.1⟩

theorem measuring_afterPhases (raw : RawInputs) (s : State) : measuring (afterPhases raw s) = measuring s := by
  obtain ⟨deck, -, halted⟩ := afterPhases_deck raw s
  rw [measuring, measuring, deck, halted]

theorem detectorsClear_afterPhases (raw : RawInputs) (s : State) : detectorsClear (afterPhases raw s) = true ↔
    ∀ d, (s.guard.detectors.get d).inService = true →
      RawInputs.occupied (filtered (takeReading raw s)) d = false := by
  rw [detectorsClear_iff, (afterPhases_deck raw s).2.1, filtered_of_inputs (afterPhases_reads raw s).1]

theorem sampleEdges_detector (raw : RawInputs) (s : State) (d : Detector) :
    (sampleEdges raw s).guard.detectors.get d =
      if measuring s then occupancyAt (filtered s) (filtered (takeReading raw s)) s.params d
        (endedOccupancy (filtered (takeReading raw s)) d (s.guard.detectors.get d))
      else endedOccupancy (filtered (takeReading raw s)) d (s.guard.detectors.get d) := by
  rw [guard_sampleEdges, beforeEdges_eq, deckSample_detector, measuring_afterPhases, (afterPhases_deck raw s).2.1,
    (afterPhases_reads raw s).2]

theorem sampleEdges_deck (raw : RawInputs) (s : State) : (sampleEdges raw s).guard.deck =
    if measuring s then { s.guard.deck with
      clear := if detectorsClear (afterPhases raw s) then
          (if s.guard.deck.clear.isRunning then s.guard.deck.clear else .running 0 (1000 * s.params.deckClearTime))
        else .stopped }
    else s.guard.deck := by
  rw [guard_sampleEdges, beforeEdges_eq, deckSample_deck, measuring_afterPhases, (afterPhases_deck raw s).1,
    (afterPhases_reads raw s).2]

theorem occupancyAt_ended (before now : RawInputs) (p : Parameters) (d : Detector) (r : DetectorRecord) :
    occupancyAt before now p d (endedOccupancy now d r) = { r with
      spent := r.spent && RawInputs.occupied now d,
      occupancy :=
        if r.inService = true then
          if RawInputs.occupied now d then
            if RawInputs.occupied before d then r.occupancy else .running 0 (1000 * p.deckWaitLimit)
          else .stopped
        else r.occupancy } := by
  unfold occupancyAt endedOccupancy
  cases r.inService <;> cases RawInputs.occupied now d <;> cases RawInputs.occupied before d <;> rfl

/-- Settles O56: the bolts and the deck at an input sample. -/
theorem boltsAndDeckAtSample : Obligations.BoltsAndDeckAtSample := by
  unfold Obligations.BoltsAndDeckAtSample
  refine ⟨by simp [followRules], fun s b => ⟨boltsWait_iff s, driveWaiting_bolt s b⟩, ?_⟩
  rintro raw x s rfl
  refine ⟨sampleEdges raw s, rfl, ?bolts, ?detectors, fun idle => ?_, fun running goes => ?deck⟩
  case bolts =>
    rintro b r t dr wd rfl rfl rfl rfl
    have sampled := sampledBolts_get raw s b
    refine ⟨fun rest => ?_, fun fault timeout => ?_, fun travels h1 h2 => ?_, fun travels h1 h2 => ?_,
      fun travels h1 h2 => ?_, fun goes same => ?_, sampleEdges_conflict⟩
    · rw [boltSample_rest rest] at sampled
      obtain ⟨rw_, rd⟩ := boltFromSwitches_rests (filtered (takeReading raw s)) b (s.drive.bolts.get b)
      obtain ⟨w, final⟩ := sampleEdges_bolt_rest sampled.symm rw_ rd
      rw [final]
      exact boltFromSwitches_spec _ b _
    · rw [boltSample_timedOut fault timeout] at sampled
      obtain ⟨w, final⟩ := sampleEdges_bolt_rest sampled.symm (by simp [fault]) (by simp [fault])
      rw [final]
      exact ⟨fault, timeout⟩
    · rw [boltSample_conflict travels h1 h2] at sampled
      obtain ⟨w, final⟩ := sampleEdges_bolt_rest sampled.symm (by simp) (by simp)
      rw [final]
      exact ⟨rfl, rfl, rfl⟩
    · rw [boltSample_arrives.1 travels h1 h2] at sampled
      obtain ⟨w, final⟩ := sampleEdges_bolt_rest sampled.symm (by simp) (by simp)
      rw [final]
      exact ⟨rfl, rfl⟩
    · rw [boltSample_arrives.2.1 travels h1 h2] at sampled
      obtain ⟨w, final⟩ := sampleEdges_bolt_rest sampled.symm (by simp) (by simp)
      rw [final]
      exact ⟨rfl, rfl⟩
    · rcases (sampled_sampleEdges raw s).2.2.2.bolt b with kept | ⟨-, other⟩
      · rw [kept, sampled, boltSample_arrives.2.2 goes]
      · exact absurd same other
  case detectors =>
    rintro d r rfl
    rw [sampleEdges_detector]
    by_cases h : measuring s = true
    · obtain ⟨running, goes⟩ := (measuring_iff s).1 h
      rw [if_pos h, occupancyAt_ended]
      simp only [running, goes, true_and]
    · have off : ¬ (s.guard.deck.measurement = some .running ∧ s.guard.halted = false ∧
          (s.guard.detectors.get d).inService = true) :=
        fun ⟨running, goes, _⟩ => h ((measuring_iff s).2 ⟨running, goes⟩)
      rw [if_neg h, if_neg off]
      rfl
  · rw [sampleEdges_deck, if_neg (fun h => idle ((measuring_iff s).1 h))]
  case deck =>
    have measures := (measuring_iff s).2 ⟨running, goes⟩
    rw [sampleEdges_deck, if_pos measures]
    refine ⟨fun clear => ?_, fun ⟨d, inService, occupied⟩ => ?_⟩
    · rw [if_pos ((detectorsClear_afterPhases raw s).2 clear)]
    · rw [if_neg]
      intro clear
      have free := (detectorsClear_afterPhases raw s).1 clear d inService
      rw [occupied] at free
      cases free

end Sys2Proof.Machine
end


section
/-!
The selection of an opening's members and the joins (R56 to R64): one walk over the due list by class, on a sound table
with its lists in order.
-/

namespace Sys2Proof.Machine

/-! ## The walk by class -/

/-- The due entries of one class, in due-list order. -/
def classOf (s : State) (c : Nat) : List Nat := s.table.dueList.filter (fun i => (entryAt s i).cls == c)

/-- The due entries of the classes 0 to 7, by class. -/
def classWalk (s : State) : List Nat := (List.range 8).flatMap (classOf s)

theorem mem_classOf {s : State} {c i : Nat} : i ∈ classOf s c ↔ i ∈ s.table.dueList ∧ (entryAt s i).cls = c := by
  simp [classOf]

theorem mem_classWalk {s : State} {i : Nat} : i ∈ classWalk s ↔ i ∈ s.table.dueList ∧ (entryAt s i).cls < 8 := by
  simp only [classWalk, List.mem_flatMap, List.mem_range, mem_classOf]
  constructor
  · rintro ⟨c, hc, hi, rfl⟩
    exact ⟨hi, hc⟩
  · rintro ⟨hi, hc⟩
    exact ⟨_, hc, hi, rfl⟩

theorem nodup_flatMap_classOf {s : State} (h : s.table.dueList.Nodup) {l : List Nat} (hl : l.Nodup) :
    (l.flatMap (classOf s)).Nodup := by
  refine List.nodup_flatMap.2 ⟨fun c _ => h.filter _, hl.imp fun {c d} hcd => ?_⟩
  intro i hc hd
  exact hcd ((mem_classOf.1 hc).2.symm.trans (mem_classOf.1 hd).2)

theorem byClass_eq (p : Entry → Bool) (s : State) : byClass p s = (classWalk s).filter (fun i => p (entryAt s i)) := by
  simp only [byClass, classWalk, classOf, List.filter_flatMap, List.filter_filter]

theorem due_of_ordered {s : State} (h : ListsOrdered s) {i : Nat} (hi : i ∈ s.table.dueList) :
    i < 64 ∧ (entryAt s i).state = .due := by
  obtain ⟨-, -, -, due, -⟩ := h
  exact (due i).1 hi

theorem nodup_of_ordered {s : State} (h : ListsOrdered s) : s.table.dueList.Nodup := by
  obtain ⟨-, nodup, -⟩ := h
  exact nodup

/-! ## A member taken -/

/-- An entry that has become ASSIGNED to an opening (R8). -/
def Entry.assigned (e : Entry) (n : BitVec 16) (k : Kind) : Entry :=
  { e with
    state := .assigned, openingNumber := some n, tideHold := none,
    lapseMark := if k == .arrival then none else some false, codeGood := true }

theorem takeMember_due {n : BitVec 16} {i : Nat} {s : State} (hs : TableSound s) (h : (entryAt s i).state = .due) :
    takeMember n i s = (applyChange (.assign n) i s, true) := by
  have read : verifyGeneration i s = s := if_pos (generationAt_good hs i)
  unfold takeMember
  rw [read, ask_made hs (by rw [h]; rfl)]

theorem applyAssign_entry {n : BitVec 16} {i : Nat} {s : State} (hs : TableSound s) (hi : i < 64) :
    entryAt (applyChange (.assign n) i s) i = (entryAt s i).assigned n (kindOf s.table i) :=
  entryAt_writeEntry_same _ (leaveDue_sound i hs) hi

theorem applyAssign_table (n : BitVec 16) (i : Nat) (s : State) :
    (applyChange (.assign n) i s).table.dueList = s.table.dueList.filter (· != i) ∧
      (applyChange (.assign n) i s).table.tb = s.table.tb ∧
      (applyChange (.assign n) i s).table.generations = s.table.generations := by
  have left := leaveDue_table i s
  exact ⟨(congrArg Table.dueList left :), (congrArg Table.tb left :), (congrArg Table.generations left :)⟩

theorem concludeEntry_lists (i : Nat) (o : PassageOutcome) (s : State) :
    (concludeEntry i o s).table.dueList = s.table.dueList.filter (· != i) ∧
      (concludeEntry i o s).table.tb = s.table.tb ∧
      (concludeEntry i o s).table.generations = s.table.generations := by
  rw [concludeEntry_table]
  exact ⟨rfl, rfl, rfl⟩

/-- The fields of an entry that a slot copies (R61). -/
def Entry.copied (e : Entry) : Direction × Nat × Int := (e.direction, e.cls, e.airDraft)

theorem copied_concludedAs (e : Entry) (k : Kind) (o : PassageOutcome) (m : Nat) :
    (e.concludedAs k o m).copied = e.copied := by
  cases k <;> rfl

/-- What one change of an entry on the walk leaves of the others' copies. -/
theorem copied_applyAssign (n : BitVec 16) {i : Nat} {s : State} (hs : TableSound s) (hi : i < 64) (j : Nat) :
    (entryAt (applyChange (.assign n) i s) j).copied = (entryAt s j).copied := by
  by_cases h : j = i
  · subst h
    rw [applyAssign_entry hs hi]
    rfl
  · rw [entryAt_applyChange_ne _ hs h]

theorem copied_concludeEntry (o : PassageOutcome) {i : Nat} {s : State} (hs : TableSound s) (hi : i < 64) (j : Nat) :
    (entryAt (concludeEntry i o s) j).copied = (entryAt s j).copied := by
  by_cases h : j = i
  · subst h
    rw [entryAt_concludeEntry o (hs.1 ▸ hi), copied_concludedAs]
  · rw [entryAt_concludeEntry_ne _ _ h]

/-! ## The selection -/

/-- An entry that the selection takes (R60). -/
def wanted (s : State) (i : Nat) : Bool :=
  (entryAt s i).tideHold != some true && !fitsUnder s.params (entryAt s i).airDraft s.water.effective

/-- What the selection has left of an entry that fits under (R60). -/
def PutOff (s t : State) (i : Nat) : Prop :=
  i ∉ t.table.dueList ∧
    (s.table.tb ≤ i → (entryAt t i).state = .concluded ∧ (entryAt t i).outcome = some .notNeeded) ∧
    (i < s.table.tb → (entryAt t i).state = .pending ∧ (entryAt t i).lastOutcome = some .notNeeded)

/-- The selection for the opening `n` that started in `s`, when it has visited `seen`. -/
structure Selected (n : BitVec 16) (s : State) (seen : List Nat) (acc : State × List Nat) : Prop where
  sound : TableSound acc.1
  frame : offTable acc.1 = offTable s
  bounds : acc.1.table.tb = s.table.tb
  generations : acc.1.table.generations = s.table.generations
  copies : ∀ j, (entryAt acc.1 j).copied = (entryAt s j).copied
  others : ∀ j, j ∉ seen → entryAt acc.1 j = entryAt s j
  due : ∃ gone : List Nat, (∀ j ∈ gone, j ∈ seen) ∧
    acc.1.table.dueList = s.table.dueList.filter (fun j => !gone.contains j)
  taken : acc.2 = (seen.filter (wanted s)).take 8
  members : ∀ i ∈ acc.2, (entryAt acc.1 i).state = .assigned ∧ (entryAt acc.1 i).openingNumber = some n ∧
    i ∉ acc.1.table.dueList
  putOff : (seen.filter (wanted s)).length < 8 → ∀ i ∈ seen, (entryAt s i).tideHold ≠ some true →
    fitsUnder s.params (entryAt s i).airDraft s.water.effective = true → PutOff s acc.1 i

theorem Selected.start {n : BitVec 16} {s : State} (hs : TableSound s) : Selected n s [] (s, []) where
  sound := hs
  frame := rfl
  bounds := rfl
  generations := rfl
  copies := fun _ => rfl
  others := fun _ _ => rfl
  due := ⟨[], by simp, by simp⟩
  taken := rfl
  members := by simp
  putOff := by simp

section Step

variable {n : BitVec 16} {s : State} {seen : List Nat} {acc : State × List Nat} {i : Nat}

/-- A list without the entries gone and one more. -/
theorem filter_gone (l gone : List Nat) (i : Nat) :
    (l.filter (fun j => !gone.contains j)).filter (· != i) = l.filter (fun j => !(i :: gone).contains j) := by
  rw [List.filter_filter]
  refine List.filter_congr fun j _ => ?_
  rw [List.contains_cons, Bool.not_or]
  rfl

/-- The visit passes an entry over: the selection is full, or the entry is tide-held. -/
theorem Selected.skip (h : Selected n s seen acc)
    (same : ((seen ++ [i]).filter (wanted s)).take 8 = (seen.filter (wanted s)).take 8)
    (keeps : ((seen ++ [i]).filter (wanted s)).length < 8 → (entryAt s i).tideHold = some true) :
    Selected n s (seen ++ [i]) acc where
  sound := h.sound
  frame := h.frame
  bounds := h.bounds
  generations := h.generations
  copies := h.copies
  others := fun j hj => h.others j fun hs => hj (by simp [hs])
  due := by
    obtain ⟨gone, inside, due⟩ := h.due
    exact ⟨gone, fun j hj => by simp [inside j hj], due⟩
  taken := h.taken.trans same.symm
  members := h.members
  putOff := by
    intro few j hj held fits
    have fewer : (seen.filter (wanted s)).length < 8 := by
      rw [List.filter_append, List.length_append] at few
      omega
    rcases List.mem_append.1 hj with hj | hj
    · exact h.putOff fewer j hj held fits
    · rw [List.mem_singleton.1 hj] at held
      exact absurd (keeps few) held

/-- The visit puts an entry off that fits under (R60). -/
theorem Selected.conclude (h : Selected n s seen acc) (new : i ∉ seen) (hi : i < 64)
    (unwanted : wanted s i = false) : Selected n s (seen ++ [i]) (concludeEntry i .notNeeded acc.1, acc.2) := by
  obtain ⟨dueList, tb, generations⟩ := concludeEntry_lists i .notNeeded acc.1
  have notMember : i ∉ acc.2 := by
    rw [h.taken]
    exact fun hm => new (List.mem_of_mem_filter (List.mem_of_mem_take hm))
  have same : (seen ++ [i]).filter (wanted s) = seen.filter (wanted s) := by simp [unwanted]
  refine ⟨concludeEntry_sound _ _ h.sound, (offTable_concludeEntry _ _ _).trans h.frame, tb.trans h.bounds,
    generations.trans h.generations, fun j => (copied_concludeEntry _ h.sound hi j).trans (h.copies j), ?_, ?_,
    by rw [same]; exact h.taken, ?_, ?_⟩
  · intro j hj
    rw [entryAt_concludeEntry_ne _ _ (by rintro rfl; exact hj (by simp))]
    exact h.others j fun hs => hj (by simp [hs])
  · obtain ⟨gone, inside, due⟩ := h.due
    refine ⟨i :: gone, ?_, ?_⟩
    · simp only [List.mem_cons, List.mem_append]
      rintro j (rfl | hj)
      · exact .inr (by simp)
      · exact .inl (inside j hj)
    · exact dueList.trans (by rw [due, filter_gone])
  · intro j hj
    have other : j ≠ i := by rintro rfl; exact notMember hj
    obtain ⟨state, number, off⟩ := h.members j hj
    refine ⟨?_, ?_, ?_⟩
    · exact (congrArg Entry.state (entryAt_concludeEntry_ne _ _ other)).trans state
    · exact (congrArg Entry.openingNumber (entryAt_concludeEntry_ne _ _ other)).trans number
    · rw [dueList]
      exact fun hm => off (List.mem_of_mem_filter hm)
  · intro few j hj held fits
    rw [same] at few
    by_cases here : j = i
    · subst here
      have outcome := concludeEntry_outcome .notNeeded h.sound hi
      rw [h.bounds] at outcome
      exact ⟨not_mem_dueList_concludeEntry _ _ _, outcome.1, outcome.2⟩
    · have before : j ∈ seen := by simpa [here] using hj
      obtain ⟨off, high, low⟩ := h.putOff few j before held fits
      refine ⟨?_, fun hb => ?_, fun hb => ?_⟩
      · rw [dueList]
        exact fun hm => off (List.mem_of_mem_filter hm)
      · rw [entryAt_concludeEntry_ne _ _ here]
        exact high hb
      · rw [entryAt_concludeEntry_ne _ _ here]
        exact low hb

/-- The visit takes a member (R60, R61). -/
theorem Selected.take (h : Selected n s seen acc) (new : i ∉ seen) (hi : i < 64) (wants : wanted s i = true)
    (room : acc.2.length < 8) : Selected n s (seen ++ [i]) (applyChange (.assign n) i acc.1, acc.2 ++ [i]) := by
  obtain ⟨dueList, tb, generations⟩ := applyAssign_table n i acc.1
  have few : (seen.filter (wanted s)).length < 8 := by
    rw [h.taken, List.length_take] at room
    omega
  have before : acc.2 = seen.filter (wanted s) := by
    rw [h.taken, List.take_of_length_le few.le]
  have now : (seen ++ [i]).filter (wanted s) = seen.filter (wanted s) ++ [i] := by simp [wants]
  have notMember : i ∉ acc.2 := by
    rw [before]
    exact fun hm => new (List.mem_of_mem_filter hm)
  refine ⟨applyChange_sound _ _ h.sound, (offTable_applyChange _ _ h.sound).trans h.frame, tb.trans h.bounds,
    generations.trans h.generations, fun j => (copied_applyAssign n h.sound hi j).trans (h.copies j), ?_, ?_, ?_, ?_, ?_⟩
  · intro j hj
    rw [entryAt_applyChange_ne _ h.sound (by rintro rfl; exact hj (by simp))]
    exact h.others j fun hs => hj (by simp [hs])
  · obtain ⟨gone, inside, due⟩ := h.due
    refine ⟨i :: gone, ?_, ?_⟩
    · simp only [List.mem_cons, List.mem_append]
      rintro j (rfl | hj)
      · exact .inr (by simp)
      · exact .inl (inside j hj)
    · exact dueList.trans (by rw [due, filter_gone])
  · rw [now, before, List.take_of_length_le]
    simpa using few
  · intro j hj
    by_cases here : j = i
    · subst here
      rw [applyAssign_entry h.sound hi, dueList]
      exact ⟨rfl, rfl, by simp⟩
    · have member : j ∈ acc.2 := by simpa [here] using hj
      obtain ⟨state, number, off⟩ := h.members j member
      rw [entryAt_applyChange_ne _ h.sound here, dueList]
      exact ⟨state, number, fun hm => off (List.mem_of_mem_filter hm)⟩
  · intro _ j hj held fits
    have here : j ≠ i := by
      rintro rfl
      simp [wanted, fits] at wants
    have inside : j ∈ seen := by simpa [here] using hj
    obtain ⟨off, high, low⟩ := h.putOff few j inside held fits
    refine ⟨?_, fun hb => ?_, fun hb => ?_⟩
    · rw [dueList]
      exact fun hm => off (List.mem_of_mem_filter hm)
    · rw [entryAt_applyChange_ne _ h.sound here]
      exact high hb
    · rw [entryAt_applyChange_ne _ h.sound here]
      exact low hb

theorem take_eight_full {l : List Nat} (h : 8 ≤ (l.take 8).length) (k : List Nat) : (l ++ k).take 8 = l.take 8 := by
  rw [List.length_take] at h
  rw [List.take_append_of_le_length (by omega)]

/-- One visit of the selection. -/
theorem Selected.visit (h : Selected n s seen acc) (new : i ∉ seen) (hi : i < 64) (isDue : (entryAt s i).state = .due) :
    Selected n s (seen ++ [i]) (selectEntry n acc i) := by
  have entry : entryAt acc.1 i = entryAt s i := h.others i new
  have read : verifyEntry i acc.1 = acc.1 := if_pos (entryAt_good h.sound i)
  have params : acc.1.params = s.params := params_of_offTable h.frame
  have water : acc.1.water = s.water := water_of_offTable h.frame
  have isDue' : (entryAt acc.1 i).state = .due := entry ▸ isDue
  by_cases full : Config.slotLimit ≤ acc.2.length
  · rw [selectEntry, if_pos full]
    have taken : 8 ≤ ((seen.filter (wanted s)).take 8).length := h.taken ▸ full
    refine h.skip ?_ fun few => ?_
    · rw [List.filter_append]
      exact take_eight_full taken _
    · rw [List.length_take] at taken
      rw [List.filter_append, List.length_append] at few
      omega
  · have room : acc.2.length < 8 := not_le.1 full
    unfold selectEntry
    rw [if_neg full]
    dsimp only
    rw [read]
    by_cases held : (entryAt s i).tideHold = some true
    · have out : ((entryAt acc.1 i).state != .due || (entryAt acc.1 i).tideHold == some true) = true := by
        simp [entry, held]
      rw [if_pos out]
      refine h.skip ?_ fun _ => held
      have unwanted : wanted s i = false := by simp [wanted, held]
      simp [unwanted]
    · have within : ((entryAt acc.1 i).state != .due || (entryAt acc.1 i).tideHold == some true) = false := by
        simp [entry, isDue, held]
      rw [if_neg (by rw [within]; decide)]
      by_cases fits : fitsUnder s.params (entryAt s i).airDraft s.water.effective = true
      · have fits' : fitsUnder acc.1.params (entryAt acc.1 i).airDraft acc.1.water.effective = true := by
          rw [params, water, entry, fits]
        rw [if_pos fits', ask_made h.sound (by rw [isDue']; rfl)]
        exact h.conclude new hi (by simp [wanted, fits])
      · have high : ¬ fitsUnder acc.1.params (entryAt acc.1 i).airDraft acc.1.water.effective = true := by
          rw [params, water, entry]
          exact fits
        rw [if_neg high, takeMember_due h.sound isDue']
        exact h.take new hi (by simp [wanted, held, fits]) room

end Step

theorem Selected.foldl {n : BitVec 16} {s : State} (ordered : ListsOrdered s) {seen l : List Nat} {acc : State × List Nat}
    (h : Selected n s seen acc) (inside : ∀ i ∈ l, i ∈ s.table.dueList) (nodup : (seen ++ l).Nodup) :
    Selected n s (seen ++ l) (l.foldl (selectEntry n) acc) := by
  induction l generalizing seen acc with
  | nil => simpa using h
  | cons i l ih =>
    have new : i ∉ seen := fun hi => (List.disjoint_of_nodup_append nodup) hi (by simp)
    obtain ⟨hi, isDue⟩ := due_of_ordered ordered (inside i (by simp))
    have regroup : seen ++ i :: l = (seen ++ [i]) ++ l := by simp
    rw [regroup] at nodup ⊢
    exact ih (h.visit new hi isDue) (fun j hj => inside j (by simp [hj])) nodup

/-- A class none of whose entries has been visited stands in the due list as it did. -/
theorem Selected.classOf {n : BitVec 16} {s : State} {seen : List Nat} {acc : State × List Nat}
    (h : Selected n s seen acc) {c : Nat} (unseen : ∀ j ∈ seen, (entryAt s j).cls ≠ c) :
    acc.1.table.dueList.filter (fun i => (entryAt acc.1 i).cls == c) = classOf s c := by
  obtain ⟨gone, inside, due⟩ := h.due
  have cls : ∀ j, (entryAt acc.1 j).cls = (entryAt s j).cls := fun j => congrArg (·.2.1) (h.copies j)
  rw [due, List.filter_filter]
  refine List.filter_congr fun j _ => ?_
  rw [cls j]
  by_cases hc : (entryAt s j).cls = c
  · have stays : j ∉ gone := fun hj => unseen j (inside j hj) hc
    simp [hc, stays]
  · simp [hc]

theorem Selected.classes {n : BitVec 16} {s : State} (ordered : ListsOrdered s) {cs ds : List Nat}
    {acc : State × List Nat} (h : Selected n s (ds.flatMap (Machine.classOf s)) acc) (nodup : (ds ++ cs).Nodup) :
    Selected n s ((ds ++ cs).flatMap (Machine.classOf s)) (cs.foldl (selectClass n) acc) := by
  induction cs generalizing ds acc with
  | nil => simpa using h
  | cons c cs ih =>
    have regroup : ds ++ c :: cs = (ds ++ [c]) ++ cs := by simp
    have distinct := nodup_flatMap_classOf (nodup_of_ordered ordered) nodup
    have unseen : ∀ j ∈ ds.flatMap (Machine.classOf s), (entryAt s j).cls ≠ c := by
      intro j hj same
      obtain ⟨d, hd, hjd⟩ := List.mem_flatMap.1 hj
      have : d = c := (mem_classOf.1 hjd).2.symm.trans same
      exact (List.disjoint_of_nodup_append nodup) hd (by simp [this])
    have visit : selectClass n acc c = (Machine.classOf s c).foldl (selectEntry n) acc := by
      rw [selectClass, h.classOf unseen]
    rw [List.foldl_cons, visit, regroup]
    rw [regroup] at nodup distinct
    refine ih ?_ nodup
    rw [List.flatMap_append, List.flatMap_singleton]
    refine h.foldl ordered (fun i hi => (mem_classOf.1 hi).1) ?_
    rw [List.flatMap_append, List.flatMap_append, List.flatMap_singleton] at distinct
    exact (List.nodup_append.1 distinct).1

/-- The selection on a sound table with its lists in order (R60). -/
theorem selectMembers_selected (n : BitVec 16) {s : State} (hs : TableSound s) (ordered : ListsOrdered s) :
    Selected n s (classWalk s) (selectMembers n s) := by
  have walk := (Selected.start (n := n) hs).classes (ds := []) ordered (cs := List.range 8) List.nodup_range
  unfold selectMembers
  rw [verifyEntries_sound _ hs]
  exact walk

/-! ## The slots filled -/

/-- A slot as it is filled from an entry (R61). -/
def FilledFrom (s : State) (i : Nat) (y : Slot) : Prop :=
  y.entry = some i ∧ y.state = .waiting ∧ y.tagIndex = i ∧ y.tagGeneration = (generationAt s i).value ∧
    y.direction = (entryAt s i).direction ∧ y.cls = (entryAt s i).cls ∧ y.airDraft = (entryAt s i).airDraft ∧
    y.lift = requiredLift s (entryAt s i).airDraft

theorem FilledFrom.of_same {s t : State} {i : Nat} {y : Slot} (h : FilledFrom t i y) (table : t.table = s.table)
    (params : t.params = s.params) (water : t.water = s.water) : FilledFrom s i y := by
  unfold FilledFrom at h ⊢
  have entry : entryAt t i = entryAt s i := entryAt_of_table table i
  have generation : generationAt t i = generationAt s i := by rw [generationAt, generationAt, table]
  have lift : requiredLift t (entryAt s i).airDraft = requiredLift s (entryAt s i).airDraft := by
    simp only [requiredLift, need, params, water]
  rwa [entry, generation, lift] at h

theorem fillSlot_opening (i : Nat) {s : State} {o : Opening} (ho : s.seq.opening = some o) :
    ∃ o' y, (fillSlot i s).seq.opening = some o' ∧ o'.slots = o.slots ++ [y] ∧ FilledFrom s i y ∧
      o'.frame = o.frame := by
  unfold fillSlot
  dsimp only
  rw [mapOpening_opening, ho]
  exact ⟨_, _, rfl, rfl, ⟨rfl, rfl, rfl, rfl, rfl, rfl, rfl, rfl⟩, rfl⟩

theorem fillSlots_filled (l : List Nat) {s : State} {o : Opening} (ho : s.seq.opening = some o) :
    ∃ o' new, (l.foldl (fun s i => fillSlot i s) s).seq.opening = some o' ∧ o'.slots = o.slots ++ new ∧
      new.map (·.entry) = l.map some ∧ ∀ y ∈ new, ∀ i, y.entry = some i → FilledFrom s i y := by
  induction l generalizing s o with
  | nil => exact ⟨o, [], ho, by simp, rfl, by simp⟩
  | cons i l ih =>
    obtain ⟨o1, y, h1, slots1, filled, -⟩ := fillSlot_opening i ho
    obtain ⟨o2, new, h2, slots2, entries, all⟩ := ih h1
    refine ⟨o2, y :: new, h2, by rw [slots2, slots1]; simp, by rw [List.map_cons, entries, filled.1, List.map_cons], ?_⟩
    intro z hz j hj
    rcases List.mem_cons.1 hz with rfl | hz
    · have same : i = j := Option.some.inj (filled.1.symm.trans hj)
      exact same ▸ filled
    · exact (all z hz j hj).of_same rfl rfl rfl

theorem foldl_fillSlot_table (l : List Nat) (s : State) : (l.foldl (fun s i => fillSlot i s) s).table = s.table :=
  foldl_keeps State.table (f := fun s i => fillSlot i s) (fun _ _ => rfl) l s

/-- The record of an opening that starts with a selection (R61, R73). -/
theorem begun_slots (operator : Bool) (s : State) (sel : State × List Nat) :
    ∃ o, (begun operator s sel).seq.opening = some o ∧ o.slots.map (·.entry) = sel.2.map some ∧
      ∀ y ∈ o.slots, ∀ i, y.entry = some i → FilledFrom sel.1 i y := by
  obtain ⟨o, new, ho, slots_, entries, all⟩ := fillSlots_filled sel.2 (s := mapSeq (fun q => { q with
    counter := s.seq.counter + 1,
    opening := some (newOpening (s.seq.counter + 1) (causeOf operator s sel) sel.2.isEmpty sel.1.clock.minute) }) sel.1)
    rfl
  have whole : o.slots = new := slots_
  refine ⟨o, ho, whole ▸ entries, fun y hy i hi => ?_⟩
  exact (all y (whole ▸ hy) i hi).of_same rfl rfl rfl

theorem begun_table (operator : Bool) (s : State) (sel : State × List Nat) :
    (begun operator s sel).table = sel.1.table :=
  (foldl_fillSlot_table sel.2 _).trans rfl

theorem table_of_offRoad {s t : State} (h : offRoad t = offRoad s) : t.table = s.table := (congrArg (·.table) h :)
theorem seq_of_offRoad {s t : State} (h : offRoad t = offRoad s) : t.seq = s.seq := (congrArg (·.seq) h :)

/-- A start that takes place leaves the record and the table as its selection gives them. -/
theorem startWith_begins {operator : Bool} {s : State} {sel : State × List Nat}
    (starts : sel.2 ≠ [] ∨ operator = true) : (startWith operator s sel).table = sel.1.table ∧
      (startWith operator s sel).seq.opening = (begun operator s sel).seq.opening := by
  have go : (sel.2.isEmpty && !operator) = false := by
    rcases starts with h | h
    · rw [List.isEmpty_eq_false_iff.2 h]
      rfl
    · rw [h, Bool.not_true, Bool.and_false]
  unfold startWith
  rw [go, if_neg Bool.false_ne_true]
  split
  · have same := offRoad_startMeasurement false (setSeq .deckClearing (begun operator s sel))
    refine ⟨(table_of_offRoad same).trans ((setSeq_table _ _).trans (begun_table operator s sel)), ?_⟩
    have seq : (enterDeckClearing false (begun operator s sel)).seq = (setSeq .deckClearing (begun operator s sel)).seq :=
      startMeasurement_seq _ _
    rw [seq, setSeq_seq]
  · have same := offRoad_giveWarnings (setSeq .warning (begun operator s sel))
    refine ⟨(table_of_offRoad same).trans ((setSeq_table _ _).trans (begun_table operator s sel)), ?_⟩
    rw [seq_of_offRoad same, setSeq_seq]

/-- The record of a start on a sound table with its lists in order. -/
theorem startWith_selected {operator : Bool} {s : State} {sel : State × List Nat}
    (starts : sel.2 ≠ [] ∨ operator = true) (h : Selected (s.seq.counter + 1) s (classWalk s) sel) :
    ∃ o, (startWith operator s sel).seq.opening = some o ∧ (begun operator s sel).seq.opening = some o ∧
      o.slots.map (·.entry) = (((classWalk s).filter (wanted s)).take 8).map some ∧
      ∀ y ∈ o.slots, ∀ i, y.entry = some i → FilledFrom s i y ∧
        (entryAt (startWith operator s sel) i).state = .assigned ∧
        (entryAt (startWith operator s sel) i).openingNumber = some (s.seq.counter + 1) ∧
        i ∉ (startWith operator s sel).table.dueList := by
  obtain ⟨table, opening⟩ := startWith_begins starts
  obtain ⟨o, ho, entries, all⟩ := begun_slots operator s sel
  refine ⟨o, opening.trans ho, ho, h.taken ▸ entries, fun y hy i hi => ?_⟩
  obtain ⟨-, waits, index, generation, direction, cls, draft, lift⟩ := all y hy i hi
  have params := params_of_offTable h.frame
  have water := water_of_offTable h.frame
  have copies := h.copies i
  have cdir : (entryAt sel.1 i).direction = (entryAt s i).direction := congrArg (·.1) copies
  have ccls : (entryAt sel.1 i).cls = (entryAt s i).cls := congrArg (·.2.1) copies
  have cdraft : (entryAt sel.1 i).airDraft = (entryAt s i).airDraft := congrArg (·.2.2) copies
  have gen : generationAt sel.1 i = generationAt s i := by rw [generationAt, generationAt, h.generations]
  have clift : requiredLift sel.1 (entryAt s i).airDraft = requiredLift s (entryAt s i).airDraft := by
    simp only [requiredLift, need, params, water]
  have member : i ∈ sel.2 := by
    have : some i ∈ sel.2.map some := entries ▸ List.mem_map.2 ⟨y, hy, hi⟩
    simpa using this
  obtain ⟨state, number, off⟩ := h.members i member
  rw [entryAt_of_table table, table]
  rw [cdraft] at lift
  exact ⟨⟨hi, waits, index, gen ▸ generation, direction.trans cdir, cls.trans ccls, draft.trans cdraft,
    lift.trans clift⟩, state, number, off⟩

end Sys2Proof.Machine
end


section
/-!
Start evaluations, OPEN_NOW and joins (R56 to R64).
-/

namespace Sys2Proof.Machine

/-! ## Starts -/

/-- The entries that the selection takes, as the statement lists them. -/
theorem byClass_wanted (s : State) :
    byClass (fun e => e.tideHold != some true && !fitsUnder s.params e.airDraft s.water.effective) s =
      (classWalk s).filter (wanted s) :=
  byClass_eq _ s

/-- The planner's evaluation reads nothing that it writes (R57). -/
def evaluated (s : State) : State := mapPlanner (fun p => { p with evaluationOwed := false }) s

theorem evaluateStart_sound {s : State} (hs : TableSound s) (starts : startConditions s = true) :
    evaluateStart s = startWith false (evaluated s) (selectMembers (s.seq.counter + 1) (evaluated s)) := by
  have same : startConditions (evaluated s) = true := starts
  unfold evaluateStart
  rw [verifyEntries_sound _ hs]
  dsimp only
  rw [← evaluated, if_pos same, startOpening_eq]
  rfl

/-- A start evaluation whose conditions hold (R56, R59, R60). -/
theorem evaluateStart_spec {s : State} {l : List Nat} (hs : TableSound s) (ordered : ListsOrdered s)
    (starts : startConditions s = true) (hl : l = (classWalk s).filter (wanted s)) :
    (l = [] → (evaluateStart s).seq = s.seq) ∧
    (l ≠ [] → ∃ o, (evaluateStart s).seq.opening = some o ∧ o.slots.map (·.entry) = (l.take 8).map some ∧
      o.number = s.seq.counter + 1 ∧ o.operatorLift = false ∧ o.closingCause = none ∧
      o.cause = (if startOnClass s then .priorityClass else if startOnQueue s then .queueCritical
        else if (l.take 8).any (fun i => decide (i < s.table.tb)) then .timetable else .demand)) := by
  subst hl
  have selected := selectMembers_selected (s.seq.counter + 1) (s := evaluated s) hs ordered
  rw [evaluateStart_sound hs starts]
  generalize selectMembers (s.seq.counter + 1) (evaluated s) = sel at selected
  have taken : sel.2 = ((classWalk s).filter (wanted s)).take 8 := selected.taken
  refine ⟨fun none_ => ?_, fun some_ => ?_⟩
  · rw [none_] at taken
    have stays : startWith false (evaluated s) sel = sel.1 := by
      unfold startWith
      rw [taken]
      rfl
    rw [stays, seq_of_offTable selected.frame]
    rfl
  · have nonempty : sel.2 ≠ [] := by
      rw [taken]
      intro h
      exact some_ (by simpa using h)
    obtain ⟨o, opening, begins, entries, -⟩ := startWith_selected (operator := false) (s := evaluated s)
      (.inl nonempty) selected
    have slots_ : offSlots sel.1 = offSlots (evaluated s) := by
      have kept := congrArg offSlots selected.frame
      exact kept
    obtain ⟨o', begins', number, cause, lift, closing, -⟩ := begun_opening (operator := false) slots_
    obtain rfl : o = o' := Option.some.inj (begins.symm.trans begins')
    refine ⟨o, opening, entries, number, ?_, closing, cause.trans ?_⟩
    · rw [lift, List.isEmpty_eq_false_iff]
      intro h
      rw [h] at entries
      exact nonempty (taken.trans (List.map_eq_nil_iff.1 entries.symm))
    · have timetable : sel.2.any (fun i => kindOf sel.1.table i == .timetable) =
          (((classWalk s).filter (wanted s)).take 8).any (fun i => decide (i < s.table.tb)) := by
        rw [taken]
        refine List.any_congr rfl fun i => ?_
        rw [Bool.eq_iff_iff, beq_iff_eq, decide_eq_true_iff, kindOf_eq_timetable_iff, selected.bounds]
        exact Iff.rfl
      unfold causeOf startCause
      rw [timetable]
      rfl

/-- OPEN_NOW on a sound table with its lists in order (R58, R60). -/
theorem openNow_selects {p : Port} {x : List Byte} {s : State} {l : List Nat} (hd : decoded (.openNow p x) s = true)
    (hs : TableSound s) (ordered : ListsOrdered s) (priority : s.planner.roadPriority = false)
    (road : s.seq.state = .roadOpen ∨ s.seq.state = .roadClosed) (hl : l = (classWalk s).filter (wanted s)) :
    ∃ u o, exec (.openNow p x) s = .next (answered p 19 .ok (put2 (s.seq.counter + 1).toNat) (settle u)) ∧
      u.seq.opening = some o ∧ o.slots.map (·.entry) = (l.take 8).map some ∧
      (∀ y ∈ o.slots, ∀ i, y.entry = some i → FilledFrom s i y ∧ (entryAt u i).state = .assigned ∧
        (entryAt u i).openingNumber = some (s.seq.counter + 1) ∧ i ∉ u.table.dueList) ∧
      (l.length < 8 → ∀ i ∈ s.table.dueList, (entryAt s i).cls ≤ 7 → (entryAt s i).tideHold ≠ some true →
        fitsUnder s.params (entryAt s i).airDraft s.water.effective = true → PutOff s u i) := by
  subst hl
  obtain ⟨sel, hsel, own⟩ := ownOpenNow_starts (s := taken p 19 x s) priority road
  have selected : Selected (s.seq.counter + 1) (taken p 19 x s) (classWalk s) sel :=
    hsel ▸ selectMembers_selected (s.seq.counter + 1) (s := taken p 19 x s) hs ordered
  obtain ⟨hseq, -⟩ := startWith_operator (s := taken p 19 x s) sel road
  have counter : (startWith true (taken p 19 x s) sel).seq.counter = s.seq.counter + 1 :=
    (congrArg Sequence.counter hseq).trans begun_counter
  rw [counter] at own
  obtain ⟨o, opening, -, entries, all⟩ := startWith_selected (operator := true) (s := taken p 19 x s) (.inr rfl) selected
  obtain ⟨table, -⟩ := startWith_begins (operator := true) (s := taken p 19 x s) (sel := sel) (.inr rfl)
  refine ⟨startWith true (taken p 19 x s) sel, o, exec_of_owner rfl rfl rfl hd own, opening, entries,
    fun y hy i hi => ?_, fun few i hi cls held fits => ?_⟩
  · obtain ⟨filled, rest⟩ := all y hy i hi
    exact ⟨filled.of_same rfl rfl rfl, rest⟩
  · obtain ⟨off, high, low⟩ := selected.putOff few i (mem_classWalk.2 ⟨hi, by omega⟩) held fits
    rw [PutOff, entryAt_of_table table, table]
    exact ⟨off, high, low⟩

/-! ## Joins -/

/-- A candidate that the join takes (R46, R63). -/
def joins (s : State) (o : Opening) (i : Nat) : Bool := joinFits s o (entryAt s i).airDraft

/-- The joins of the opening `o` that have been considered, from `s`, when `seen` have been. -/
structure Joined (s : State) (o : Opening) (seen : List Nat) (t : State) : Prop where
  sound : TableSound t
  outside : offSlots t = offSlots s
  others : ∀ j, j ∉ seen → entryAt t j = entryAt s j
  opening : ∃ o', t.seq.opening = some o' ∧ o'.frame = o.frame ∧ o'.slots.map (·.entry) =
    o.slots.map (·.entry) ++ ((seen.filter (joins s o)).take (8 - o.slots.length)).map some
  members : ∀ i ∈ (seen.filter (joins s o)).take (8 - o.slots.length), (entryAt t i).state = .assigned

theorem joinFits_of_same {s t : State} {o o' : Opening} (outside : offSlots t = offSlots s) (frame : o'.frame = o.frame)
    (a : Int) : joinFits t o' a = joinFits s o a := by
  have target : o'.target = o.target := (congrArg Opening.target frame :)
  have params : t.params = s.params := params_of_offSlots outside
  have water : t.water = s.water := (congrArg (·.water) outside :)
  unfold joinFits tideHeld requiredLift
  rw [target, params, water]

theorem checkOneSlot_opening (n : Nat) {s : State} {o : Opening} (ho : s.seq.opening = some o) :
    ∃ o', (checkOneSlot n s).seq.opening = some o' ∧ o'.frame = o.frame ∧
      o'.slots.map (·.entry) = o.slots.map (·.entry) := by
  obtain ⟨o', ho', frame⟩ := opening_of_offSlots (offSlots_checkOneSlot n s) ho
  obtain ⟨g, marked, marks⟩ := checkOneSlot_slots n s
  rw [slots_of_opening ho', slots_of_opening ho] at marked
  refine ⟨o', ho', frame, ?_⟩
  rw [marked, List.map_map]
  refine List.map_congr_left fun y _ => ?_
  rw [Function.comp_apply, marks y]

/-- The join of one candidate (R61, R63). -/
theorem considerJoin_takes {s : State} {o : Opening} {i : Nat} (hs : TableSound s) (ho : s.seq.opening = some o)
    (closing : o.closingCause = none) (room : o.slots.length < 8) (isDue : (entryAt s i).state = .due) (hi : i < 64)
    (fits : joinFits s o (entryAt s i).airDraft = true) :
    TableSound (considerJoin s i) ∧ (∀ j, j ≠ i → entryAt (considerJoin s i) j = entryAt s j) ∧
      (entryAt (considerJoin s i) i).state = .assigned ∧
      ∃ o', (considerJoin s i).seq.opening = some o' ∧ o'.frame = o.frame ∧
        o'.slots.map (·.entry) = o.slots.map (·.entry) ++ [some i] := by
  have read : verifyEntry i s = s := if_pos (entryAt_good hs i)
  have goes : ¬ ((o.closingCause.isSome || decide (Config.slotLimit ≤ o.slots.length)) = true) := by
    have limit : ¬ Config.slotLimit ≤ o.slots.length := not_le.2 room
    simp [closing, limit]
  have test : ((entryAt s i).state == .due && joinFits s o (entryAt s i).airDraft) = true := by simp [isDue, fits]
  have eq : considerJoin s i = if s.seq.state == .raised then
      checkOneSlot o.nextSerial (fillSlot i (applyChange (.assign o.number) i s))
      else fillSlot i (applyChange (.assign o.number) i s) := by
    unfold considerJoin
    rw [ho]
    dsimp only
    rw [if_neg goes, read, if_pos test, takeMember_due hs isDue]
  have opening : (applyChange (.assign o.number) i s).seq.opening = some o := by
    rw [seq_of_offTable (offTable_applyChange _ _ hs), ho]
  obtain ⟨o1, y, h1, slots1, filled, frame1⟩ := fillSlot_opening i opening
  have entries1 : o1.slots.map (·.entry) = o.slots.map (·.entry) ++ [some i] := by
    rw [slots1, List.map_append, List.map_singleton, filled.1]
  obtain ⟨o2, h2, frame2, entries2⟩ := checkOneSlot_opening o.nextSerial h1
  have table : (considerJoin s i).table = (applyChange (.assign o.number) i s).table := by
    rw [eq]
    split
    · exact checkOneSlot_table _ _
    · rfl
  refine ⟨sound_of_table table (applyChange_sound _ _ hs), fun j hj => ?_, ?_, ?_⟩
  · rw [entryAt_of_table table, entryAt_applyChange_ne _ hs hj]
  · rw [entryAt_of_table table, applyAssign_entry hs hi]
    rfl
  · rw [eq]
    split
    · exact ⟨o2, h2, frame2.trans frame1, entries2.trans entries1⟩
    · exact ⟨o1, h1, frame1, entries1⟩

theorem considerJoin_passes {s : State} {o : Opening} {i : Nat} (hs : TableSound s) (ho : s.seq.opening = some o)
    (passes : o.closingCause.isSome = true ∨ 8 ≤ o.slots.length ∨ joinFits s o (entryAt s i).airDraft = false) :
    considerJoin s i = s := by
  have read : verifyEntry i s = s := if_pos (entryAt_good hs i)
  unfold considerJoin
  rw [ho]
  dsimp only
  split
  · rfl
  · next stays =>
    rw [read]
    simp only [Bool.or_eq_true, decide_eq_true_iff, not_or] at stays
    obtain ⟨open_, room⟩ := stays
    rcases passes with h | h | h
    · exact absurd h open_
    · exact absurd h room
    · rw [h, Bool.and_false, if_neg Bool.false_ne_true]

theorem Joined.visit {s t : State} {o : Opening} {seen : List Nat} {i : Nat} (h : Joined s o seen t) (new : i ∉ seen)
    (closing : o.closingCause = none) (isDue : (entryAt s i).state = .due) (hi : i < 64) :
    Joined s o (seen ++ [i]) (considerJoin t i) := by
  obtain ⟨o', ho', frame, entries⟩ := h.opening
  have closing' : o'.closingCause = none := (congrArg Opening.closingCause frame :).trans closing
  have entry : entryAt t i = entryAt s i := h.others i new
  have fits : joinFits t o' (entryAt t i).airDraft = joins s o i := by
    rw [joinFits_of_same h.outside frame, entry]
    rfl
  have count : o'.slots.length =
      o.slots.length + ((seen.filter (joins s o)).take (8 - o.slots.length)).length := by
    simpa using congrArg List.length entries
  have outside := (offSlots_considerJoin t i).trans h.outside
  by_cases passes : 8 ≤ o'.slots.length ∨ joins s o i = false
  · have same : ((seen ++ [i]).filter (joins s o)).take (8 - o.slots.length) =
        (seen.filter (joins s o)).take (8 - o.slots.length) := by
      rcases passes with full | out
      · rw [List.length_take] at count
        rw [List.filter_append, List.take_append_of_le_length (by omega)]
      · simp [out]
    rw [considerJoin_passes h.sound ho' (.inr (passes.imp id fun out => fits.trans out))]
    refine ⟨h.sound, h.outside, fun j hj => h.others j fun hs => hj (by simp [hs]), ⟨o', ho', frame, ?_⟩, ?_⟩
    · rw [same, entries]
    · rw [same]
      exact h.members
  · obtain ⟨room, takes⟩ := not_or.1 passes
    have takes : joins s o i = true := by simpa using takes
    have now : (seen ++ [i]).filter (joins s o) = seen.filter (joins s o) ++ [i] := by simp [takes]
    have few : (seen.filter (joins s o)).length < 8 - o.slots.length := by
      rw [List.length_take] at count
      omega
    have before : (seen.filter (joins s o)).take (8 - o.slots.length) = seen.filter (joins s o) :=
      List.take_of_length_le few.le
    have after : ((seen ++ [i]).filter (joins s o)).take (8 - o.slots.length) = seen.filter (joins s o) ++ [i] := by
      rw [now, List.take_of_length_le]
      simpa using few
    obtain ⟨sound, others, state, o2, h2, frame2, entries2⟩ := considerJoin_takes h.sound ho' closing' (not_le.1 room)
      (entry ▸ isDue) hi (fits.trans takes)
    refine ⟨sound, outside, fun j hj => ?_, ⟨o2, h2, frame2.trans frame, ?_⟩, ?_⟩
    · rw [others j (by rintro rfl; exact hj (by simp))]
      exact h.others j fun hs => hj (by simp [hs])
    · rw [after, entries2, entries, before, List.map_append, List.map_singleton, List.append_assoc]
    · rw [after]
      intro j hj
      by_cases here : j = i
      · exact here ▸ state
      · rw [others j here]
        exact h.members j (by rw [before]; simpa [here] using hj)

theorem Joined.foldl {s : State} {o : Opening} (ordered : ListsOrdered s) (closing : o.closingCause = none)
    {seen l : List Nat} {t : State} (h : Joined s o seen t) (inside : ∀ i ∈ l, i ∈ s.table.dueList)
    (nodup : (seen ++ l).Nodup) : Joined s o (seen ++ l) (l.foldl considerJoin t) := by
  induction l generalizing seen t with
  | nil => simpa using h
  | cons i l ih =>
    have new : i ∉ seen := fun hi => (List.disjoint_of_nodup_append nodup) hi (by simp)
    obtain ⟨hi, isDue⟩ := due_of_ordered ordered (inside i (by simp))
    have regroup : seen ++ i :: l = (seen ++ [i]) ++ l := by simp
    rw [regroup] at nodup ⊢
    exact ih (h.visit new closing isDue hi) (fun j hj => inside j (by simp [hj])) nodup

/-- The candidates of a join on a sound table (R26, R64). -/
theorem considerJoins_sound (p : Nat → Bool) {s : State} (hs : TableSound s) : considerJoins p s =
    ((classWalk s).filter (fun i => p i && (entryAt s i).tideHold != some true)).foldl considerJoin s := by
  unfold considerJoins
  rw [verifyEntries_sound _ hs]
  simp only [inClassOrder, classWalk, classOf, List.filter_flatMap, List.filter_filter]

theorem considerJoins_spec {s : State} {o : Opening} (p : Nat → Bool) (hs : TableSound s) (ordered : ListsOrdered s)
    (ho : s.seq.opening = some o) (closing : o.closingCause = none) :
    Joined s o ((classWalk s).filter (fun i => p i && (entryAt s i).tideHold != some true)) (considerJoins p s) := by
  rw [considerJoins_sound p hs]
  have start : Joined s o [] s := ⟨hs, rfl, fun _ _ => rfl, ⟨o, ho, rfl, by simp⟩, by simp⟩
  have walk : (classWalk s).Nodup := nodup_flatMap_classOf (nodup_of_ordered ordered) List.nodup_range
  exact start.foldl ordered closing (fun i hi => (mem_classWalk.1 (List.mem_of_mem_filter hi)).1) (walk.filter _)

theorem considerJoins_closed {s : State} {o : Opening} (p : Nat → Bool) (hs : TableSound s)
    (ho : s.seq.opening = some o) (closing : o.closingCause.isSome = true) : considerJoins p s = s := by
  rw [considerJoins_sound p hs]
  exact List.foldlRecOn _ considerJoin (motive := fun t => t = s) rfl fun t ht i _ => by
    rw [ht]
    exact considerJoin_passes hs ho (.inl closing)

/-- Settles O58: the selection of a start, and the joins. -/
theorem selectionAndJoins : Obligations.SelectionAndJoins := by
  unfold Obligations.SelectionAndJoins
  refine ⟨?openNow, ?evaluation, ?joins, ?closed, fun l s => ⟨?_, fun some_ opening => ?_, fun some_ none_ => ?_⟩⟩
  case openNow =>
    intro p x s l hd hs ordered priority road hl
    obtain ⟨u, o, run, opening, entries, slots_, putOff⟩ :=
      openNow_selects hd hs ordered priority road (hl.trans (byClass_wanted s))
    refine ⟨u, o, run, opening, entries, fun y hy i hi => ?_, putOff⟩
    obtain ⟨⟨-, waits, index, generation, direction, cls, draft, lift⟩, rest⟩ := slots_ y hy i hi
    exact ⟨waits, index, generation, direction, cls, draft, lift, rest⟩
  case evaluation =>
    intro s l hs ordered starts hl
    exact evaluateStart_spec hs ordered starts (hl.trans (byClass_wanted s))
  case joins =>
    intro s o p l hs ordered ho closing hl
    have joined := considerJoins_spec p hs ordered ho closing
    have list : ((classWalk s).filter (fun i => p i && (entryAt s i).tideHold != some true)).filter (joins s o) = l := by
      rw [hl, byClass_eq, List.filter_filter, List.filter_filter]
      refine List.filter_congr fun i _ => ?_
      change (joins s o i && (p i && (entryAt s i).tideHold != some true)) =
        (p i && ((entryAt s i).tideHold != some true && joins s o i))
      rw [Bool.and_comm, Bool.and_assoc]
    obtain ⟨o', opening, frame, entries⟩ := joined.opening
    rw [list] at entries
    refine ⟨o', opening, entries, (congrArg Opening.target frame :), (congrArg Opening.closingCause frame :).trans closing,
      ?_⟩
    rw [← list]
    exact joined.members
  case closed =>
    intro s o p hs ho closing
    rw [considerJoins_closed p hs ho closing]
    exact ⟨rfl, rfl⟩
  · rintro rfl
    rfl
  · have nonempty : l.isEmpty = false := List.isEmpty_eq_false_iff.2 some_
    rw [dueEvent, nonempty, if_neg Bool.false_ne_true, if_pos opening]
  · have nonempty : l.isEmpty = false := List.isEmpty_eq_false_iff.2 some_
    rw [dueEvent, nonempty, if_neg Bool.false_ne_true, none_]
    rfl

end Sys2Proof.Machine
end


section
/-!
O49: ZONE_RESET takes the first slot of a number: where a DONE slot of the zone list names the entry that a slot in the
zone names too, the entry is concluded for the DONE slot, and the slot in the zone stays there.
-/

namespace Sys2Proof.Machine

/-! ## A halted opening with a slot out of the zone -/

/-- The sequence is halted and a slot of number 1 is not in the zone. -/
def OutOfZone (s : State) : Prop := s.seq.state = .halted ∧ ∃ z ∈ slots s, z.serial = 1 ∧ z.state ≠ .inZone

theorem OutOfZone.of_seq {s t : State} (h : OutOfZone s) (same : t.seq = s.seq) : OutOfZone t := by
  obtain ⟨halted, z, hz, one, out⟩ := h
  exact ⟨by rw [same, halted], z, by rwa [slots_of_seq same], one, out⟩

theorem OutOfZone.of_opening {s t : State} (h : OutOfZone s) (state : t.seq.state = s.seq.state)
    (opening : t.seq.opening = s.seq.opening) : OutOfZone t := by
  obtain ⟨halted, z, hz, one, out⟩ := h
  exact ⟨by rw [state, halted], z, by simpa only [slots, opening] using hz, one, out⟩

/-- A change of slots that keeps their numbers and puts none into the zone. -/
theorem OutOfZone.of_map {s t : State} {g : Slot → Slot} (h : OutOfZone s) (state : t.seq.state = s.seq.state)
    (mapped : slots t = (slots s).map g) (serial : ∀ y, (g y).serial = y.serial)
    (outside : ∀ y, y.state ≠ .inZone → (g y).state ≠ .inZone) : OutOfZone t := by
  obtain ⟨halted, z, hz, one, out⟩ := h
  exact ⟨by rw [state, halted], g z, by rw [mapped]; exact List.mem_map_of_mem hz, (serial z).trans one, outside z out⟩

theorem OutOfZone.mapSlot {s : State} (h : OutOfZone s) (n : Nat) {f : Slot → Slot}
    (serial : ∀ y, (f y).serial = y.serial) (outside : ∀ y, y.state ≠ .inZone → (f y).state ≠ .inZone) :
    OutOfZone (mapSlot n f s) := by
  refine h.of_map rfl (slots_mapSlot n f s) (fun y => ?_) (fun y hy => ?_)
  · split
    · exact serial y
    · rfl
  · split
    · exact outside y hy
    · exact hy

theorem slots_loseSlot (i : Nat) (s : State) : ∃ g : Slot → Slot, slots (loseSlot i s) = (slots s).map g ∧
    ∀ y, (g y).serial = y.serial ∧ (g y).state = y.state := by
  unfold loseSlot
  rw [slots_mapOpening]
  cases ho : s.seq.opening with
  | none => exact ⟨id, by simp [slots, ho], fun _ => ⟨rfl, rfl⟩⟩
  | some o =>
    dsimp only
    split
    · refine ⟨fun x => if x.entry == some i && x.state != .done then { x with entry := none } else x, ?_, fun y => ?_⟩
      · simp [slots, ho]
      · dsimp only
        split <;> exact ⟨rfl, rfl⟩
    · exact ⟨id, by simp [slots, ho], fun _ => ⟨rfl, rfl⟩⟩

theorem OutOfZone.loseSlot {s : State} (h : OutOfZone s) (i : Nat) : OutOfZone (loseSlot i s) := by
  obtain ⟨g, mapped, kept⟩ := slots_loseSlot i s
  exact h.of_map rfl mapped (fun y => (kept y).1) (fun y hy => by rwa [(kept y).2])

/-! ## Serving stops -/

theorem OutOfZone.verifyEntry {s : State} (h : OutOfZone s) (i : Nat) : OutOfZone (verifyEntry i s) := by
  have damaged : (raiseHarbour .recordDamaged (raiseControl .recordDamaged (recordDamage i (joinArrivals i (leaveDue i
      (writeEntry i { Entry.vacant with state := .damaged } s)))))).seq = s.seq := by
    simp [recordDamage, joinArrivals, leaveDue, dropDue, writeEntry]
  unfold Machine.verifyEntry
  dsimp only
  split
  · exact h
  split
  · exact h.of_seq rfl
  unfold damageEntry
  dsimp only
  split
  · exact (h.of_seq damaged).loseSlot i
  · exact h.of_seq damaged

theorem OutOfZone.askRevert {s : State} (h : OutOfZone s) (i : Nat) : OutOfZone (ask .revert i s).1 := by
  have read := h.verifyEntry i
  unfold ask
  dsimp only
  split
  · exact read.of_seq rfl
  split
  · exact read
  · exact read

theorem OutOfZone.askSlotRevert {s : State} (h : OutOfZone s) (n : Nat) : OutOfZone (askSlot .revert n s).1 := by
  unfold askSlot
  split
  · exact h
  split
  · exact h
  next i _ =>
    have asked := h.askRevert i
    split
    all_goals
      rename_i e
      rw [e] at asked
    · exact asked
    · exact asked.loseSlot i
    · exact asked

theorem OutOfZone.revertSlot {s : State} (h : OutOfZone s) (n : Nat) : OutOfZone (revertSlot n s) := by
  have asked := h.askSlotRevert n
  unfold Machine.revertSlot withAsked
  split
  all_goals
    rename_i e
    rw [e] at asked
  · exact asked.mapSlot n (fun _ => rfl) (fun _ _ => nofun)
  · exact asked

theorem OutOfZone.stopSlot {s : State} (h : OutOfZone s) (x : Slot) : OutOfZone (stopSlot s x) := by
  unfold Machine.stopSlot
  split
  · split
    · exact h.mapSlot x.serial (fun _ => rfl) (fun _ hy => hy)
    · exact h.revertSlot x.serial
  · exact h

theorem OutOfZone.stopServing {s : State} (h : OutOfZone s) : OutOfZone (stopServing s) := by
  have dropped : OutOfZone (mapChannel (fun c => { c with servingRuns := false }) (dropServing s)) :=
    h.of_seq (dropServing_seq s)
  exact List.foldlRecOn _ Machine.stopSlot (motive := OutOfZone) dropped fun t ht x _ => ht.stopSlot x

/-! ## The consequences in HALTED -/

theorem OutOfZone.reportFault {s : State} (h : OutOfZone s) (c : FaultCause) : OutOfZone (reportFault c s) := by
  rw [reportFault_held (.inr h.1)]
  exact h.of_opening rfl rfl

theorem OutOfZone.foundFaults {s : State} (h : OutOfZone s) (l : List FaultCause) : OutOfZone (foundFaults l s) := by
  unfold Machine.foundFaults
  split
  · exact h
  · exact List.foldlRecOn l _ (motive := OutOfZone) (h.of_seq rfl) fun t ht c _ => ht.reportFault c

theorem dropRaising_seq (s : State) (a : Arm) : (dropRaising s a).seq = s.seq := by
  unfold dropRaising
  split <;> rfl

theorem OutOfZone.followSecure {s : State} (h : OutOfZone s) : OutOfZone (followSecure s) := by
  have dropped : OutOfZone (allArms.foldl dropRaising
      { s with guard := { s.guard with seatedLocked := spanSecure s } }) :=
    h.of_seq (foldl_keeps State.seq dropRaising_seq allArms _)
  unfold Machine.followSecure
  dsimp only
  split
  · exact h.of_seq rfl
  split
  · exact dropped
  · exact dropped.foundFaults _

theorem OutOfZone.followArms {s : State} (h : OutOfZone s) : OutOfZone (followArms s) := by
  have judged : OutOfZone (mapDrive (fun d => { d with armVerdict := allArmsDown s }) s) := h.of_seq rfl
  unfold Machine.followArms
  dsimp only
  split
  · exact judged.foundFaults _
  · exact judged

theorem followChannel_seq (s : State) : (followChannel s).seq = s.seq := by
  unfold followChannel
  dsimp only
  (repeat' split) <;> rfl

theorem followBolts_seq (s : State) : (followBolts s).seq = s.seq := by
  unfold followBolts
  split <;> rfl

theorem beginPhase_seq (s : State) : (beginPhase s).seq = s.seq := by
  unfold beginPhase
  dsimp only
  (repeat' split) <;> rfl

theorem followRed_seq (a : Approach) (s : State) : (followRed a s).seq = s.seq := by
  have guarded : offRoad (followRed a s) = offRoad s := by
    unfold followRed
    split <;> simp
  exact (congrArg (·.seq) guarded :)

theorem OutOfZone.followServing {s : State} (h : OutOfZone s) : OutOfZone (followServing s) := by
  unfold Machine.followServing
  split
  · exact h.of_seq rfl
  · exact h.stopServing

theorem OutOfZone.followOwed {s : State} (h : OutOfZone s) : OutOfZone (followOwed s) := by
  have isOpen : s.seq.opening.isSome = true := by
    obtain ⟨-, z, hz, -⟩ := h
    cases ho : s.seq.opening with
    | none => simp [slots, ho] at hz
    | some o => rfl
  unfold Machine.followOwed
  rw [if_pos isOpen]
  exact h.of_seq rfl

theorem servingConditions_halted {s : State} (h : s.seq.state = .halted) : servingConditions s = false := by
  simp [servingConditions, raisedAndOpen, h]

theorem serving_stopped {s : State} (h : s.channel.servingRuns = false) :
    servingOwes s = false ∧ mayTakeUp s = false := by
  refine ⟨?_, by simp [mayTakeUp, h]⟩
  unfold servingOwes
  split <;> simp [h]

theorem phaseComplete_halted {s : State} (h : s.seq.state = .halted) : phaseComplete s = false := by
  simp [phaseComplete, h]

theorem reliftDue_halted {s : State} (h : s.seq.state = .halted) : reliftDue s = false := by
  simp [reliftDue, h]

/-! ## The loop of consequences -/

/-- What the first rule of a list that applies leaves has a slot out of the zone. -/
def LeavesOut (l : List (State → Option State)) (s : State) : Prop := ∀ t, firstRule l s = some t → OutOfZone t

theorem LeavesOut.nil (s : State) : LeavesOut [] s := fun t e => by cases e

theorem LeavesOut.cons {c : State → Bool} {f : State → State} {rest : List (State → Option State)} {s : State}
    (applies : c s = true → OutOfZone (f s)) (next : c s = false → LeavesOut rest s) :
    LeavesOut (whenever c f :: rest) s := by
  intro t e
  cases h : c s with
  | true =>
    simp only [firstRule, whenever, h, if_true, Option.some.injEq] at e
    exact e ▸ applies h
  | false =>
    simp only [firstRule, whenever, h, Bool.false_eq_true, if_false] at e
    exact next h t e

/-- No consequence in HALTED puts a slot into the zone: serving stops before PROCEED could be given. -/
theorem OutOfZone.follow {s t : State} (h : OutOfZone s) (e : follow s = some t) : OutOfZone t := by
  have halted := h.1
  have impossible : ∀ {b : Bool} {P : Prop}, b = false → b = true → P := fun off on => absurd (off.symm.trans on) nofun
  refine (?_ : LeavesOut followRules s) t e
  refine .cons (fun _ => h.followSecure) fun _ => .cons (fun _ => h.followArms) fun _ =>
    .cons (fun _ => h.of_seq (followChannel_seq s)) fun _ => .cons (fun _ => h.of_seq (followBolts_seq s)) fun _ =>
    .cons (fun _ => h.of_seq (beginPhase_seq s)) fun _ => .cons (fun _ => h.of_seq rfl) fun _ =>
    .cons (fun _ => h.of_seq (followRed_seq .north s)) fun _ =>
    .cons (fun _ => h.of_seq (followRed_seq .south s)) fun _ =>
    .cons (fun _ => h.of_seq rfl) fun _ => .cons (fun _ => h.followServing) fun agree =>
    .cons (fun _ => h.of_seq (dropServing_seq s)) fun _ => ?_
  have stopped : s.channel.servingRuns = false := by simpa [servingConditions_halted halted] using agree
  obtain ⟨owes, takes⟩ := serving_stopped stopped
  exact .cons (impossible owes) fun _ => .cons (impossible takes) fun _ =>
    .cons (impossible (reliftDue_halted halted)) fun _ => .cons (impossible (phaseComplete_halted halted)) fun _ =>
    .cons (fun _ => h.followOwed) fun _ => .nil s

theorem OutOfZone.iterate {s : State} (h : OutOfZone s) (n : Nat) : OutOfZone (Machine.iterate Machine.follow n s) := by
  induction n generalizing s with
  | zero => exact h
  | succ n ih =>
    unfold Machine.iterate
    split
    · exact h
    · next t ht => exact ih (h.follow ht)

theorem keepInterlocks_seq (s : State) : (keepInterlocks s).seq = s.seq := by
  unfold keepInterlocks
  (repeat' split) <;> rfl

theorem OutOfZone.settle {s : State} (h : OutOfZone s) : OutOfZone (settle s) :=
  (h.iterate Config.settleFuel).of_seq (keepInterlocks_seq _)

/-! ## The counterexample -/

/-- The slot in the zone: number 1, its member the vessel of entry 8. -/
def zonedSlot : Slot := { lateSlot with serial := 1, state := .inZone, outcome := none, noShow := .stopped }

/-- A halted opening: a DONE slot and the slot in the zone name entry 8, and the zone list holds both. -/
def zonedTwice : State :=
  { lateExpiry with
    pending := [],
    table := { Table.reset with entries := Table.reset.entries.set 8 { Entry.vacant with state := .transiting } },
    inputs := some (0, 0, 0),
    channel := { lateExpiry.channel with zoneList := [0, 1], zoneCount := 2 },
    seq := { Sequence.reset with
      state := .halted, heldPhase := some .raised,
      opening := some { lateOpening with slots := [{ lateSlot with noShow := .stopped }, zonedSlot] } } }

theorem entryAt_zonedTwice {i : Nat} (hi : i ≠ 8) : entryAt zonedTwice i = Entry.vacant := by
  rw [← entryAt_reset (t := State.reset) rfl i]
  simp [entryAt, zonedTwice, State.reset, List.getD, List.getElem?_set_ne (Ne.symm hi)]

theorem tableSound_zonedTwice : TableSound zonedTwice := by
  unfold TableSound
  decide +kernel

theorem slotsMatched_zonedTwice : SlotsMatched zonedTwice := by
  refine ⟨⟨rfl, rfl, by decide, by decide⟩, fun i _ hi => ?_, fun o ho => ?_⟩
  · obtain rfl : i = 8 := by
      by_contra hne
      rw [entryAt_zonedTwice hne] at hi
      exact nomatch hi
    exact ⟨_, zonedSlot, rfl, by simp, nofun, rfl⟩
  · obtain rfl := Option.some.inj ho
    refine ⟨rfl, .inr ⟨.inr rfl, .raised, rfl, rfl⟩, by decide, by decide, by decide, fun x hx hn i hi => ?_, ?_⟩
    · have both : x = { lateSlot with noShow := .stopped } ∨ x = zonedSlot := by simpa using hx
      obtain rfl | rfl := both
      · exact absurd rfl hn
      · obtain rfl : 8 = i := Option.some.inj hi
        exact ⟨by decide, rfl⟩
    · exact List.Pairwise.cons (fun y _ h => absurd rfl h) (List.pairwise_singleton _ _)

/-- ZONE_RESET leaves the slot of number 1 in the zone. -/
theorem zoneReset_zonedTwice : ∃ t, exec (.zoneReset .control []) zonedTwice = .next t ∧
    ((slots t).all fun z => z.serial != 1 || z.state == .inZone) = true :=
  ⟨_, rfl, by decide +kernel⟩

/-- Refutes O49: ZONE_RESET concludes the entry for the DONE slot of the zone list that names it, and the slot in the
zone that names it too is refused and stays. -/
theorem not_channelCommands : ¬ Obligations.ChannelCommands := by
  unfold Obligations.ChannelCommands
  intro h
  obtain ⟨u, run, -, -, -, -, state, zone⟩ := (h.1 .control [] zonedTwice (by decide)).1 (by decide) rfl
  obtain ⟨⟨z, hz, one, done, -⟩, -⟩ :=
    zone tableSound_zonedTwice slotsMatched_zonedTwice zonedSlot (by decide) (by decide) nofun
  have out : OutOfZone (settle u) :=
    OutOfZone.settle ⟨state, z, hz, one, by rw [done]; exact nofun⟩
  obtain ⟨t, left, inZone⟩ := zoneReset_zonedTwice
  obtain rfl := Host.Outcome.next.inj (run.symm.trans left)
  obtain ⟨-, y, hy, serial, outside⟩ := out
  have inside := List.all_eq_true.1 inZone y hy
  simp [serial, outside] at inside

end Sys2Proof.Machine
end


section
/-!
O11, the table: the due list and the arrival order after each change of the table. `Ranked` is what `ListsOrdered` says
of a table, with room for an entry on its way into a list and for a counter that is just moving on.
-/

namespace Sys2Proof.Machine

/-! ## Tables -/

/-- The entry of a table at an index. -/
def Table.entry (t : Table) (i : Nat) : Entry := t.entries.getD i Entry.vacant

/-- A table with an entry put in its place. -/
def Table.put (t : Table) (i : Nat) (e : Entry) : Table := { t with entries := t.entries.set i e }

theorem Table.entry_put_self {t : Table} {i : Nat} (h : i < t.entries.length) (e : Entry) :
    (t.put i e).entry i = e := by
  simp [Table.entry, Table.put, h]

theorem Table.entry_put_ne {i j : Nat} (h : j ≠ i) (t : Table) (e : Entry) : (t.put i e).entry j = t.entry j := by
  simp [Table.entry, Table.put, List.getD, List.getElem?_set_ne (Ne.symm h)]

theorem Table.entry_put_le {t : Table} {i : Nat} (h : t.entries.length ≤ i) (e : Entry) : t.put i e = t := by
  unfold Table.put
  rw [List.set_eq_of_length_le h]

theorem Table.entry_of_le {t : Table} {i : Nat} (h : t.entries.length ≤ i) : t.entry i = Entry.vacant :=
  List.getD_eq_default _ _ h

theorem kindOf_arrival {t : Table} (h : t.tb ≤ t.qb) (i : Nat) : kindOf t i = .arrival ↔ t.qb ≤ i := by
  rw [kindOf_eq_arrival_iff]
  omega

/-! ## Lists in order -/

/-- By what the stamps are ranked: the counter that stands, the rank of each stamp, and the stamps that the entry at an
index may bear. -/
structure Ranking where
  counter : BitVec 16
  rank : BitVec 16 → Nat
  ok : Nat → BitVec 16 → Prop

/-- The ages of the stamps at a counter, the counter's own value spare (R9). -/
def Ranking.at (c : BitVec 16) : Ranking := { counter := c, rank := fun x => (c - x).toNat, ok := fun _ x => x ≠ c }

/-- The rank of an entry in the due list: that of its stamp. -/
def Ranking.of (r : Ranking) (e : Entry) : Nat :=
  match e.dueStamp with
  | some x => r.rank x
  | none => 0

/-- An entry whose stamp counts bears one that is allowed. -/
def Ranking.Stamps (r : Ranking) (i : Nat) (e : Entry) : Prop :=
  e.state = .due ∨ e.state.inOpening = true → ∃ x, e.dueStamp = some x ∧ r.ok i x

/-- The lists of a table are in order by a ranking; `d` is a DUE entry that is not yet in the due list, `a` an arrival
entry that is not yet in the arrival order, both with good check codes. -/
structure Ranked (r : Ranking) (d a : Option Nat) (t : Table) : Prop where
  counter : t.counter = r.counter
  entries : t.entries.length = 64
  generations : t.generations.length = 64
  tb_le : t.tb ≤ t.qb
  qb_le : t.qb ≤ 64
  dueNodup : t.dueList.Nodup
  arrivalsNodup : t.arrivalOrder.Nodup
  mem_due : ∀ i, i ∈ t.dueList ↔ i < 64 ∧ (t.entry i).state = .due ∧ d ≠ some i
  mem_arrivals : ∀ i, i ∈ t.arrivalOrder ↔ t.qb ≤ i ∧ i < 64 ∧ (t.entry i).state ≠ .vacant ∧ a ≠ some i
  sorted : t.dueList.Pairwise (fun i j => r.of (t.entry j) ≤ r.of (t.entry i))
  stamped : ∀ i, i < 64 → r.Stamps i (t.entry i)
  good : ∀ i, d = some i ∨ a = some i → (t.entry i).codeGood = true

/-- The lists of a state are in order: no entry is on its way. -/
def Lists (s : State) : Prop := Ranked (.at s.table.counter) none none s.table

theorem listsOrdered_iff (s : State) : ListsOrdered s ↔ Lists s := by
  have entry : ∀ i, s.table.entry i = entryAt s i := fun _ => rfl
  constructor
  · rintro ⟨⟨he, hg, htb, hqb⟩, hd, ha, md, ma, sorted, stamped⟩
    exact ⟨rfl, he, hg, htb, hqb, hd, ha, fun i => (md i).trans (by simp [entry]),
      fun i => (ma i).trans (by simp [entry]), sorted, stamped, fun i h => by simp at h⟩
  · intro h
    exact ⟨⟨h.entries, h.generations, h.tb_le, h.qb_le⟩, h.dueNodup, h.arrivalsNodup,
      fun i => (h.mem_due i).trans (by simp [entry]), fun i => (h.mem_arrivals i).trans (by simp [entry]), h.sorted,
      h.stamped⟩

section
variable {r : Ranking} {d a : Option Nat} {t : Table}

theorem Ranked.lt_of_state (h : Ranked r d a t) {i : Nat} (hi : (t.entry i).state ≠ .vacant) : i < 64 := by
  by_contra hge
  rw [Table.entry_of_le (by rw [h.entries]; omega)] at hi
  exact hi rfl

/-- What `Ranked` reads of the table. -/
theorem Ranked.congr {u : Table} (h : Ranked r d a t) (hc : u.counter = t.counter) (he : u.entries = t.entries)
    (hg : u.generations.length = t.generations.length) (htb : u.tb = t.tb) (hqb : u.qb = t.qb)
    (hd : u.dueList = t.dueList) (ha : u.arrivalOrder = t.arrivalOrder) : Ranked r d a u := by
  have entry : ∀ i, u.entry i = t.entry i := fun i => by rw [Table.entry, he, Table.entry]
  constructor
  case counter => rw [hc]; exact h.counter
  case entries => rw [he]; exact h.entries
  case generations => rw [hg]; exact h.generations
  case tb_le => rw [htb, hqb]; exact h.tb_le
  case qb_le => rw [hqb]; exact h.qb_le
  case dueNodup => rw [hd]; exact h.dueNodup
  case arrivalsNodup => rw [ha]; exact h.arrivalsNodup
  case mem_due => intro i; rw [hd, entry]; exact h.mem_due i
  case mem_arrivals => intro i; rw [ha, entry, hqb]; exact h.mem_arrivals i
  case sorted => rw [hd]; simpa only [entry] using h.sorted
  case stamped => intro i hi; rw [entry]; exact h.stamped i hi
  case good => intro i hi; rw [entry]; exact h.good i hi

/-- Another ranking, under which the due list stays in order and the stamps are allowed. -/
theorem Ranked.rerank (h : Ranked r d a t) (q : Ranking)
    (ranks : ∀ i j, i < 64 → j < 64 → (t.entry i).state = .due → (t.entry j).state = .due →
      r.of (t.entry j) ≤ r.of (t.entry i) → q.of (t.entry j) ≤ q.of (t.entry i))
    (stamps : ∀ i, i < 64 → r.Stamps i (t.entry i) → q.Stamps i (t.entry i)) :
    Ranked q d a { t with counter := q.counter } :=
  { h with
    counter := rfl
    sorted := h.sorted.imp_of_mem fun {i j} hi hj hij =>
      ranks i j ((h.mem_due i).1 hi).1 ((h.mem_due j).1 hj).1 ((h.mem_due i).1 hi).2.1 ((h.mem_due j).1 hj).2.1 hij
    stamped := fun i hi => stamps i hi (h.stamped i hi) }

/-- An entry is replaced, with its places in the two lists. -/
theorem Ranked.replace (h : Ranked r d a t) {i : Nat} (hi : i < 64) {e : Entry} {due arrivals : List Nat}
    {d' a' : Option Nat} (hgood : e.codeGood = true)
    (due_nodup : due.Nodup) (mem_due : ∀ j, j ∈ due ↔ (j ≠ i ∧ j ∈ t.dueList) ∨ (j = i ∧ e.state = .due ∧ d' ≠ some i))
    (arrivals_nodup : arrivals.Nodup)
    (mem_arrivals : ∀ j, j ∈ arrivals ↔
      (j ≠ i ∧ j ∈ t.arrivalOrder) ∨ (j = i ∧ t.qb ≤ i ∧ e.state ≠ .vacant ∧ a' ≠ some i))
    (others : ∀ j, j ≠ i → (d' = some j ↔ d = some j) ∧ (a' = some j ↔ a = some j))
    (sorted : due.Pairwise (fun j k => r.of ((t.put i e).entry k) ≤ r.of ((t.put i e).entry j)))
    (stamped : r.Stamps i e) :
    Ranked r d' a' { t.put i e with dueList := due, arrivalOrder := arrivals } := by
  have here : (t.put i e).entry i = e := Table.entry_put_self (h.entries ▸ hi) e
  have there : ∀ j, j ≠ i → (t.put i e).entry j = t.entry j := fun j hj => Table.entry_put_ne hj t e
  constructor
  case counter => exact h.counter
  case entries => simpa [Table.put] using h.entries
  case generations => exact h.generations
  case tb_le => exact h.tb_le
  case qb_le => exact h.qb_le
  case dueNodup => exact due_nodup
  case arrivalsNodup => exact arrivals_nodup
  case mem_due =>
    intro j
    change j ∈ due ↔ j < 64 ∧ ((t.put i e).entry j).state = .due ∧ d' ≠ some j
    rw [mem_due]
    by_cases hj : j = i
    · subst hj
      simp [here, hi]
    · simp [hj, there, h.mem_due, (others j hj).1]
  case mem_arrivals =>
    intro j
    change j ∈ arrivals ↔ t.qb ≤ j ∧ j < 64 ∧ ((t.put i e).entry j).state ≠ .vacant ∧ a' ≠ some j
    rw [mem_arrivals]
    by_cases hj : j = i
    · subst hj
      simp [here, hi]
    · simp [hj, there, h.mem_arrivals, (others j hj).2]
  case sorted => exact sorted
  case stamped =>
    intro j hj
    change r.Stamps j ((t.put i e).entry j)
    by_cases hji : j = i
    · subst hji
      rwa [here]
    · rw [there j hji]
      exact h.stamped j hj
  case good =>
    intro j hj
    change ((t.put i e).entry j).codeGood = true
    by_cases hji : j = i
    · subst hji
      rwa [here]
    · rw [there j hji]
      exact h.good j (hj.imp (others j hji).1.mp (others j hji).2.mp)

/-- The due list without an entry is in order whatever becomes of that entry. -/
theorem Ranked.sorted_without (h : Ranked r d a t) (i : Nat) (e : Entry) :
    (t.dueList.filter (· != i)).Pairwise (fun j k =>
      r.of ((t.put i e).entry k) ≤ r.of ((t.put i e).entry j)) := by
  refine (h.sorted.filter (· != i)).imp_of_mem fun {j k} hj hk hjk => ?_
  have hji : j ≠ i := by simpa using (List.mem_filter.mp hj).2
  have hki : k ≠ i := by simpa using (List.mem_filter.mp hk).2
  rwa [Table.entry_put_ne hji, Table.entry_put_ne hki]

/-- The arrival order holds an entry that is replaced by one that is VACANT or not as it was. -/
theorem Ranked.arrivals_kept (h : Ranked r d a t) {i : Nat} (hi : i < 64) {e : Entry}
    (hvacant : t.qb ≤ i → (e.state = .vacant ↔ (t.entry i).state = .vacant)) (j : Nat) :
    j ∈ t.arrivalOrder ↔ (j ≠ i ∧ j ∈ t.arrivalOrder) ∨ (j = i ∧ t.qb ≤ i ∧ e.state ≠ .vacant ∧ a ≠ some i) := by
  by_cases hj : j = i
  · subst hj
    simp only [h.mem_arrivals, hi, ne_eq, not_true, false_and, true_and, false_or]
    exact and_congr_right fun hq => by rw [hvacant hq]
  · simp [hj]

/-! ## Entries written -/

/-- An entry leaves the due list, or was not in it, and is replaced by one that is not DUE. -/
theorem Ranked.drop (h : Ranked r d a t) {i : Nat} (hi : i < 64) {e : Entry} (hgood : e.codeGood = true)
    (hdue : e.state ≠ .due) (hvacant : t.qb ≤ i → (e.state = .vacant ↔ (t.entry i).state = .vacant))
    (stamped : r.Stamps i e) : Ranked r d a { t.put i e with dueList := t.dueList.filter (· != i) } := by
  refine h.replace hi hgood (h.dueNodup.filter _) (fun j => ?_) h.arrivalsNodup (h.arrivals_kept hi hvacant)
    (fun _ _ => ⟨Iff.rfl, Iff.rfl⟩) (h.sorted_without i e) stamped
  simp [hdue, and_comm]

/-- An entry is written in its place in both lists. -/
theorem Ranked.write (h : Ranked r d a t) {i : Nat} {e : Entry} (hgood : e.codeGood = true)
    (hdue : i < 64 → (e.state = .due ↔ (t.entry i).state = .due))
    (hvacant : i < 64 → t.qb ≤ i → (e.state = .vacant ↔ (t.entry i).state = .vacant))
    (hrank : i < 64 → e.state = .due → r.of e = r.of (t.entry i))
    (stamped : i < 64 → r.Stamps i e) : Ranked r d a (t.put i e) := by
  by_cases hi : i < 64
  · refine h.replace hi hgood h.dueNodup (fun j => ?_) h.arrivalsNodup (h.arrivals_kept hi (hvacant hi))
      (fun _ _ => ⟨Iff.rfl, Iff.rfl⟩) ?_ (stamped hi)
    · by_cases hj : j = i
      · subst hj
        simp [h.mem_due, hi, hdue hi]
      · simp [hj]
    · have same : ∀ j ∈ t.dueList, r.of ((t.put i e).entry j) = r.of (t.entry j) := by
        intro j hj
        by_cases hji : j = i
        · subst hji
          rw [Table.entry_put_self (h.entries ▸ hi)]
          exact hrank hi ((hdue hi).mpr ((h.mem_due j).mp hj).2.1)
        · rw [Table.entry_put_ne hji]
      exact h.sorted.imp_of_mem fun {j k} hj hk hjk => by rwa [same j hj, same k hk]
  · rw [Table.entry_put_le (by rw [h.entries]; omega)]
    exact h

/-- An entry is written with its state and its stamp. -/
theorem Ranked.write_same (h : Ranked r d a t) {i : Nat} {e : Entry} (hgood : e.codeGood = true)
    (hstate : e.state = (t.entry i).state) (hstamp : e.dueStamp = (t.entry i).dueStamp) :
    Ranked r d a (t.put i e) := by
  refine h.write hgood (fun _ => by rw [hstate]) (fun _ _ => by rw [hstate])
    (fun _ _ => by rw [Ranking.of, hstamp, Ranking.of]) fun hi => ?_
  unfold Ranking.Stamps
  rw [hstate, hstamp]
  exact h.stamped i hi

theorem EntryState.not_due_of_inOpening {x : EntryState} (h : x.inOpening = true) : x ≠ .due ∧ x ≠ .vacant := by
  cases x <;> simp [EntryState.inOpening] at h ⊢

/-- An entry moves within the opening. -/
theorem Ranked.write_opening (h : Ranked r d a t) {i : Nat} {e : Entry} (hgood : e.codeGood = true)
    (hfrom : (t.entry i).state.inOpening = true) (hto : e.state.inOpening = true)
    (hstamp : e.dueStamp = (t.entry i).dueStamp) : Ranked r d a (t.put i e) := by
  obtain ⟨fromDue, fromVacant⟩ := EntryState.not_due_of_inOpening hfrom
  obtain ⟨toDue, toVacant⟩ := EntryState.not_due_of_inOpening hto
  refine h.write hgood (fun _ => iff_of_false toDue fromDue) (fun _ _ => iff_of_false toVacant fromVacant)
    (fun _ due => absurd due toDue) fun hi _ => ?_
  rw [hstamp]
  exact h.stamped i hi (.inr hfrom)

/-- An entry of the opening becomes DUE again, on its way into the due list. -/
theorem Ranked.write_returned (h : Ranked r none a t) {i : Nat} {e : Entry} (hgood : e.codeGood = true)
    (hfrom : (t.entry i).state.inOpening = true) (hto : e.state = .due) (hstamp : e.dueStamp = (t.entry i).dueStamp) :
    Ranked r (some i) a (t.put i e) := by
  obtain ⟨fromDue, fromVacant⟩ := EntryState.not_due_of_inOpening hfrom
  have hi := h.lt_of_state fromVacant
  have out : i ∉ t.dueList := fun hm => fromDue ((h.mem_due i).1 hm).2.1
  have list : t.dueList.filter (· != i) = t.dueList :=
    List.filter_eq_self.mpr fun j hj => by simpa using fun same : j = i => out (same ▸ hj)
  refine h.replace hi hgood h.dueNodup (fun j => ?_) h.arrivalsNodup
    (h.arrivals_kept hi fun _ => iff_of_false (by simp [hto]) fromVacant) (fun j hj => ⟨?_, Iff.rfl⟩)
    (list ▸ h.sorted_without i e) (fun _ => ?_)
  · by_cases hj : j = i
    · subst hj
      simp [out]
    · simp [hj]
  · simp [Ne.symm hj]
  · rw [hstamp]
    exact h.stamped i hi (.inr hfrom)

/-- An entry becomes DAMAGED: out of the due list, in the arrival order if it is an arrival entry. -/
theorem Ranked.damage (h : Ranked r d a t) {i : Nat} (hi : i < 64) {e : Entry} (ha : a ≠ some i)
    (hgood : e.codeGood = true) (hstate : e.state = .damaged) :
    Ranked r d a { t.put i e with
      dueList := t.dueList.filter (· != i),
      arrivalOrder := if kindOf t i == .arrival && !t.arrivalOrder.contains i then t.arrivalOrder ++ [i]
        else t.arrivalOrder } := by
  have arrival : (kindOf t i == .arrival) = true ↔ t.qb ≤ i := by rw [beq_iff_eq, kindOf_arrival h.tb_le]
  refine h.replace hi hgood (h.dueNodup.filter _) (fun j => ?_) ?_ (fun j => ?_) (fun _ _ => ⟨Iff.rfl, Iff.rfl⟩)
    (h.sorted_without i e) (fun hs => ?_)
  · simp [hstate, and_comm]
  · split
    · next hc =>
      obtain ⟨-, away⟩ : (kindOf t i == .arrival) = true ∧ i ∉ t.arrivalOrder := by simpa using hc
      exact List.nodup_append.mpr ⟨h.arrivalsNodup, List.nodup_singleton i, fun x hx y hy same => by simp_all⟩
    · exact h.arrivalsNodup
  · by_cases hj : j = i
    · subst hj
      by_cases hq : t.qb ≤ j
      · by_cases hm : j ∈ t.arrivalOrder <;> simp [arrival.2 hq, hq, hm, hstate, ha]
      · have hm : j ∉ t.arrivalOrder := fun hm => hq ((h.mem_arrivals j).mp hm).1
        simp [mt arrival.1 hq, hq, hm]
    · split <;> simp [hj]
  · simp [hstate, EntryState.inOpening] at hs

/-- An entry becomes VACANT, out of both lists. -/
theorem Ranked.vacate (h : Ranked r d a t) {i : Nat} (hi : i < 64) :
    Ranked r d a { t.put i Entry.vacant with
      dueList := t.dueList.filter (· != i), arrivalOrder := t.arrivalOrder.filter (· != i) } := by
  refine h.replace hi rfl (h.dueNodup.filter _) (fun j => ?_) (h.arrivalsNodup.filter _) (fun j => ?_)
    (fun _ _ => ⟨Iff.rfl, Iff.rfl⟩) (h.sorted_without i _) (fun hs => ?_)
  · simp [Entry.vacant, and_comm]
  · simp [Entry.vacant, and_comm]
  · simp [Entry.vacant, EntryState.inOpening] at hs

/-- A VACANT entry takes a record; an arrival entry is then on its way into the arrival order. -/
theorem Ranked.store (h : Ranked r d none t) {i : Nat} (hi : i < 64) {e : Entry} (hgood : e.codeGood = true)
    (hvacant : (t.entry i).state = .vacant) (hstate : e.state = .pending) :
    Ranked r d (if t.qb ≤ i then some i else none) (t.put i e) := by
  have out : i ∉ t.dueList := fun hm => by simpa [hvacant] using ((h.mem_due i).mp hm).2.1
  have away : i ∉ t.arrivalOrder := fun hm => ((h.mem_arrivals i).mp hm).2.2.1 hvacant
  have list : t.dueList.filter (· != i) = t.dueList :=
    List.filter_eq_self.mpr fun j hj => by simpa using fun same : j = i => out (same ▸ hj)
  refine h.replace hi hgood h.dueNodup (fun j => ?_) h.arrivalsNodup (fun j => ?_) (fun j hj => ⟨Iff.rfl, ?_⟩)
    (list ▸ h.sorted_without i e) (fun hs => ?_)
  · by_cases hj : j = i
    · subst hj
      simp [out, hstate]
    · simp [hj]
  · by_cases hj : j = i
    · subst hj
      by_cases hq : t.qb ≤ j <;> simp [away, hq]
    · simp [hj]
  · by_cases hq : t.qb ≤ i <;> simp [hq, Ne.symm hj]
  · simp [hstate, EntryState.inOpening] at hs

/-! ## Entries joining the lists -/

/-- An arrival entry on its way joins the tail of the arrival order. -/
theorem Ranked.arrive {i : Nat} (h : Ranked r d (some i) t) (hi : i < 64) (hq : t.qb ≤ i)
    (hstate : (t.entry i).state ≠ .vacant) : Ranked r d none { t with arrivalOrder := t.arrivalOrder ++ [i] } := by
  have away : i ∉ t.arrivalOrder := fun hm => ((h.mem_arrivals i).mp hm).2.2.2 rfl
  refine { h with arrivalsNodup := ?_, mem_arrivals := fun j => ?_, good := fun j hj => h.good j (hj.imp_right nofun) }
  · exact List.nodup_append.mpr ⟨h.arrivalsNodup, List.nodup_singleton i, fun x hx y hy same => by simp_all⟩
  · change j ∈ t.arrivalOrder ++ [i] ↔ t.qb ≤ j ∧ j < 64 ∧ (t.entry j).state ≠ .vacant ∧ none ≠ some j
    by_cases hj : j = i
    · subst hj
      simp [hi, hq, hstate]
    · simp [hj, Ne.symm hj, h.mem_arrivals]

theorem insertByAge_perm (age : Nat → Nat) (i : Nat) (l : List Nat) : (insertByAge age i l).Perm (i :: l) := by
  induction l with
  | nil => exact .refl _
  | cons j l ih =>
    unfold insertByAge
    split
    · exact .refl _
    · exact (ih.cons j).trans (.swap i j l)

theorem insertByAge_sorted {age : Nat → Nat} {l : List Nat} (i : Nat) (h : l.Pairwise fun j k => age k ≤ age j) :
    (insertByAge age i l).Pairwise fun j k => age k ≤ age j := by
  induction h with
  | nil => exact List.pairwise_singleton _ _
  | @cons j l first rest ih =>
    unfold insertByAge
    split
    · next older =>
      refine .cons (fun k hk => ?_) (.cons first rest)
      rcases List.mem_cons.1 hk with rfl | hk
      · exact older.le
      · exact (first k hk).trans older.le
    · next younger =>
      refine .cons (fun k hk => ?_) ih
      rcases List.mem_cons.1 ((insertByAge_perm age i l).mem_iff.1 hk) with rfl | hk
      · exact not_lt.1 younger
      · exact first k hk

/-- A DUE entry on its way joins the due list at its age. -/
theorem Ranked.insert {i : Nat} (h : Ranked r (some i) a t) (hi : i < 64) (hstate : (t.entry i).state = .due) :
    Ranked r none a { t with dueList := insertByAge (fun j => r.of (t.entry j)) i t.dueList } := by
  have perm := insertByAge_perm (fun j => r.of (t.entry j)) i t.dueList
  have away : i ∉ t.dueList := fun hm => ((h.mem_due i).mp hm).2.2 rfl
  refine { h with
    dueNodup := perm.nodup_iff.2 (List.nodup_cons.2 ⟨away, h.dueNodup⟩), mem_due := fun j => ?_,
    sorted := insertByAge_sorted i h.sorted, good := fun j hj => h.good j (hj.imp_left nofun) }
  refine perm.mem_iff.trans ?_
  change j ∈ i :: t.dueList ↔ j < 64 ∧ (t.entry j).state = .due ∧ none ≠ some j
  by_cases hj : j = i
  · subst hj
    simp [hi, hstate]
  · simp [hj, Ne.symm hj, h.mem_due]

/-- An entry becomes DUE with a stamp younger than all others and joins the tail of the due list. -/
theorem Ranked.append (h : Ranked r none a t) {i : Nat} (hi : i < 64) {e : Entry} (hgood : e.codeGood = true)
    (hfrom : (t.entry i).state = .pending) (hto : e.state = .due) (stamped : r.Stamps i e)
    (youngest : ∀ j ∈ t.dueList, r.of e ≤ r.of (t.entry j)) :
    Ranked r none a { t.put i e with dueList := t.dueList ++ [i] } := by
  have out : i ∉ t.dueList := fun hm => by simpa [hfrom] using ((h.mem_due i).mp hm).2.1
  have list : t.dueList.filter (· != i) = t.dueList :=
    List.filter_eq_self.mpr fun j hj => by simpa using fun same : j = i => out (same ▸ hj)
  refine h.replace hi hgood ?_ (fun j => ?_) h.arrivalsNodup
    (h.arrivals_kept hi fun _ => iff_of_false (by simp [hto]) (by simp [hfrom])) (fun _ _ => ⟨Iff.rfl, Iff.rfl⟩) ?_
    stamped
  · exact List.nodup_append.mpr ⟨h.dueNodup, List.nodup_singleton i, fun x hx y hy same => by simp_all⟩
  · by_cases hj : j = i
    · subst hj
      simp [hto]
    · simp [hj]
  · refine List.pairwise_append.2 ⟨list ▸ h.sorted_without i e, List.pairwise_singleton _ _, fun j hj k hk => ?_⟩
    obtain rfl := List.mem_singleton.1 hk
    rw [Table.entry_put_self (h.entries ▸ hi), Table.entry_put_ne fun same : j = k => out (same ▸ hj)]
    exact youngest j hj

end

end Sys2Proof.Machine
end


section
/-!
O11, the reads and changes of the table: each keeps the lists in order (R8 to R12, R26).
-/

namespace Sys2Proof.Machine

section
variable {r : Ranking} {d a : Option Nat} {s : State} {i : Nat}

/-! ## Reads -/

theorem writeEntry_table (i : Nat) (e : Entry) (s : State) :
    (writeEntry i e s).table = s.table.put i { e with codeGood := true } := rfl

theorem joinArrivals_table (i : Nat) (s : State) : (joinArrivals i s).table = { s.table with
    arrivalOrder := if kindOf s.table i == .arrival && !s.table.arrivalOrder.contains i then s.table.arrivalOrder ++ [i]
      else s.table.arrivalOrder } := by
  unfold joinArrivals
  rw [mapTable_table]
  split <;> rfl

theorem Ranked.recordDamage (h : Ranked r d a s.table) (i : Nat) : Ranked r d a (recordDamage i s).table := by
  unfold Machine.recordDamage
  rw [mapTable_table]
  split <;> exact h.congr rfl rfl rfl rfl rfl rfl rfl

theorem Ranked.damageEntry (h : Ranked r d a s.table) (hi : i < 64) (ha : a ≠ some i) :
    Ranked r d a (damageEntry i s).table := by
  have joined : Ranked r d a (joinArrivals i (leaveDue i
      (writeEntry i { Entry.vacant with state := .damaged } s))).table := by
    rw [joinArrivals_table, leaveDue_table]
    exact h.damage hi (e := { Entry.vacant with state := .damaged }) ha rfl rfl
  unfold Machine.damageEntry
  dsimp only
  split <;> exact joined.recordDamage i

theorem entry_lt_of_bad (h : s.table.entries.length = 64) (bad : ¬ (entryAt s i).codeGood = true) : i < 64 := by
  by_contra hge
  exact bad (congrArg Entry.codeGood (Table.entry_of_le (t := s.table) (by omega)))

theorem Ranked.verifyEntry (h : Ranked r d a s.table) (i : Nat) : Ranked r d a (verifyEntry i s).table := by
  unfold Machine.verifyEntry
  dsimp only
  split
  · exact h
  next bad =>
    split
    · next damaged =>
      have state : (s.table.entry i).state = .damaged := beq_iff_eq.1 damaged
      rw [writeEntry_table]
      exact h.write rfl (fun _ => by rw [state]) (fun _ _ => by rw [state]) (fun _ => nofun) fun _ => nofun
    · exact h.damageEntry (entry_lt_of_bad h.entries bad) fun same => bad (h.good i (.inr same))

theorem Ranked.verifyEntries (h : Ranked r d a s.table) (l : List Nat) : Ranked r d a (verifyEntries l s).table :=
  List.foldlRecOn l _ (motive := fun t : State => Ranked r d a t.table) h fun _ ht i _ => ht.verifyEntry i

theorem Ranked.verifyGeneration (h : Ranked r d none s.table) (i : Nat) :
    Ranked r d none (verifyGeneration i s).table := by
  have written : Ranked r d none (writeGeneration i 0 s).table :=
    h.congr rfl rfl (by simp [writeGeneration]) rfl rfl rfl rfl
  unfold Machine.verifyGeneration
  dsimp only
  split
  · exact h
  next bad =>
    have hi : i < 64 := by
      by_contra hge
      exact bad (congrArg Generation.codeGood (List.getD_eq_default _ _ (by rw [h.generations]; omega)))
    split
    · exact written
    · exact written.damageEntry hi nofun

theorem Ranked.verifyGenerations (h : Ranked r d none s.table) (l : List Nat) :
    Ranked r d none (verifyGenerations l s).table :=
  List.foldlRecOn l _ (motive := fun t : State => Ranked r d none t.table) h fun _ ht i _ => ht.verifyGeneration i

/-! ## What the reads leave alone -/

theorem damageEntry_entries (i : Nat) (s : State) :
    (damageEntry i s).table.entries = (writeEntry i { Entry.vacant with state := .damaged } s).table.entries := by
  have recorded : ∀ t : State, (recordDamage i t).table.entries = t.table.entries := fun t => by
    unfold recordDamage
    rw [mapTable_table]
    split <;> rfl
  have joined : (recordDamage i (joinArrivals i (leaveDue i
      (writeEntry i { Entry.vacant with state := .damaged } s)))).table.entries =
        (writeEntry i { Entry.vacant with state := .damaged } s).table.entries := by
    rw [recorded, joinArrivals_table, leaveDue_table]
  rw [← joined]
  unfold damageEntry
  dsimp only
  split <;> rfl

theorem entry_damageEntry_ne {j : Nat} (h : j ≠ i) (s : State) : entryAt (damageEntry i s) j = entryAt s j :=
  (entryAt_of_entries (damageEntry_entries i s) j).trans
    (entryAt_writeEntry_ne i j { Entry.vacant with state := .damaged } s h)

theorem entry_damageEntry_self (h : i < s.table.entries.length) :
    entryAt (damageEntry i s) i = { Entry.vacant with state := .damaged } :=
  (entryAt_of_entries (damageEntry_entries i s) i).trans
    (entryAt_writeEntry i { Entry.vacant with state := .damaged } s h)

/-- A read changes no entry whose check code is good. -/
theorem entry_verifyEntry_of_good {j : Nat} (good : (entryAt s j).codeGood = true) (i : Nat) :
    entryAt (verifyEntry i s) j = entryAt s j := by
  by_cases same : j = i
  · subst same
    exact congrArg (entryAt · j) (if_pos good)
  · unfold verifyEntry
    dsimp only
    (repeat' split)
    · rfl
    · exact entryAt_writeEntry_ne _ _ _ _ same
    · exact entry_damageEntry_ne same s

theorem entry_verifyEntries_of_good {j : Nat} (good : (entryAt s j).codeGood = true) (l : List Nat) :
    entryAt (verifyEntries l s) j = entryAt s j :=
  List.foldlRecOn l _ (motive := fun t : State => entryAt t j = entryAt s j) rfl fun t ht i _ =>
    (entry_verifyEntry_of_good (by rwa [ht]) i).trans ht

/-- A read leaves a good check code. -/
theorem good_verifyEntry (h : s.table.entries.length = 64) (i : Nat) :
    (entryAt (verifyEntry i s) i).codeGood = true := by
  unfold verifyEntry
  dsimp only
  split
  · next good => exact good
  next bad =>
    have hi : i < s.table.entries.length := h.symm ▸ entry_lt_of_bad h bad
    split
    · exact congrArg Entry.codeGood (entryAt_writeEntry i { Entry.vacant with state := .damaged } s hi)
    · exact congrArg Entry.codeGood (entry_damageEntry_self hi)

/-- A read of a generation leaves an entry or damages it. -/
theorem entry_verifyGeneration (h : s.table.entries.length = 64) (i j : Nat) :
    entryAt (verifyGeneration i s) j = entryAt s j ∨ (entryAt (verifyGeneration i s) j).state = .damaged := by
  unfold verifyGeneration
  dsimp only
  (repeat' split)
  · exact .inl rfl
  · exact .inl rfl
  · by_cases same : j = i
    · subst same
      by_cases hj : j < 64
      · exact .inr (congrArg Entry.state (entry_damageEntry_self (s := writeGeneration j 0 s) (h.symm ▸ hj)))
      · have out : ∀ t : State, t.table.entries.length = 64 → entryAt t j = Entry.vacant := fun t ht =>
          Table.entry_of_le (t := t.table) (by omega)
        have len : (damageEntry j (writeGeneration j 0 s)).table.entries.length = 64 := by
          rw [damageEntry_entries]
          simpa [writeEntry, writeGeneration] using h
        exact .inl ((out _ len).trans (out s h).symm)
    · exact .inl (entry_damageEntry_ne same _)

end

end Sys2Proof.Machine
end


section
/-!
O11, the counter and the changes of the table: a record made DUE, concluded, returned, retired (R4, R6 to R10).
-/

namespace Sys2Proof.Machine

section
variable {r : Ranking} {d a : Option Nat} {s : State} {i : Nat} {c : BitVec 16} {done : List Nat}

/-! ## The counter moves on -/

/-- The age of a stamp at a counter that is just reached: a stamp that would be of age 0 counts as the oldest, which it
is once it is moved (R9). -/
def passedAge (c x : BitVec 16) : Nat := if x = c then 65535 else (c - x).toNat

/-- The ages at a counter that is just reached, where the stamps of some entries are moved already. -/
def Ranking.passing (c : BitVec 16) (done : List Nat) : Ranking :=
  { counter := c, rank := passedAge c, ok := fun i x => i ∈ done → x ≠ c }

theorem passedAge_mono {c x y : BitVec 16} (h : (c - x).toNat ≤ (c - y).toNat) :
    passedAge (c + 1) x ≤ passedAge (c + 1) y := by
  unfold passedAge
  split <;> split <;> bv_omega

theorem passedAge_moved (c : BitVec 16) : passedAge c (c + 1) = passedAge c c := by
  unfold passedAge
  rw [if_neg (by bv_omega), if_pos rfl]
  bv_omega

theorem succ_ne (c : BitVec 16) : c + 1 ≠ c := by bv_omega

theorem Ranked.of_same_counter {q : Ranking} {t : Table} (h : Ranked q d a { t with counter := q.counter })
    (same : t.counter = q.counter) : Ranked q d a t :=
  h.congr same rfl rfl rfl rfl rfl rfl

/-- An entry whose stamp is not the counter's value is done with. -/
theorem Ranked.passing_cons {t : Table} (h : Ranked (.passing c done) d a t)
    (moved : ∀ x, (t.entry i).state = .due ∨ (t.entry i).state.inOpening = true →
      (t.entry i).dueStamp = some x → x ≠ c) :
    Ranked (.passing c (i :: done)) d a t := by
  refine (h.rerank (.passing c (i :: done)) (fun _ _ _ _ _ _ hij => hij) fun j _ stamps counts => ?_).of_same_counter
    h.counter
  obtain ⟨x, hx, ok⟩ := stamps counts
  refine ⟨x, hx, fun hj => ?_⟩
  rcases List.mem_cons.1 hj with rfl | hj
  · exact moved x counts hx
  · exact ok hj

theorem Ranked.moveStamp (h : Ranked (.passing c done) d a s.table) (i : Nat) :
    Ranked (.passing c (i :: done)) d a (moveStamp c s i).table := by
  have read := h.verifyEntry i
  unfold Machine.moveStamp
  dsimp only
  split
  · next spent =>
    obtain ⟨counts, stamp⟩ : ((entryAt (Machine.verifyEntry i s) i).state = .due ∨
        (entryAt (Machine.verifyEntry i s) i).state.inOpening = true) ∧
          (entryAt (Machine.verifyEntry i s) i).dueStamp = some c := by simpa using spent
    have hi : i < 64 := read.lt_of_state fun vacant => by
      rw [show (entryAt (Machine.verifyEntry i s) i).state = .vacant from vacant] at counts
      simp [EntryState.inOpening] at counts
    rw [writeEntry_table]
    refine Ranked.passing_cons (read.write rfl (fun _ => Iff.rfl) (fun _ _ => Iff.rfl) (fun _ _ => ?_) fun _ _ => ?_) ?_
    · rw [Ranking.of, Ranking.of, show ((Machine.verifyEntry i s).table.entry i).dueStamp = some c from stamp]
      exact passedAge_moved c
    · exact ⟨c + 1, rfl, fun _ => succ_ne c⟩
    · rw [Table.entry_put_self (read.entries ▸ hi)]
      rintro x - ⟨⟩
      exact succ_ne c
  · next kept =>
    refine read.passing_cons fun x counts stamp same => kept ?_
    subst same
    simp only [Bool.and_eq_true, Bool.or_eq_true, beq_iff_eq]
    exact ⟨counts, stamp⟩

theorem Ranked.moveStamps (l : List Nat) (h : Ranked (.passing c done) d a s.table) :
    Ranked (.passing c (l.reverse ++ done)) d a (l.foldl (Machine.moveStamp c) s).table := by
  induction l generalizing s done with
  | nil => exact h
  | cons i l ih => simpa using ih (h.moveStamp i)

theorem Ranked.advanceCounter (h : Ranked (.at c) d a s.table) :
    Ranked (.at (c + 1)) d a (advanceCounter s).table := by
  have counter : s.table.counter = c := h.counter
  have started : Ranked (.passing (c + 1) []) d a { s.table with counter := c + 1 } := by
    refine h.rerank (.passing (c + 1) []) (fun i j hi hj due due' hij => ?_) fun j _ stamps counts => ?_
    · obtain ⟨x, hx, -⟩ := h.stamped i hi (.inl due)
      obtain ⟨y, hy, -⟩ := h.stamped j hj (.inl due')
      simp only [Ranking.of, hx, hy] at hij ⊢
      exact passedAge_mono hij
    · obtain ⟨x, hx, -⟩ := stamps counts
      exact ⟨x, hx, nofun⟩
  have moved := Ranked.moveStamps (s := mapTable (fun t => { t with counter := c + 1 }) s) allIndexes started
  have all : ∀ j, j < 64 → j ∈ allIndexes.reverse ++ [] := fun j hj => by simpa [allIndexes, Config.entryCount] using hj
  unfold Machine.advanceCounter
  rw [counter]
  refine (moved.rerank (.at (c + 1)) (fun i j hi hj due due' hij => ?_) fun j hj stamps counts => ?_).of_same_counter
    moved.counter
  · obtain ⟨x, hx, okx⟩ := moved.stamped i hi (.inl due)
    obtain ⟨y, hy, oky⟩ := moved.stamped j hj (.inl due')
    have apart : x ≠ c + 1 := okx (all i hi)
    have apart' : y ≠ c + 1 := oky (all j hj)
    simp only [Ranking.of, hx, hy] at hij ⊢
    simpa only [Ranking.passing, Ranking.at, passedAge, if_neg apart, if_neg apart'] using hij
  · obtain ⟨x, hx, ok⟩ := stamps counts
    exact ⟨x, hx, ok (all j hj)⟩

/-- The counter's advance changes no entry that is PENDING, its check code good. -/
theorem entry_moveStamp_of_pending {j : Nat} (good : (entryAt s j).codeGood = true)
    (pending : (entryAt s j).state = .pending) (i : Nat) : entryAt (moveStamp c s i) j = entryAt s j := by
  have read := entry_verifyEntry_of_good good i
  unfold moveStamp
  dsimp only
  split
  · next spent =>
    by_cases same : j = i
    · subst same
      simp [read, pending, EntryState.inOpening] at spent
    · exact (entryAt_writeEntry_ne _ _ _ _ same).trans read
  · exact read

theorem entry_moveStamps_of_pending {j : Nat} (good : (entryAt s j).codeGood = true)
    (pending : (entryAt s j).state = .pending) (l : List Nat) : entryAt (l.foldl (moveStamp c) s) j = entryAt s j :=
  List.foldlRecOn l _ (motive := fun t : State => entryAt t j = entryAt s j) rfl fun t ht i _ =>
    (entry_moveStamp_of_pending (by rwa [ht]) (by rwa [ht]) i).trans ht

theorem entry_advanceCounter_of_pending {j : Nat} (good : (entryAt s j).codeGood = true)
    (pending : (entryAt s j).state = .pending) : entryAt (advanceCounter s) j = entryAt s j := by
  have kept := entry_moveStamps_of_pending (c := s.table.counter + 1)
    (s := mapTable (fun t => { t with counter := s.table.counter + 1 }) s) (j := j) good pending allIndexes
  unfold advanceCounter
  exact kept

theorem Ranking.of_spent (c : BitVec 16) {e : Entry} (h : e.dueStamp = some c) : (Ranking.at (c + 1)).of e = 1 := by
  simp only [Ranking.of, h, Ranking.at]
  bv_omega

theorem Ranking.one_le_of {e : Entry} {x : BitVec 16} (h : e.dueStamp = some x) (ok : x ≠ c) :
    1 ≤ (Ranking.at c).of e := by
  simp only [Ranking.of, h, Ranking.at]
  bv_omega

/-- A PENDING entry written DUE with the stamp that the counter has just left joins the tail (R9, R10). -/
theorem Ranked.append_spent (h : Ranked (.at (c + 1)) none a s.table) (hi : i < 64) {e : Entry}
    (pending : (entryAt s i).state = .pending) (due : e.state = .due) (stamp : e.dueStamp = some c) :
    Ranked (.at (c + 1)) none a (joinDue (· ++ [i]) (writeEntry i e s)).table := by
  have allowed : (Ranking.at (c + 1)).ok i c := (succ_ne c).symm
  have youngest : ∀ j ∈ s.table.dueList, 1 ≤ (Ranking.at (c + 1)).of (s.table.entry j) := fun j hj => by
    obtain ⟨hj, due, -⟩ := (h.mem_due j).1 hj
    obtain ⟨x, hx, ok⟩ := h.stamped j hj (.inl due)
    exact Ranking.one_le_of hx ok
  rw [joinDue_table, writeEntry_table]
  exact h.append hi rfl pending due (fun _ => ⟨c, stamp, allowed⟩) fun j hj =>
    (Ranking.of_spent c stamp).trans_le (youngest j hj)

/-- A PENDING entry becomes DUE (R9, R10). -/
theorem Ranked.becomeDue (h : Ranked (.at c) none a s.table) (pending : (entryAt s i).state = .pending)
    (good : (entryAt s i).codeGood = true) : Ranked (.at (c + 1)) none a (becomeDue i s).table := by
  have hi : i < 64 := h.lt_of_state fun vacant => by
    rw [show (entryAt s i).state = .vacant from vacant] at pending
    exact nomatch pending
  have counter : s.table.counter = c := h.counter
  refine h.advanceCounter.append_spent hi ?_ rfl (by rw [counter])
  rw [entry_advanceCounter_of_pending good pending, pending]

end

/-! ## Lists in order under the changes -/

section
variable {s : State} {i : Nat}

theorem Ranked.lists {c : BitVec 16} (h : Ranked (.at c) none none s.table) : Lists s := by
  have counter : s.table.counter = c := h.counter
  unfold Lists
  rwa [counter]

@[simp] theorem Lists.verifyEntry (h : Lists s) (i : Nat) : Lists (verifyEntry i s) := (Ranked.verifyEntry h i).lists
@[simp] theorem Lists.verifyEntries (h : Lists s) (l : List Nat) : Lists (verifyEntries l s) :=
  (Ranked.verifyEntries h l).lists
@[simp] theorem Lists.verifyGeneration (h : Lists s) (i : Nat) : Lists (verifyGeneration i s) :=
  (Ranked.verifyGeneration h i).lists
@[simp] theorem Lists.verifyGenerations (h : Lists s) (l : List Nat) : Lists (verifyGenerations l s) :=
  (Ranked.verifyGenerations h l).lists

theorem Lists.of_table {t : State} (h : Lists s) (same : t.table = s.table) : Lists t := by
  unfold Lists
  rwa [same]

theorem Lists.becomeDue (h : Lists s) (pending : (entryAt s i).state = .pending)
    (good : (entryAt s i).codeGood = true) : Lists (becomeDue i s) :=
  (Ranked.becomeDue h pending good).lists

/-- An entry is concluded (R6). -/
theorem Lists.concludeEntry (h : Lists s) (o : PassageOutcome) (held : (entryAt s i).state ≠ .vacant) :
    Lists (concludeEntry i o s) := by
  have hi := Ranked.lt_of_state h held
  unfold Machine.concludeEntry
  dsimp only
  split
  · next kind =>
    refine Ranked.lists (c := s.table.counter) ?_
    rw [writeEntry_table, leaveDue_table]
    have away : ¬ s.table.qb ≤ i := fun hq => by rw [(kindOf_arrival h.tb_le i).2 hq] at kind; exact nomatch kind
    exact h.drop hi rfl nofun (fun hq => absurd hq away) nofun
  · refine Ranked.lists (c := s.table.counter) ?_
    rw [raiseHarbour_table, writeEntry_table, leaveDue_table]
    exact h.drop hi rfl nofun (fun _ => iff_of_false nofun held) nofun

/-- The state in which an entry looks for its place in the due list (R7). -/
def backDue (i : Nat) (named : Bool) (s : State) : State :=
  let s1 := writeEntry i ((entryAt s i).returned (named || tideHeld s (entryAt s i).airDraft)) s
  Machine.verifyEntries s1.table.dueList s1

theorem entry_backDue (len : i < s.table.entries.length) (named : Bool) : entryAt (backDue i named s) i =
    (entryAt s i).returned (named || tideHeld s (entryAt s i).airDraft) := by
  have written : entryAt (writeEntry i ((entryAt s i).returned (named || tideHeld s (entryAt s i).airDraft)) s) i =
      (entryAt s i).returned (named || tideHeld s (entryAt s i).airDraft) := entryAt_writeEntry i _ s len
  exact (entry_verifyEntries_of_good (by rw [written]; rfl) _).trans written

theorem entryAge_eq (s : State) (j : Nat) :
    entryAge s j = (Ranking.at s.table.counter).of (s.table.entry j) := rfl

/-- An entry of the opening returns to the due list (R7). -/
theorem Lists.returnEntry (h : Lists s) (named : Bool) (opened : (entryAt s i).state.inOpening = true) :
    Lists (returnEntry i named s) := by
  obtain ⟨-, held⟩ := EntryState.not_due_of_inOpening opened
  have hi := Ranked.lt_of_state h held
  unfold Machine.returnEntry
  dsimp only
  split
  · exact h.concludeEntry .lapsed held
  · change Lists (joinDue (insertByAge (entryAge (backDue i named s)) i) (backDue i named s))
    have written : Ranked (.at s.table.counter) (some i) none (backDue i named s).table :=
      Ranked.verifyEntries (s := writeEntry i ((entryAt s i).returned (named || tideHeld s (entryAt s i).airDraft)) s)
        (h.write_returned rfl opened rfl rfl) _
    have counter : (backDue i named s).table.counter = s.table.counter := written.counter
    have ages : entryAge (backDue i named s) =
        fun j => (Ranking.at s.table.counter).of ((backDue i named s).table.entry j) := by
      funext j
      rw [entryAge_eq, counter]
    refine Ranked.lists (c := s.table.counter) ?_
    rw [joinDue_table, ages]
    exact written.insert hi (congrArg Entry.state (entry_backDue (by rwa [h.entries]) named))

end

end Sys2Proof.Machine
end


section
/-!
O11, the work of the table: the changes that others ask, retirement, the passes over the entries, the allocation
(R4, R8, R13, R17, R22 to R25, R62).
-/

namespace Sys2Proof.Machine

variable {s : State} {i : Nat}

/-! ## Entries written in place -/

theorem Lists.lt_of_state (h : Lists s) {x : EntryState} (state : (entryAt s i).state = x) (held : x ≠ .vacant) :
    i < 64 :=
  Ranked.lt_of_state h (by rwa [show (s.table.entry i).state = x from state])

theorem Lists.write_same (h : Lists s) {e : Entry} (state : e.state = (entryAt s i).state)
    (stamp : e.dueStamp = (entryAt s i).dueStamp) : Lists (writeEntry i e s) := by
  refine Ranked.lists (c := s.table.counter) ?_
  rw [writeEntry_table]
  exact Ranked.write_same h rfl state stamp

theorem Lists.write_opening (h : Lists s) {e : Entry} (opened : (entryAt s i).state.inOpening = true)
    (state : e.state.inOpening = true) (stamp : e.dueStamp = (entryAt s i).dueStamp) : Lists (writeEntry i e s) := by
  refine Ranked.lists (c := s.table.counter) ?_
  rw [writeEntry_table]
  exact Ranked.write_opening h rfl opened state stamp

theorem EntryState.ne_vacant_of_inOpening {x : EntryState} (h : x.inOpening = true) : x ≠ .vacant :=
  (EntryState.not_due_of_inOpening h).2

/-! ## The changes that others ask (R8) -/

theorem Change.madeFrom_opened {c : Change} {x : EntryState} (h : c.madeFrom x = true)
    (asked : ∀ n, c ≠ .assign n) (needed : c ≠ .notNeeded) : x.inOpening = true := by
  cases c <;> cases x <;> simp [Change.madeFrom, EntryState.inOpening] at h asked needed ⊢

theorem Lists.assign (h : Lists s) (due : (entryAt s i).state = .due) (n : BitVec 16) :
    Lists (applyChange (.assign n) i s) := by
  have hi := h.lt_of_state due nofun
  have held : (s.table.entry i).state ≠ .vacant := fun vacant => nomatch due.symm.trans vacant
  refine Ranked.lists (c := s.table.counter) ?_
  unfold applyChange
  dsimp only
  rw [writeEntry_table, leaveDue_table]
  exact Ranked.drop h hi rfl nofun (fun _ => iff_of_false nofun held) fun _ => h.stamped i hi (.inl due)

theorem Lists.applyChange (h : Lists s) {c : Change} (made : c.madeFrom (entryAt s i).state = true) :
    Lists (applyChange c i s) := by
  have opened := Change.madeFrom_opened made
  cases c with
  | assign n => exact h.assign (by simpa [Change.madeFrom] using made) n
  | notNeeded =>
    have due : (entryAt s i).state = .due := by simpa [Change.madeFrom] using made
    exact h.concludeEntry .notNeeded (by rw [due]; exact nofun)
  | giveBack named => exact h.returnEntry named (opened nofun nofun)
  | proceed => exact h.write_opening (opened nofun nofun) rfl rfl
  | enter => exact h.write_opening (opened nofun nofun) rfl rfl
  | revert => exact h.write_opening (opened nofun nofun) rfl rfl
  | conclude o => exact h.concludeEntry o (EntryState.ne_vacant_of_inOpening (opened nofun nofun))
  | giveBackWithoutEntry =>
    have inside := opened nofun nofun
    unfold Machine.applyChange
    dsimp only
    split
    · exact h.concludeEntry .noShow (EntryState.ne_vacant_of_inOpening inside)
    · exact h.returnEntry false inside

@[simp] theorem Lists.ask (h : Lists s) (c : Change) (i : Nat) : Lists (ask c i s).1 := by
  have read := h.verifyEntry i
  unfold Machine.ask
  dsimp only
  split
  · next made => exact read.applyChange made
  split
  · exact read
  · exact read

/-! ## Retirement (R4, R21, R22) -/

theorem Lists.vacate (h : Lists s) (hi : i < 64) : Lists (vacateEntry i (dropDue i s)) := by
  refine Ranked.lists (c := s.table.counter) ((Ranked.vacate h hi).congr rfl rfl ?_ rfl rfl rfl rfl)
  simp [vacateEntry, writeGeneration, dropDue, writeEntry, leaveArrivals, Table.put]

theorem Lists.retireEntry (h : Lists s) (hi : i < 64) : Lists (retireEntry i s) := by
  refine (h.vacate hi).of_table ?_
  unfold Machine.retireEntry vacateEntry
  simp [writeGeneration, writeEntry, leaveArrivals, dropDue, generationAt]

theorem Lists.overwriteArrival (h : Lists s) (hi : i < 64) : Lists (overwriteArrival i s) :=
  Ranked.lists (c := s.table.counter) ((h.vacate hi).congr rfl rfl rfl rfl rfl rfl rfl)

/-- A fold of work that keeps the lists in order. -/
theorem Lists.foldl {α : Type} {f : State → α → State} (keeps : ∀ t x, Lists t → Lists (f t x)) (l : List α)
    (h : Lists s) : Lists (l.foldl f s) :=
  List.foldlRecOn l f (motive := Lists) h fun t ht x _ => keeps t x ht

/-- One entry grows older, and is retired at the conclusion hold time (R22). -/
theorem Lists.ageEntry (h : Lists s) (k i : Nat) : Lists (ageEntry k s i) := by
  have read := h.verifyEntry i
  unfold Machine.ageEntry
  dsimp only
  split
  · have aged : ∀ age, Lists (writeEntry i { entryAt (Machine.verifyEntry i s) i with holdAge := some age }
        (Machine.verifyEntry i s)) := fun age => read.write_same rfl rfl
    split
    · split
      · next again =>
        exact ((aged _).verifyGeneration i).retireEntry
          (((aged _).verifyGeneration i).lt_of_state (beq_iff_eq.1 again) nofun)
      · exact (aged _).verifyGeneration i
    · exact aged _
  · exact read

@[simp] theorem Lists.ageConcluded (h : Lists s) (k : Nat) : Lists (ageConcluded k s) :=
  h.foldl (fun _ i ht => ht.ageEntry k i) allIndexes

/-! ## The passes over the entries (R22 to R25, R62) -/

/-- A read entry that is PENDING becomes DUE. -/
theorem Lists.verifiedDue (h : Lists s) (pending : (entryAt (Machine.verifyEntry i s) i).state = .pending) :
    Lists (Machine.becomeDue i (Machine.verifyEntry i s)) :=
  (h.verifyEntry i).becomeDue pending (good_verifyEntry h.entries i)

theorem Lists.visitBooked (h : Lists s) (m i : Nat) : Lists (visitBooked m s i) := by
  have read := h.verifyEntry i
  unfold Machine.visitBooked
  dsimp only
  split
  · next starts =>
    simp only [Bool.and_eq_true, beq_iff_eq] at starts
    exact h.verifiedDue starts.1
  split
  · next lapses =>
    simp only [Bool.and_eq_true, Bool.or_eq_true, beq_iff_eq] at lapses
    exact read.concludeEntry .lapsed (by rcases lapses.1 with state | state <;> rw [state] <;> exact nofun)
  split
  · exact read.write_same rfl rfl
  · exact read

theorem Lists.lapseTimetable (h : Lists s) (i : Nat) : Lists (lapseTimetable s i) := by
  have read := h.verifyEntry i
  unfold Machine.lapseTimetable
  dsimp only
  split
  · next due => exact read.concludeEntry .lapsed (by rw [beq_iff_eq.1 due]; exact nofun)
  split
  · exact read.write_same rfl rfl
  · exact read

theorem Lists.recurTimetable (h : Lists s) (slot i : Nat) : Lists (recurTimetable slot s i) := by
  have read := h.verifyEntry i
  unfold Machine.recurTimetable
  dsimp only
  split
  · next recurs =>
    simp only [Bool.and_eq_true, beq_iff_eq] at recurs
    split
    · exact read.write_same rfl rfl
    · exact h.verifiedDue recurs.1
  · exact read

@[simp] theorem Lists.visitMinute (h : Lists s) (m : Nat) : Lists (visitMinute m s) := by
  have booked : Lists ((regionOf s.table .booked).foldl (Machine.visitBooked m) s) :=
    h.foldl (fun _ i ht => ht.visitBooked m i) _
  unfold Machine.visitMinute
  dsimp only
  split
  · exact (booked.foldl (fun _ i ht => ht.lapseTimetable i) _).foldl (fun _ i ht => ht.recurTimetable _ i) _
  · exact booked

@[simp] theorem Lists.visitMinutes (h : Lists s) (k old : Nat) : Lists (visitMinutes k old s) := by
  induction k generalizing s old with
  | zero => exact h
  | succ k ih => exact ih (h.visitMinute _) _

theorem Lists.sweepBooked (h : Lists s) (m i : Nat) : Lists (sweepBooked m s i) := by
  unfold Machine.sweepBooked
  dsimp only
  split
  · next starts =>
    simp only [Bool.and_eq_true, beq_iff_eq] at starts
    exact h.verifiedDue starts.1
  · exact h.verifyEntry i

@[simp] theorem Lists.sweepTable (h : Lists s) (m : Nat) : Lists (sweepTable m s) :=
  (h.foldl (fun _ i ht => ht.recurTimetable _ i) _).foldl (fun _ i ht => ht.sweepBooked m i) _

theorem Lists.rewriteTideHold (h : Lists s) (i : Nat) : Lists (rewriteTideHold s i) := by
  have read := h.verifyEntry i
  unfold Machine.rewriteTideHold
  dsimp only
  split
  · exact read.write_same rfl rfl
  · exact read

@[simp] theorem Lists.rewriteTideHolds (h : Lists s) : Lists (rewriteTideHolds s) :=
  h.foldl (fun _ i ht => ht.rewriteTideHold i) s.table.dueList

/-! ## The reads of a request -/

@[simp] theorem Lists.readForDuplicate (h : Lists s) (id : List Byte) (d : Direction) :
    Lists (readForDuplicate id d s) := by
  have read := h.verifyEntries allIndexes
  unfold Machine.readForDuplicate
  dsimp only
  split
  · exact read.verifyGeneration _
  · exact read

theorem Lists.readTags (h : Lists s) (p : Entry → Bool) (l : List Nat) (n : Nat) : Lists (readTags p l n s).1 := by
  induction l generalizing s n with
  | nil => exact h
  | cons i l ih =>
    cases n with
    | zero => exact h
    | succ n =>
      have read := h.verifyEntry i
      unfold Machine.readTags
      dsimp only
      split
      · split
        · exact ih (read.verifyGeneration i) n
        · exact ih (read.verifyGeneration i) (n + 1)
      · exact ih read (n + 1)

theorem Lists.readFirst (h : Lists s) (p : Entry → Bool) (l : List Nat) : Lists (readFirst p l s).1 := by
  induction l generalizing s with
  | nil => exact h
  | cons i l ih =>
    unfold Machine.readFirst
    dsimp only
    split
    · exact h.verifyEntry i
    · exact ih (h.verifyEntry i)

/-- What the check of a tag leaves: the lists in order and, where it finds a record, that record read (R4). -/
theorem Lists.checkTag (h : Lists s) (i g : Nat) : Lists (checkTag i g s).1 ∧ ((checkTag i g s).2 = none →
    (entryAt (checkTag i g s).1 i).state ≠ .vacant ∧ (entryAt (checkTag i g s).1 i).codeGood = true) := by
  have gens := h.verifyGeneration i
  have read := gens.verifyEntry i
  unfold Machine.checkTag
  dsimp only
  split
  · exact ⟨h, nofun⟩
  split
  · exact ⟨h, nofun⟩
  split
  · exact ⟨gens, nofun⟩
  split
  · exact ⟨read, nofun⟩
  · next held => exact ⟨read, fun _ => ⟨by simpa using held, good_verifyEntry gens.entries i⟩⟩

/-! ## The allocation (R13, R17) -/

/-- What an allocation leaves: the lists in order, and the entry found is one of the list, VACANT. -/
theorem Lists.allocate (h : Lists s) (l : List Nat) : Lists (allocate l s).1 ∧
    ∀ i, (allocate l s).2 = some i → i ∈ l ∧ (entryAt (allocate l s).1 i).state = .vacant := by
  induction l generalizing s with
  | nil => exact ⟨h, nofun⟩
  | cons j l ih =>
    have read := h.verifyEntry j
    have gens := read.verifyGeneration j
    unfold Machine.allocate
    dsimp only
    split
    · split
      · next vacant =>
        refine ⟨gens, ?_⟩
        rintro i ⟨⟩
        exact ⟨List.mem_cons_self, beq_iff_eq.1 vacant⟩
      · exact ⟨(ih gens).1, fun i hi => ((ih gens).2 i hi).imp_left (List.mem_cons_of_mem j)⟩
    · exact ⟨(ih read).1, fun i hi => ((ih read).2 i hi).imp_left (List.mem_cons_of_mem j)⟩

/-- What the search for the earliest entry in a state leaves: the lists in order, and the entry found is in it. -/
theorem Lists.earliestIn (h : Lists s) (st : EntryState) (l : List Nat) : Lists (earliestIn st l s).1 ∧
    ∀ i, (earliestIn st l s).2 = some i → i ∈ l ∧ (entryAt (earliestIn st l s).1 i).state = st := by
  induction l generalizing s with
  | nil => exact ⟨h, nofun⟩
  | cons j l ih =>
    have read := h.verifyEntry j
    have gens := read.verifyGeneration j
    unfold Machine.earliestIn
    dsimp only
    split
    · split
      · next found =>
        refine ⟨gens, ?_⟩
        rintro i ⟨⟩
        exact ⟨List.mem_cons_self, beq_iff_eq.1 found⟩
      · exact ⟨(ih gens).1, fun i hi => ((ih gens).2 i hi).imp_left (List.mem_cons_of_mem j)⟩
    · exact ⟨(ih read).1, fun i hi => ((ih read).2 i hi).imp_left (List.mem_cons_of_mem j)⟩

theorem retireEntry_vacant (hi : i < s.table.entries.length) : (entryAt (retireEntry i s) i).state = .vacant := by
  simp [entryAt, retireEntry_table, hi, Entry.vacant]

theorem overwriteArrival_vacant (hi : i < s.table.entries.length) :
    (entryAt (overwriteArrival i s) i).state = .vacant := by
  simp [entryAt, overwriteArrival_table, retireEntry_table, hi, Entry.vacant]

/-- An entry found for a posting: an arrival entry that is VACANT. -/
def FreeArrival (s : State) (i : Nat) : Prop := s.table.qb ≤ i ∧ i < 64 ∧ (entryAt s i).state = .vacant

theorem Lists.arrival_of_mem (h : Lists s) (hi : i ∈ s.table.arrivalOrder) : s.table.qb ≤ i ∧ i < 64 := by
  obtain ⟨hq, hi, -⟩ := (Ranked.mem_arrivals h i).1 hi
  exact ⟨hq, hi⟩

theorem Lists.freeRetired (h : Lists s) (hq : s.table.qb ≤ i) (hi : i < 64) :
    Lists (Machine.retireEntry i s) ∧ FreeArrival (Machine.retireEntry i s) i :=
  ⟨h.retireEntry hi, (bounds_of_outer (outer_retireEntry i s)).2 ▸ hq, hi, retireEntry_vacant (h.entries ▸ hi)⟩

theorem Lists.freeOverwritten (h : Lists s) (hq : s.table.qb ≤ i) (hi : i < 64) :
    Lists (Machine.overwriteArrival i s) ∧ FreeArrival (Machine.overwriteArrival i s) i :=
  ⟨h.overwriteArrival hi, hq, hi, overwriteArrival_vacant (h.entries ▸ hi)⟩

/-- The earliest entry of the arrival order in a state is an arrival entry (R17). -/
theorem Lists.earliestArrival (h : Lists s) (st : EntryState)
    (found : (Machine.earliestIn st s.table.arrivalOrder s).2 = some i) :
    (Machine.earliestIn st s.table.arrivalOrder s).1.table.qb ≤ i ∧ i < 64 := by
  rw [(bounds_of_outer (outer_earliestIn st s.table.arrivalOrder s)).2]
  exact h.arrival_of_mem ((h.earliestIn st s.table.arrivalOrder).2 i found).1

/-- A posting's allocation: the lists in order, and the entry found is a VACANT arrival entry (R17). -/
theorem Lists.allocateArrival (h : Lists s) : Lists (allocateArrival s).1 ∧
    ∀ i, (allocateArrival s).2 = some i → FreeArrival (allocateArrival s).1 i := by
  obtain ⟨lists₁, free⟩ := h.allocate (regionOf s.table .arrival)
  have same := (bounds_of_outer (outer_allocate (regionOf s.table .arrival) s)).2
  unfold Machine.allocateArrival
  rcases found₁ : Machine.allocate (regionOf s.table .arrival) s with ⟨s₁, _ | i⟩
  all_goals rw [found₁] at lists₁ free same
  case some =>
    refine ⟨lists₁, ?_⟩
    rintro i ⟨⟩
    obtain ⟨inside, vacant⟩ := free i rfl
    have region : s.table.qb ≤ i ∧ i < 64 := by
      have qb_le := Ranked.qb_le h
      simp only [regionOf, Config.entryCount, List.mem_range'_1] at inside
      omega
    exact ⟨same.trans_le region.1, region.2, vacant⟩
  have lists₂ := (lists₁.earliestIn .concluded s₁.table.arrivalOrder).1
  have arrival₂ := fun i => lists₁.earliestArrival (i := i) .concluded
  dsimp only
  rcases found₂ : Machine.earliestIn .concluded s₁.table.arrivalOrder s₁ with ⟨s₂, _ | i⟩
  all_goals rw [found₂] at lists₂ arrival₂
  case some =>
    obtain ⟨lists, retired⟩ := lists₂.freeRetired (arrival₂ i rfl).1 (arrival₂ i rfl).2
    refine ⟨lists, ?_⟩
    rintro i ⟨⟩
    exact retired
  have lists₃ := (lists₂.earliestIn .due s₂.table.arrivalOrder).1
  have arrival₃ := fun i => lists₂.earliestArrival (i := i) .due
  dsimp only
  rcases found₃ : Machine.earliestIn .due s₂.table.arrivalOrder s₂ with ⟨s₃, _ | i⟩
  all_goals rw [found₃] at lists₃ arrival₃
  case some =>
    obtain ⟨lists, overwritten⟩ := lists₃.freeOverwritten (arrival₃ i rfl).1 (arrival₃ i rfl).2
    refine ⟨lists, ?_⟩
    rintro i ⟨⟩
    exact overwritten
  exact ⟨lists₃, nofun⟩

/-! ## Records stored (R13 to R16) -/

theorem joined_state {place : List Nat → List Nat} {e : Entry} (hi : i < s.table.entries.length) :
    (entryAt (joinDue place (writeEntry i e s)) i).state = e.state := by
  have written := congrArg Entry.state (entryAt_writeEntry i e s hi)
  unfold entryAt at written ⊢
  rw [joinDue_table]
  exact written

theorem becomeDue_state {c : BitVec 16} {a : Option Nat} (h : Ranked (.at c) none a s.table) (hi : i < 64) :
    (entryAt (becomeDue i s) i).state = .due := by
  unfold becomeDue
  dsimp only
  rw [joined_state (by rwa [h.advanceCounter.entries])]

/-- A record is stored in a VACANT entry: it joins the lists of its state, and an arrival entry is on its way into the
arrival order. -/
theorem Lists.storeRecord (h : Lists s) (hi : i < 64) (vacant : (entryAt s i).state = .vacant) {e : Entry}
    (pending : e.state = .pending) (due : Bool) : Ranked (.at (storeRecord due i e s).table.counter) none
      (if s.table.qb ≤ i then some i else none) (storeRecord due i e s).table := by
  have stored : Ranked (.at s.table.counter) none (if s.table.qb ≤ i then some i else none)
      (writeEntry i e s).table := Ranked.store h hi rfl vacant pending
  have entry : entryAt (writeEntry i e s) i = { e with codeGood := true } := entryAt_writeEntry i e s (h.entries ▸ hi)
  have counted : ∀ {c : BitVec 16} {u : State}, Ranked (.at c) none (if s.table.qb ≤ i then some i else none) u.table →
      Ranked (.at u.table.counter) none (if s.table.qb ≤ i then some i else none) u.table := fun {c u} hu => by
    have counter : u.table.counter = c := hu.counter
    rwa [counter]
  unfold Machine.storeRecord
  dsimp only
  split
  · exact counted (stored.becomeDue (by rw [entry, pending]) (by rw [entry]))
  · exact counted stored

theorem Lists.storeRecord_of_region (h : Lists s) (region : i < s.table.qb) (vacant : (entryAt s i).state = .vacant)
    {e : Entry} (pending : e.state = .pending) (due : Bool) : Lists (Machine.storeRecord due i e s) := by
  have stored := h.storeRecord (region.trans_le h.qb_le) vacant pending due
  rw [if_neg (not_le.2 region)] at stored
  exact stored

/-- The record of a posting joins both lists (R16). -/
theorem Lists.storeArrival (h : Lists s) (free : FreeArrival s i) {e : Entry} (pending : e.state = .pending) :
    Lists (mapTable (fun t => { t with arrivalOrder := t.arrivalOrder ++ [i] }) (Machine.storeRecord true i e s)) := by
  obtain ⟨hq, hi, vacant⟩ := free
  have stored := h.storeRecord hi vacant pending true
  have bounds := (bounds_of_outer (outer_storeRecord true i e s)).2
  rw [if_pos hq] at stored
  have written : Ranked (.at s.table.counter) none (if s.table.qb ≤ i then some i else none)
      (writeEntry i e s).table := Ranked.store h hi rfl vacant pending
  have held : (entryAt (Machine.storeRecord true i e s) i).state ≠ .vacant := by
    rw [storeRecord_due, becomeDue_state written hi]
    exact nofun
  exact Ranked.lists (c := (Machine.storeRecord true i e s).table.counter) (stored.arrive hi (bounds.trans_le hq) held)

end Sys2Proof.Machine
end


section
/-!
O11, the machine: every operation up to the consequences of a change keeps the lists of the table in order.
-/

namespace Sys2Proof.Machine

/-! ## Folds and the changes asked for a slot -/

theorem lists_foldl {α : Type} {f : State → α → State} (keeps : ∀ s x, Lists s → Lists (f s x)) (l : List α) (s : State)
    (inOrder : Lists s) : Lists (l.foldl f s) := inOrder.foldl keeps l

theorem lists_foldl_fst {α β : Type} {f : State × β → α → State × β}
    (keeps : ∀ acc x, Lists acc.1 → Lists (f acc x).1) (l : List α) (acc : State × β) (inOrder : Lists acc.1) :
    Lists (l.foldl f acc).1 :=
  List.foldlRecOn l f (motive := fun acc => Lists acc.1) inOrder fun acc h x _ => keeps acc x h

@[simp] theorem lists_raiseControl (x : ControlSource) (s : State) (inOrder : Lists s) : Lists (raiseControl x s) :=
  inOrder.of_table rfl

@[simp] theorem lists_raiseHarbour (x : HarbourSource) (s : State) (inOrder : Lists s) : Lists (raiseHarbour x s) :=
  inOrder.of_table rfl

@[simp] theorem lists_mapOpening (f : Opening → Opening) (s : State) (inOrder : Lists s) : Lists (mapOpening f s) :=
  inOrder.of_table rfl

@[simp] theorem lists_mapSlot (n : Nat) (f : Slot → Slot) (s : State) (inOrder : Lists s) : Lists (mapSlot n f s) :=
  inOrder.of_table rfl

@[simp] theorem lists_mapChannel (f : Channel → Channel) (s : State) (inOrder : Lists s) : Lists (mapChannel f s) :=
  inOrder.of_table rfl

@[simp] theorem lists_mapPlanner (f : Planner → Planner) (s : State) (inOrder : Lists s) : Lists (mapPlanner f s) :=
  inOrder.of_table rfl

@[simp] theorem lists_mapDrive (f : Drive → Drive) (s : State) (inOrder : Lists s) : Lists (mapDrive f s) :=
  inOrder.of_table rfl

@[simp] theorem lists_mapSeq (f : Sequence → Sequence) (s : State) (inOrder : Lists s) : Lists (mapSeq f s) :=
  inOrder.of_table rfl

@[simp] theorem lists_addCause (c : FaultCause) (s : State) (inOrder : Lists s) : Lists (addCause c s) :=
  inOrder.of_table rfl

@[simp] theorem lists_setArm (a : Arm) (r : ArmRecord) (s : State) (inOrder : Lists s) : Lists (setArm a r s) :=
  inOrder.of_table rfl

@[simp] theorem lists_loseSlot (i : Nat) (s : State) (inOrder : Lists s) : Lists (loseSlot i s) :=
  inOrder.of_table rfl

@[simp] theorem lists_rewriteLifts (s : State) (inOrder : Lists s) : Lists (rewriteLifts s) := inOrder.of_table rfl

@[simp] theorem lists_storeTarget (t : Int) (s : State) (inOrder : Lists s) : Lists (storeTarget t s) :=
  inOrder.of_table rfl

theorem lists_askSlot (c : Change) (serial : Nat) (s : State) (inOrder : Lists s) : Lists (askSlot c serial s).1 := by
  unfold askSlot
  split
  · exact inOrder
  split
  · exact inOrder
  next i _ =>
    have asked := inOrder.ask c i
    split
    all_goals
      rename_i h
      rw [h] at asked
    · exact asked
    · exact lists_loseSlot i _ asked
    · exact asked

theorem lists_withAsked (c : Change) (serial : Nat) (f : State → State) (keeps : ∀ s, Lists s → Lists (f s)) (s : State)
    (inOrder : Lists s) : Lists (withAsked c serial f s) := by
  have asked := lists_askSlot c serial s inOrder
  unfold withAsked
  split
  all_goals
    rename_i h
    rw [h] at asked
  · exact keeps _ asked
  · exact asked

/-! ## Slots -/

@[simp] theorem lists_leaveZone (serial : Nat) (s : State) (inOrder : Lists s) : Lists (leaveZone serial s) :=
  inOrder.of_table rfl

@[simp] theorem lists_reportIfLost (x : Slot) (s : State) (inOrder : Lists s) : Lists (reportIfLost x s) :=
  inOrder.of_table (by simp)

@[simp] theorem lists_finishSlot (serial : Nat) (o : PassageOutcome) (s : State) (inOrder : Lists s) :
    Lists (finishSlot serial o s) := by
  unfold finishSlot
  split <;> simp (maxDischargeDepth := 12) [inOrder]

@[simp] theorem lists_removeSlot (serial : Nat) (s : State) (inOrder : Lists s) :
    Lists (removeSlot serial s) :=
  inOrder.of_table (by simp)

@[simp] theorem lists_countReturned (s : State) (inOrder : Lists s) : Lists (countReturned s) :=
  inOrder.of_table rfl

@[simp] theorem lists_countWithdrawn (s : State) (inOrder : Lists s) : Lists (countWithdrawn s) :=
  inOrder.of_table rfl

@[simp] theorem lists_returnSlot (named : Bool) (serial : Nat) (s : State) (inOrder : Lists s) :
    Lists (returnSlot named serial s) :=
  lists_withAsked _ _ _ (fun s inOrder => by simp (maxDischargeDepth := 12) [inOrder]) s inOrder

@[simp] theorem lists_revertSlot (serial : Nat) (s : State) (inOrder : Lists s) : Lists (revertSlot serial s) :=
  lists_withAsked _ _ _ (fun s inOrder => by simp (maxDischargeDepth := 12) [inOrder]) s inOrder

@[simp] theorem lists_keepSlot (serial : Nat) (s : State) (inOrder : Lists s) : Lists (keepSlot serial s) :=
  inOrder.of_table rfl

@[simp] theorem lists_dropServing (s : State) (inOrder : Lists s) : Lists (dropServing s) :=
  inOrder.of_table rfl

@[simp] theorem lists_stopSlot (s : State) (x : Slot) (inOrder : Lists s) : Lists (stopSlot s x) := by
  unfold stopSlot
  (repeat' split) <;> simp (maxDischargeDepth := 12) [inOrder]

@[simp] theorem lists_stopServing (s : State) (inOrder : Lists s) : Lists (stopServing s) :=
  lists_foldl (fun s x => lists_stopSlot s x) _ _ (lists_mapChannel _ _ (lists_dropServing s inOrder))

@[simp] theorem lists_closeSlot (s : State) (x : Slot) (inOrder : Lists s) : Lists (closeSlot s x) := by
  unfold closeSlot
  (repeat' split) <;> simp (maxDischargeDepth := 12) [inOrder]

@[simp] theorem lists_setClosingCall (cause : ClosingCause) (s : State) (inOrder : Lists s) :
    Lists (setClosingCall cause s) := by
  unfold setClosingCall
  split
  · exact inOrder
  · split
    · exact inOrder
    · refine lists_foldl (fun s x => lists_closeSlot s x) _ _ (lists_mapChannel _ _ (lists_dropServing _ ?_))
      exact inOrder.of_table rfl

@[simp] theorem lists_checkAllDone (s : State) (inOrder : Lists s) : Lists (checkAllDone s) := by
  unfold checkAllDone
  (repeat' split) <;> simp (maxDischargeDepth := 12) [inOrder]

@[simp] theorem lists_giveProceed (d : Direction) (s : State) (inOrder : Lists s) :
    Lists (giveProceed d s) := by
  unfold giveProceed
  split
  · exact inOrder
  · exact lists_withAsked _ _ _ (fun s inOrder => lists_mapOpening _ s inOrder) s inOrder

@[simp] theorem lists_takeUp (s : State) (inOrder : Lists s) : Lists (takeUp s) := by
  unfold takeUp
  split <;> simp (maxDischargeDepth := 12) [inOrder]

@[simp] theorem lists_readStanding (s : State) (inOrder : Lists s) : Lists (readStanding s) :=
  inOrder.of_table rfl

@[simp] theorem lists_checkSlot (s : State) (x : Slot) (inOrder : Lists s) : Lists (checkSlot s x) :=
  inOrder.of_table (checkSlot_table s x)

@[simp] theorem lists_clearanceCheck (counted : Bool) (s : State) (inOrder : Lists s) :
    Lists (clearanceCheck counted s) :=
  (lists_foldl (fun s x => lists_checkSlot s x) (slots s) s inOrder).of_table rfl

@[simp] theorem lists_checkOneSlot (serial : Nat) (s : State) (inOrder : Lists s) :
    Lists (checkOneSlot serial s) :=
  inOrder.of_table (checkOneSlot_table serial s)

@[simp] theorem lists_waterAtChannel (s : State) (inOrder : Lists s) : Lists (waterAtChannel s) := by
  unfold waterAtChannel
  (repeat' split) <;> simp (maxDischargeDepth := 12) [inOrder]

@[simp] theorem lists_fillSlot (i : Nat) (s : State) (inOrder : Lists s) : Lists (fillSlot i s) :=
  inOrder.of_table rfl

@[simp] theorem lists_takeMember (number : BitVec 16) (i : Nat) (s : State) (inOrder : Lists s) :
    Lists (takeMember number i s).1 := by
  have asked := (inOrder.verifyGeneration i).ask (.assign number) i
  unfold takeMember
  split
  all_goals
    rename_i h
    rw [h] at asked
    exact asked

@[simp] theorem lists_considerJoin (s : State) (i : Nat) (inOrder : Lists s) : Lists (considerJoin s i) := by
  unfold considerJoin
  split
  · exact inOrder
  · dsimp only
    split
    · exact inOrder
    · split
      · next o _ _ _ =>
        have joined := lists_takeMember o.number i _ (inOrder.verifyEntry i)
        split
        all_goals
          rename_i h
          rw [h] at joined
        · split <;> simp [show Lists _ from joined]
        · exact joined
      · exact inOrder.verifyEntry i

@[simp] theorem lists_considerJoins (p : Nat → Bool) (s : State) (inOrder : Lists s) :
    Lists (considerJoins p s) :=
  lists_foldl (fun s i => lists_considerJoin s i) _ _ (inOrder.verifyEntries _)

theorem lists_selectEntry (number : BitVec 16) (acc : State × List Nat) (i : Nat) (inOrder : Lists acc.1) :
    Lists (selectEntry number acc i).1 := by
  unfold selectEntry
  split
  · exact inOrder
  · dsimp only
    (repeat' split)
    · exact inOrder.verifyEntry i
    · exact (inOrder.verifyEntry i).ask .notNeeded i
    all_goals
      rename_i h
      have joined := lists_takeMember number i _ (inOrder.verifyEntry i)
      rw [h] at joined
      exact joined

theorem lists_selectMembers (number : BitVec 16) (s : State) (inOrder : Lists s) :
    Lists (selectMembers number s).1 :=
  lists_foldl_fst (fun acc _ => lists_foldl_fst (lists_selectEntry number) _ acc) _ _ (inOrder.verifyEntries _)

@[simp] theorem lists_concludeSlot (o : PassageOutcome) (serial : Nat) (s : State) (inOrder : Lists s) :
    Lists (concludeSlot o serial s) :=
  lists_withAsked _ _ _ (fun s inOrder => by simp (maxDischargeDepth := 12) [inOrder]) s inOrder

@[simp] theorem lists_refreshMasts (s : State) (inOrder : Lists s) : Lists (refreshMasts s) :=
  inOrder.of_table rfl

/-! ## The road guard and the drive unit -/

@[simp] theorem lists_enterRed (a : Approach) (s : State) (inOrder : Lists s) : Lists (enterRed a s) :=
  inOrder.of_table (table_of_offRoad (by simp))

@[simp] theorem lists_enterDark (a : Approach) (s : State) (inOrder : Lists s) : Lists (enterDark a s) :=
  inOrder.of_table (table_of_offRoad (by simp))

@[simp] theorem lists_giveWarnings (s : State) (inOrder : Lists s) : Lists (giveWarnings s) :=
  inOrder.of_table (table_of_offRoad (by simp))

@[simp] theorem lists_takeWarnings (s : State) (inOrder : Lists s) : Lists (takeWarnings s) :=
  inOrder.of_table (table_of_offRoad (by simp))

@[simp] theorem lists_armFault (a : Arm) (why : ArmFaultReason) (s : State) (inOrder : Lists s) :
    Lists (armFault a why s) :=
  lists_raiseControl _ _ (lists_setArm _ _ s inOrder)

@[simp] theorem lists_commandDown (a : Arm) (s : State) (inOrder : Lists s) : Lists (commandDown a s) := by
  unfold commandDown
  dsimp only
  (repeat' split) <;> simp (maxDischargeDepth := 12) [inOrder]

@[simp] theorem lists_commandUp (a : Arm) (s : State) (inOrder : Lists s) : Lists (commandUp a s) := by
  unfold commandUp
  dsimp only
  (repeat' split) <;> simp (maxDischargeDepth := 12) [inOrder]

@[simp] theorem lists_dropRaising (s : State) (a : Arm) (inOrder : Lists s) : Lists (dropRaising s a) := by
  unfold dropRaising
  split <;> simp (maxDischargeDepth := 12) [inOrder]

@[simp] theorem lists_startMeasurement (reentry : Bool) (s : State) (inOrder : Lists s) :
    Lists (startMeasurement reentry s) :=
  inOrder.of_table (table_of_offRoad (by simp))

@[simp] theorem lists_dropMeasurement (s : State) (inOrder : Lists s) : Lists (dropMeasurement s) :=
  inOrder.of_table (table_of_offRoad (by simp))

@[simp] theorem lists_seatZeroing (s : State) (inOrder : Lists s) : Lists (seatZeroing s) :=
  inOrder.of_table (seatZeroing_table s)

@[simp] theorem lists_turnDown (s : State) (inOrder : Lists s) : Lists (turnDown s) :=
  inOrder.of_table rfl

@[simp] theorem lists_endMotion (s : State) (inOrder : Lists s) : Lists (endMotion s) :=
  inOrder.of_table rfl

@[simp] theorem lists_stopLocks (s : State) (inOrder : Lists s) : Lists (stopLocks s) :=
  inOrder.of_table rfl

@[simp] theorem lists_brakesSet (s : State) (inOrder : Lists s) : Lists (brakesSet s) :=
  inOrder.of_table rfl

@[simp] theorem lists_holdMotion (why : HoldReason) (s : State) (inOrder : Lists s) :
    Lists (holdMotion why s) :=
  inOrder.of_table rfl

@[simp] theorem lists_beginPhase (s : State) (inOrder : Lists s) : Lists (beginPhase s) := by
  unfold beginPhase
  (repeat' split) <;> simp (maxDischargeDepth := 12) [inOrder]

@[simp] theorem lists_startMotion (m : Motion) (dir : Vertical) (target : Option Int) (s : State) (inOrder : Lists s) :
    Lists (startMotion m dir target s) := by
  unfold startMotion
  simp (maxDischargeDepth := 12) [inOrder]

@[simp] theorem lists_endJog (s : State) (inOrder : Lists s) : Lists (endJog s) := by
  unfold endJog
  split <;> simp (maxDischargeDepth := 12) [inOrder]

@[simp] theorem lists_withdrawBolts (s : State) (inOrder : Lists s) : Lists (withdrawBolts s) :=
  inOrder.of_table rfl

@[simp] theorem lists_driveBolts (s : State) (inOrder : Lists s) : Lists (driveBolts s) :=
  inOrder.of_table rfl

@[simp] theorem lists_driveWaiting (s : State) (inOrder : Lists s) : Lists (driveWaiting s) :=
  inOrder.of_table rfl

/-! ## The sequence controller -/

@[simp] theorem lists_setSeq (st : SeqState) (s : State) (inOrder : Lists s) : Lists (setSeq st s) :=
  inOrder.of_table (by simp)

@[simp] theorem lists_startHoldOff (s : State) (inOrder : Lists s) : Lists (startHoldOff s) :=
  inOrder.of_table rfl

@[simp] theorem lists_clearSlot (s : State) (x : Slot) (inOrder : Lists s) : Lists (clearSlot s x) := by
  unfold clearSlot
  split
  · exact inOrder
  · exact lists_withAsked _ _ _ (fun s => lists_finishSlot _ _ s) s inOrder
  · exact lists_returnSlot _ _ s inOrder

@[simp] theorem lists_closeRecord (st : SeqState) (s : State) (inOrder : Lists s) : Lists (closeRecord st s) := by
  unfold closeRecord
  split <;> simp (maxDischargeDepth := 12) [inOrder]

@[simp] theorem lists_endOpening (st : SeqState) (s : State) (inOrder : Lists s) : Lists (endOpening st s) :=
  lists_closeRecord st _ (lists_foldl (fun s x => lists_clearSlot s x) _ s inOrder)

@[simp] theorem lists_enterDeckClearing (reentry : Bool) (s : State) (inOrder : Lists s) :
    Lists (enterDeckClearing reentry s) := by
  unfold enterDeckClearing
  simp (maxDischargeDepth := 12) [inOrder]

@[simp] theorem lists_startOpening (operator : Bool) (s : State) (inOrder : Lists s) :
    Lists (startOpening operator s) := by
  have selected := lists_selectMembers (s.seq.counter + 1) s inOrder
  unfold startOpening
  dsimp only
  split
  · exact selected
  · split
    · exact lists_enterDeckClearing _ _ (lists_mapChannel _ _ (lists_raiseHarbour _ _
        (lists_foldl (fun s i => lists_fillSlot i s) _ _ (lists_mapSeq _ _ selected))))
    · exact lists_giveWarnings _ (lists_setSeq _ _ (lists_mapChannel _ _ (lists_raiseHarbour _ _
        (lists_foldl (fun s i => lists_fillSlot i s) _ _ (lists_mapSeq _ _ selected)))))

@[simp] theorem lists_evaluateStart (s : State) (inOrder : Lists s) : Lists (evaluateStart s) := by
  unfold evaluateStart; dsimp only; split <;> simp (maxDischargeDepth := 12) [inOrder]

@[simp] theorem lists_dueEvent (candidates : List Nat) (s : State) (inOrder : Lists s) :
    Lists (dueEvent candidates s) := by
  unfold dueEvent
  (repeat' split) <;> simp (maxDischargeDepth := 12) [inOrder]

@[simp] theorem lists_enterRoadOpen (s : State) (inOrder : Lists s) : Lists (enterRoadOpen s) := by
  unfold enterRoadOpen
  simp (maxDischargeDepth := 12) [inOrder]

@[simp] theorem lists_enterRoadClosed (s : State) (inOrder : Lists s) : Lists (enterRoadClosed s) := by
  unfold enterRoadClosed
  simp (maxDischargeDepth := 12) [inOrder]

@[simp] theorem lists_enterExitClosing (s : State) (inOrder : Lists s) : Lists (enterExitClosing s) := by
  unfold enterExitClosing
  simp (maxDischargeDepth := 12) [inOrder]

@[simp] theorem lists_enterWindWait (s : State) (inOrder : Lists s) : Lists (enterWindWait s) := by
  unfold enterWindWait
  simp (maxDischargeDepth := 12) [inOrder]

@[simp] theorem lists_enterUnlocking (s : State) (inOrder : Lists s) : Lists (enterUnlocking s) := by
  unfold enterUnlocking
  simp (maxDischargeDepth := 12) [inOrder]

@[simp] theorem lists_enterLocking (s : State) (inOrder : Lists s) : Lists (enterLocking s) := by
  unfold enterLocking
  simp (maxDischargeDepth := 12) [inOrder]

@[simp] theorem lists_raiseArm (a : Arm) (s : State) (inOrder : Lists s) : Lists (raiseArm a s) := by
  unfold raiseArm
  split <;> simp (maxDischargeDepth := 12) [inOrder]

@[simp] theorem lists_enterBarriersRaising (s : State) (inOrder : Lists s) :
    Lists (enterBarriersRaising s) := by
  unfold enterBarriersRaising
  simp (maxDischargeDepth := 12) [inOrder]

@[simp] theorem lists_enterRaised (s : State) (inOrder : Lists s) : Lists (enterRaised s) := by
  unfold enterRaised
  dsimp only
  (repeat' split) <;> simp (maxDischargeDepth := 12) [inOrder]

@[simp] theorem lists_reportFault (c : FaultCause) (s : State) (inOrder : Lists s) :
    Lists (reportFault c s) := by
  unfold reportFault; (repeat' split) <;> simp (maxDischargeDepth := 12) [inOrder]

@[simp] theorem lists_foundFaults (l : List FaultCause) (s : State) (inOrder : Lists s) :
    Lists (foundFaults l s) := by
  unfold foundFaults
  split
  · exact inOrder
  · exact lists_foldl (fun s c => lists_reportFault c s) _ _ (lists_endMotion s inOrder)

@[simp] theorem lists_targetReached (s : State) (inOrder : Lists s) : Lists (targetReached s) := by
  unfold targetReached
  split <;> simp (maxDischargeDepth := 12) [inOrder]

@[simp] theorem lists_seatsReached (s : State) (inOrder : Lists s) : Lists (seatsReached s) := by
  unfold seatsReached
  split <;> simp (maxDischargeDepth := 12) [inOrder]

@[simp] theorem lists_raiseSpan (s : State) (inOrder : Lists s) : Lists (raiseSpan s) := by
  unfold raiseSpan
  (repeat' split) <;> simp (maxDischargeDepth := 12) [inOrder]

@[simp] theorem lists_lowerSpan (s : State) (inOrder : Lists s) : Lists (lowerSpan s) := by
  unfold lowerSpan
  (repeat' split) <;> simp (maxDischargeDepth := 12) [inOrder]

@[simp] theorem lists_descend (s : State) (inOrder : Lists s) : Lists (descend s) := by
  unfold descend
  (repeat' split) <;> simp (maxDischargeDepth := 12) [inOrder]

@[simp] theorem lists_enterLifting (s : State) (inOrder : Lists s) : Lists (enterLifting s) := by
  unfold enterLifting
  simp (maxDischargeDepth := 12) [inOrder]

@[simp] theorem lists_enterLowering (s : State) (inOrder : Lists s) : Lists (enterLowering s) := by
  unfold enterLowering
  simp (maxDischargeDepth := 12) [inOrder]

@[simp] theorem lists_leaveExitClosing (s : State) (inOrder : Lists s) : Lists (leaveExitClosing s) := by
  unfold leaveExitClosing
  (repeat' split) <;> simp (maxDischargeDepth := 12) [inOrder]

@[simp] theorem lists_leaveLocking (s : State) (inOrder : Lists s) : Lists (leaveLocking s) := by
  unfold leaveLocking
  (repeat' split) <;> simp (maxDischargeDepth := 12) [inOrder]

@[simp] theorem lists_takeRelift (s : State) (inOrder : Lists s) : Lists (takeRelift s) := by
  unfold takeRelift
  split
  · exact inOrder
  · have returned := lists_foldl (fun s (x : Slot) => lists_returnSlot true x.serial s)
      ((openSlots (rewriteLifts s)).filter (fun x => decide (s.params.maxLift < x.lift))) _
      (lists_rewriteLifts s inOrder)
    dsimp only
    (repeat' split) <;> simp (maxDischargeDepth := 12) [returned]

@[simp] theorem lists_followSecure (s : State) (inOrder : Lists s) : Lists (followSecure s) := by
  have judged : Lists { s with guard := { s.guard with seatedLocked := spanSecure s } } := inOrder.of_table rfl
  have dropped := lists_foldl (fun s a => lists_dropRaising s a) allArms _ judged
  unfold followSecure
  dsimp only
  (repeat' split)
  · exact judged
  · exact dropped
  · exact lists_foundFaults _ _ dropped

@[simp] theorem lists_followArms (s : State) (inOrder : Lists s) : Lists (followArms s) := by
  unfold followArms
  dsimp only
  split <;> simp (maxDischargeDepth := 12) [inOrder]

@[simp] theorem lists_followChannel (s : State) (inOrder : Lists s) : Lists (followChannel s) := by
  unfold followChannel
  dsimp only
  (repeat' split) <;> simp (maxDischargeDepth := 12) [inOrder]

@[simp] theorem lists_followBolts (s : State) (inOrder : Lists s) : Lists (followBolts s) := by
  unfold followBolts
  split <;> simp (maxDischargeDepth := 12) [inOrder]

@[simp] theorem lists_followRed (a : Approach) (s : State) (inOrder : Lists s) : Lists (followRed a s) := by
  unfold followRed
  split <;> simp (maxDischargeDepth := 12) [inOrder]

@[simp] theorem lists_followClearTimer (s : State) (inOrder : Lists s) : Lists (followClearTimer s) :=
  inOrder.of_table rfl

@[simp] theorem lists_followServing (s : State) (inOrder : Lists s) : Lists (followServing s) := by
  unfold followServing
  split <;> simp (maxDischargeDepth := 12) [inOrder]

@[simp] theorem lists_followServed (s : State) (inOrder : Lists s) : Lists (followServed s) := by
  unfold followServed
  split <;> simp (maxDischargeDepth := 12) [inOrder]

@[simp] theorem lists_followOwed (s : State) (inOrder : Lists s) : Lists (followOwed s) := by
  unfold followOwed
  split <;> simp (maxDischargeDepth := 12) [inOrder]

@[simp] theorem lists_requestRelift (s : State) (inOrder : Lists s) : Lists (requestRelift s) := by
  unfold requestRelift
  dsimp only
  split <;> simp (maxDischargeDepth := 12) [inOrder]

@[simp] theorem lists_advancePhase (s : State) (inOrder : Lists s) : Lists (advancePhase s) := by
  unfold advancePhase
  (repeat' split) <;> simp (maxDischargeDepth := 12) [inOrder]

@[simp] theorem lists_countMinute (s : State) (inOrder : Lists s) : Lists (countMinute s) :=
  inOrder.of_table rfl

@[simp] theorem lists_minuteEvent (s : State) (inOrder : Lists s) : Lists (minuteEvent s) := by
  unfold minuteEvent withDueEvent
  dsimp only
  split <;> simp (maxDischargeDepth := 12) [inOrder]

@[simp] theorem lists_waterAtPlanner (s : State) (inOrder : Lists s) : Lists (waterAtPlanner s) := by
  unfold waterAtPlanner
  dsimp only
  (repeat' split) <;> simp (maxDischargeDepth := 12) [inOrder]

@[simp] theorem lists_waterEvent (s : State) (inOrder : Lists s) : Lists (waterEvent s) := by
  unfold waterEvent
  split <;> simp (maxDischargeDepth := 12) [inOrder]

/-! ## The loop of consequences -/

theorem lists_firstRule (l : List (State → Option State))
    (keeps : ∀ r ∈ l, ∀ s t, r s = some t → Lists s → Lists t) {s t : State}
    (h : firstRule l s = some t) (inOrder : Lists s) : Lists t := by
  induction l with
  | nil => cases h
  | cons r rest ih =>
    unfold firstRule at h
    split at h
    · next u hu =>
      cases h
      exact keeps r (by simp) s _ hu inOrder
    · exact ih (fun r' hr => keeps r' (by simp [hr])) h

theorem lists_whenever (c : State → Bool) (f : State → State) (keeps : ∀ s, Lists s → Lists (f s))
    (s t : State) (h : whenever c f s = some t) (inOrder : Lists s) : Lists t := by
  unfold whenever at h
  split at h
  · cases h
    exact keeps s inOrder
  · cases h

theorem lists_follow {s t : State} (h : follow s = some t) (inOrder : Lists s) : Lists t := by
  refine lists_firstRule followRules (fun r hr => ?_) h inOrder
  simp only [followRules, List.mem_cons, List.not_mem_nil, or_false] at hr
  rcases hr with rfl | rfl | rfl | rfl | rfl | rfl | rfl | rfl | rfl | rfl | rfl | rfl | rfl | rfl | rfl | rfl <;>
    exact lists_whenever _ _ fun s inOrder => by simp (maxDischargeDepth := 12) [inOrder]

theorem lists_iterate (n : Nat) (s : State) (inOrder : Lists s) : Lists (iterate follow n s) := by
  induction n generalizing s with
  | zero => exact inOrder
  | succ n ih =>
    unfold iterate
    split
    · exact inOrder
    · next t ht => exact ih t (lists_follow ht inOrder)

@[simp] theorem lists_keepInterlocks (s : State) (inOrder : Lists s) : Lists (keepInterlocks s) := by
  unfold keepInterlocks
  (repeat' split) <;> simp (maxDischargeDepth := 12) [inOrder]

/-- The lists are in order after the consequences of a change where they are in order before them. -/
@[simp] theorem lists_settle (s : State) (inOrder : Lists s) : Lists (settle s) :=
  (lists_keepInterlocks _ (lists_iterate _ s inOrder)).of_table rfl

end Sys2Proof.Machine
end


section
/-!
O11, the commands' own operations: the sequence requests, the road and lift events, the crossings, the clock.
-/

namespace Sys2Proof.Machine

variable {s : State}

theorem Lists.of_offRoad {t : State} (h : Lists s) (same : offRoad t = offRoad s) : Lists t :=
  h.of_table (table_of_offRoad same)

theorem Lists.of_offBarriers {t : State} (h : Lists s) (same : offBarriers t = offBarriers s) : Lists t :=
  h.of_table (congrArg (·.table) same :)

@[simp] theorem lists_setApproach (a : Approach) (r : ApproachRecord) (s : State) (inOrder : Lists s) :
    Lists (setApproach a r s) := inOrder.of_table rfl

@[simp] theorem lists_setPort (p : Port) (r : PortRecord) (s : State) (inOrder : Lists s) : Lists (setPort p r s) :=
  inOrder.of_table rfl

@[simp] theorem lists_mapClock (f : Clock → Clock) (s : State) (inOrder : Lists s) : Lists (mapClock f s) :=
  inOrder.of_table rfl

@[simp] theorem lists_elapse (n : Nat) (s : State) (inOrder : Lists s) : Lists (elapse n s) := inOrder.of_table rfl

/-! ## The sequence requests -/

theorem haltArm_table (s : State) (a : Arm) : (haltArm s a).table = s.table := by
  unfold haltArm
  dsimp only
  split <;> rfl

@[simp] theorem lists_enterHalted (s : State) (inOrder : Lists s) : Lists (enterHalted s) := by
  have halted : Lists (pauseGuard (stopServing (allArms.foldl haltArm (brakesSet s)))) :=
    Lists.of_table (lists_stopServing _
      (inOrder.of_table (foldl_keeps State.table haltArm_table allArms (brakesSet s)))) rfl
  unfold enterHalted
  dsimp only
  exact lists_raiseControl _ _ (lists_mapSeq _ _ (lists_setSeq _ _ halted))

@[simp] theorem lists_demandHalt (s : State) (inOrder : Lists s) : Lists (demandHalt s) := by
  unfold demandHalt
  split <;> simp [inOrder]

@[simp] theorem lists_mayClose (a : Approach) (s : State) (inOrder : Lists s) : Lists (mayClose a s) := by
  unfold mayClose
  dsimp only
  split <;> simp (maxDischargeDepth := 4) [inOrder]

@[simp] theorem lists_completeCount (a : Approach) (s : State) (inOrder : Lists s) : Lists (completeCount a s) := by
  unfold completeCount
  dsimp only
  split <;> simp [inOrder]

@[simp] theorem lists_abandonWind (cause : ClosingCause) (s : State) (inOrder : Lists s) :
    Lists (abandonWind cause s) := by
  unfold abandonWind
  dsimp only
  split <;> simp [inOrder]

@[simp] theorem lists_endRoadPriority (s : State) (inOrder : Lists s) : Lists (endRoadPriority s) := by
  unfold endRoadPriority
  dsimp only
  split <;> simp [inOrder]

@[simp] theorem lists_setRoadPriority (s : State) (inOrder : Lists s) : Lists (setRoadPriority s) :=
  inOrder.of_table rfl

@[simp] theorem lists_giveUpClosure (cause : ClosingCause) (s : State) (inOrder : Lists s) :
    Lists (giveUpClosure cause s) := by
  have given : Lists (if s.seq.opening.isSome then setClosingCall cause s
      else mapSeq (fun q => { q with roadClosedByOperator := false, closureOrigin := none }) s) := by
    split <;> simp [inOrder]
  unfold giveUpClosure
  dsimp only
  generalize (if s.seq.opening.isSome then setClosingCall cause s else _ : State) = t at given ⊢
  split
  · simp [given]
  split <;> simp [given]

@[simp] theorem lists_askDescent (s : State) (inOrder : Lists s) : Lists (askDescent s) := by
  simp [askDescent, inOrder]

@[simp] theorem lists_closeRoad (origin : ClosureOrigin) (s : State) (inOrder : Lists s) :
    Lists (closeRoad origin s) := by
  simp (maxDischargeDepth := 4) [closeRoad, inOrder]

@[simp] theorem lists_recommandEntry (a : Approach) (s : State) (inOrder : Lists s) : Lists (recommandEntry a s) := by
  unfold recommandEntry
  split <;> simp [inOrder]

@[simp] theorem lists_reenter (p : SeqState) (s : State) (inOrder : Lists s) : Lists (reenter p s) := by
  have left : Lists (mapSeq (fun q => { q with heldPhase := none }) (leaveHalt s)) := inOrder.of_table rfl
  unfold reenter
  dsimp only
  (repeat' split) <;> simp (maxDischargeDepth := 6) [left]

@[simp] theorem lists_resumePhase (s : State) (inOrder : Lists s) : Lists (resumePhase s) := by
  unfold resumePhase
  split <;> simp [inOrder]

@[simp] theorem lists_startRecovery (s : State) (inOrder : Lists s) : Lists (startRecovery s) := by
  simp (maxDischargeDepth := 4) [startRecovery, inOrder]

@[simp] theorem lists_configure (s : State) (inOrder : Lists s) : Lists (configure s) := by
  have braked : Lists (brakesSet { s with mode := .configuring }) := inOrder.of_table rfl
  exact lists_takeWarnings _ ((lists_setSeq .inactive _ braked).of_table (configureColumns_table _))

@[simp] theorem lists_tellPlanner (st : SeqState) (s : State) (inOrder : Lists s) : Lists (tellPlanner st s) := by
  unfold tellPlanner
  split <;> simp [inOrder]

@[simp] theorem lists_commission (s : State) (inOrder : Lists s) : Lists (commission s) := by
  have entered : Lists (commissioned s) := inOrder.of_table (commissioned_table s)
  rw [commission_eq]
  split
  · exact lists_enterHalted _ entered
  · exact lists_tellPlanner _ _ entered

@[simp] theorem lists_applyParameter (n : ParameterName) (old v : Int) (s : State) (inOrder : Lists s) :
    Lists (applyParameter n old v s) := by
  have refreshed : Lists (refreshQueueCritical s) := inOrder.of_table (refreshQueueCritical_table s)
  have water : Lists (waterEvent (recomputeLevel s)) := lists_waterEvent _ (inOrder.of_table rfl)
  have holdOff : Lists (applyHoldOff s) := by
    unfold applyHoldOff
    (repeat' split) <;> simp [inOrder]
  cases n
  case conclusionHold =>
    unfold applyParameter
    dsimp only
    split <;> simp [inOrder]
  case closedClearance | margin | tideAllowance | maxLift | highWater | gaugeMargin => exact water
  case roadHoldOff => exact holdOff
  case queueCriticalLevel => exact refreshed
  all_goals exact inOrder.of_table rfl

/-! ## The samples and the edges -/

@[simp] theorem lists_sampleBolts (s : State) (inOrder : Lists s) : Lists (sampleBolts s) := by
  have sampled : Lists (boltsSample (filtered s) s) := inOrder.of_table rfl
  unfold sampleBolts
  dsimp only
  (repeat' split) <;> simp [sampled]

@[simp] theorem lists_sampleArms (first : Bool) (s : State) (inOrder : Lists s) : Lists (sampleArms first s) := by
  have walked := Lists.of_offBarriers inOrder
    (foldl_keeps offBarriers (fun t a => offBarriers_armSample (filtered s) t a) allArms s)
  unfold sampleArms
  dsimp only
  split
  · exact inOrder.of_offBarriers
      (foldl_keeps offBarriers (fun t a => offBarriers_firstArmSample (filtered s) t a) allArms s)
  split
  · exact lists_foundFaults _ _ walked
  · exact walked

theorem lists_countEnter (s : State) (inOrder : Lists s) : Lists (countEnter s) := by
  unfold countEnter
  split <;> exact inOrder.of_table rfl

@[simp] theorem lists_enterCrossing (d : Direction) (s : State) (inOrder : Lists s) : Lists (enterCrossing d s) := by
  have counted := lists_countEnter s inOrder
  unfold enterCrossing
  dsimp only
  split
  · exact counted
  split
  · exact lists_withAsked _ _ _ (fun s inOrder => by simp [inOrder]) _ counted
  split <;> simp [counted]

@[simp] theorem lists_revertTurned (serial : Nat) (s : State) (inOrder : Lists s) : Lists (revertTurned serial s) :=
  lists_withAsked _ _ _ (fun s inOrder => by simp (maxDischargeDepth := 4) [inOrder]) s inOrder

theorem lists_countExit (s : State) (inOrder : Lists s) : Lists (countExit s) := by
  unfold countExit
  split <;> exact inOrder.of_table rfl

@[simp] theorem lists_exitCrossing (e : Edge) (s : State) (inOrder : Lists s) : Lists (exitCrossing e s) := by
  have counted := lists_countExit s inOrder
  unfold exitCrossing
  dsimp only
  split
  · exact counted
  split
  · exact lists_concludeSlot _ _ _ counted
  split
  · split <;> simp [counted]
  · exact lists_raiseControl _ _ counted

theorem lists_clearedSlot (s : State) (x : Slot) (inOrder : Lists s) : Lists (clearedSlot s x) := by
  unfold clearedSlot
  split
  · split
    · exact lists_withAsked _ _ _ (fun s inOrder => by simp (maxDischargeDepth := 4) [inOrder]) s inOrder
    split <;> simp [inOrder]
  · exact inOrder

@[simp] theorem lists_approachCleared (d : Direction) (s : State) (inOrder : Lists s) :
    Lists (approachCleared d s) := lists_foldl lists_clearedSlot _ s inOrder

theorem lists_edgeSample (before now : RawInputs) (e : Edge) (s : State) (inOrder : Lists s) :
    Lists (edgeSample before now e s) :=
  edgeSample_keeps (P := Lists) (fun _ => inOrder.of_table rfl) (fun t => lists_raiseControl _ t)
    (fun d t => lists_enterCrossing d t) (fun t => lists_exitCrossing e t) fun d t => lists_approachCleared d t

@[simp] theorem lists_inputSample (raw : RawInputs) (s : State) (inOrder : Lists s) : Lists (inputSample raw s) :=
  inputSample_keeps (P := Lists) (inOrder.of_table rfl) lists_sampleBolts lists_followSecure lists_sampleArms
    (fun t ht => ht.of_offRoad (offRoad_firstPhases t)) (fun _ _ _ ht => ht.of_offRoad (by simp))
    lists_edgeSample lists_demandHalt

theorem lists_seatStop (x : RawInputs) (t : Tower) (s : State) (inOrder : Lists s) : Lists (seatStop x t s) := by
  unfold seatStop
  dsimp only
  split <;> exact inOrder.of_table rfl

theorem lists_sampleRaise (s : State) (inOrder : Lists s) : Lists (sampleRaise s) := by
  unfold sampleRaise
  split
  · split
    · exact lists_targetReached _ (lists_endMotion s inOrder)
    · exact inOrder.of_table rfl
  · exact inOrder

theorem lists_sampleLower (x : RawInputs) (s : State) (inOrder : Lists s) : Lists (sampleLower x s) := by
  have stopped := lists_seatStop x .e _ (lists_seatStop x .w s inOrder)
  unfold sampleLower
  dsimp only
  split
  · exact lists_foundFaults _ s inOrder
  split
  · exact lists_seatsReached _ (lists_endMotion _ stopped)
  · exact stopped.of_table rfl

theorem lists_sampleDescent (x : RawInputs) (s : State) (inOrder : Lists s) : Lists (sampleDescent x s) := by
  have stopped := lists_seatStop x .e _ (lists_seatStop x .w s inOrder)
  unfold sampleDescent
  dsimp only
  split
  · exact lists_seatsReached _ (lists_seatZeroing _ (lists_endMotion _ stopped))
  · exact stopped

theorem lists_sampleJog (s : State) (inOrder : Lists s) : Lists (sampleJog s) := by
  unfold sampleJog
  split
  · split
    · exact inOrder
    · exact lists_endMotion s inOrder
  · exact inOrder

theorem lists_sampleMotion (x : RawInputs) (s : State) (inOrder : Lists s) : Lists (sampleMotion x s) := by
  unfold sampleMotion
  dsimp only
  split
  · split
    · exact lists_sampleRaise s inOrder
    · exact inOrder
  · split
    · exact lists_sampleLower x s inOrder
    · exact inOrder
  · exact lists_sampleDescent x s inOrder
  · exact lists_sampleJog s inOrder
  · exact inOrder

theorem lists_sampleStop (s : State) (inOrder : Lists s) : Lists (sampleStop s) := by
  have ended := lists_endMotion s inOrder
  unfold sampleStop
  split
  · split
    · exact lists_targetReached _ ended
    · exact ended
  · exact ended

@[simp] theorem lists_positionSample (s : State) (inOrder : Lists s) : Lists (positionSample s) := by
  have remembered : Lists (rememberLimits (filtered s) (computePositions s)) := inOrder.of_table rfl
  unfold positionSample
  dsimp only
  generalize rememberLimits (filtered s) (computePositions s) = t at remembered ⊢
  generalize hu : (if (t.drive.phase == some .running && (t.drive.motion == .raise || t.drive.motion == .lower)) = true
    then stepAnchors t else t) = u
  have anchored : Lists u := by
    subst hu
    split
    · exact remembered.of_table rfl
    · exact remembered
  refine lists_readStanding _ ?_
  generalize (if overtravelled _ _ then [FaultCause.overtravel] else []) ++ sampleFaults _ u = found
  split
  · exact lists_foundFaults _ u anchored
  split
  · exact lists_sampleStop u anchored
  · exact lists_sampleMotion _ _ (anchored.of_table rfl)

@[simp] theorem lists_encoderEdge (t : Tower) (a b : Bool) (s : State) (inOrder : Lists s) :
    Lists (encoderEdge t a b s) := by
  unfold encoderEdge
  dsimp only
  split
  · exact lists_foundFaults _ _ (inOrder.of_table rfl)
  · exact inOrder.of_table rfl

theorem lists_runMotion (s : State) (inOrder : Lists s) : Lists (runMotion s) := by
  unfold runMotion
  dsimp only
  (repeat' split) <;> exact inOrder.of_table rfl

/-! ## The channel's and the planner's events -/

theorem lists_noShow (n : Nat) (s : State) (inOrder : Lists s) : Lists (noShow n s) := by
  unfold noShow
  split
  · exact inOrder
  split
  · exact lists_mapSlot _ _ s inOrder
  · exact lists_concludeSlot _ _ s inOrder

theorem lists_zoneReset (s : State) (inOrder : Lists s) : Lists (zoneReset s) :=
  lists_mapChannel _ _ (lists_foldl (fun t n => lists_concludeSlot .passed n t) _ s inOrder)

theorem lists_retryLowering (a : Arm) (s : State) (inOrder : Lists s) : Lists (retryLowering a s) := by
  unfold retryLowering
  dsimp only
  split <;> simp [inOrder]

theorem lists_deckIsClear (s : State) (inOrder : Lists s) : Lists (deckIsClear s) := by
  have cleared : Lists (stopOccupancies (setDeck { s.guard.deck with
      measurement := some .complete, clear := .stopped, wait := .stopped } s)) := inOrder.of_table rfl
  unfold deckIsClear
  dsimp only
  split
  · exact lists_enterExitClosing _ cleared
  · exact cleared

theorem lists_goStale (s : State) (inOrder : Lists s) : Lists (goStale s) :=
  lists_waterEvent _ (inOrder.of_table rfl)

theorem lists_takeReadingOf (v : Int) (s : State) (inOrder : Lists s) : Lists (takeReadingOf v s) := by
  unfold takeReadingOf
  split
  · unfold holdReading
    dsimp only
    split <;> exact inOrder.of_table rfl
  · exact lists_settle _ (lists_waterEvent _ (inOrder.of_table rfl))

/-! ## The clock -/

@[simp] theorem lists_advanceMinute (s : State) (inOrder : Lists s) : Lists (advanceMinute s) :=
  lists_minuteEvent _ (inOrder.of_table rfl)

@[simp] theorem lists_secondStep (s : State) (inOrder : Lists s) : Lists (secondStep s) := by
  unfold secondStep
  split <;> simp [inOrder]

@[simp] theorem lists_minuteMark (s : State) (inOrder : Lists s) : Lists (minuteMark s) := by
  unfold minuteMark
  dsimp only
  (repeat' split) <;> simp (maxDischargeDepth := 4) [inOrder]

@[simp] theorem lists_loseLock (s : State) (inOrder : Lists s) : Lists (loseLock s) :=
  lists_secondStep _ (inOrder.of_table rfl)

@[simp] theorem lists_oscillatorStep (s : State) (inOrder : Lists s) : Lists (oscillatorStep s) :=
  lists_secondStep _ (inOrder.of_table rfl)

theorem lists_relock (s : State) (inOrder : Lists s) : Lists (relock s) := by
  unfold relock
  dsimp only
  (repeat' split) <;> simp [inOrder]

theorem lists_actOnPulse (inWindow : Bool) (s : State) (inOrder : Lists s) : Lists (actOnPulse inWindow s) := by
  unfold actOnPulse
  (repeat' split) <;> simp [inOrder, lists_relock]

@[simp] theorem lists_pulseEdge (s : State) (inOrder : Lists s) : Lists (pulseEdge s) := by
  have taken : Lists (takePulse s) := inOrder.of_table rfl
  unfold pulseEdge
  split
  · exact lists_actOnPulse _ _ taken
  split
  · exact inOrder.of_table rfl
  · exact lists_actOnPulse _ _ taken

theorem lists_clockExpiry (ms : Nat) (s : State) (inOrder : Lists s) : Lists (clockExpiry ms s) := by
  have acts : ∀ x ∈ clockTimers ms s, ∀ t, Lists t → Lists (x.2 t) := by
    intro x hx t ht
    obtain e | e | e : x.2 = minuteMark ∨ x.2 = oscillatorStep ∨ x.2 = loseLock := by
      simp only [clockTimers, List.mem_append, List.mem_cons, List.not_mem_nil, or_false] at hx
      obtain (rfl | rfl) | late := hx
      · exact .inl rfl
      · exact .inr (.inl rfl)
      · split at late <;> simp at late
        exact .inr (.inr (by rw [late]))
    all_goals
      rw [e]
      simp [ht]
  obtain e | ⟨x, hx, n, e⟩ := clockExpiry_cases ms s
  · rwa [e]
  · rw [e]
    exact acts x hx _ (inOrder.of_table rfl)

theorem lists_runClock (n ms : Nat) (s : State) (inOrder : Lists s) : Lists (runClock n ms s) := by
  induction n generalizing ms s with
  | zero => exact inOrder.of_table rfl
  | succ n ih =>
    unfold runClock
    split
    · exact inOrder.of_table rfl
    split
    · exact inOrder.of_table rfl
    · exact ih _ _ (lists_settle _ (lists_clockExpiry _ _ (inOrder.of_table rfl)))

end Sys2Proof.Machine
end


section
/-!
O11: every request and every event keeps the lists of the table in order, and so does every step (R9 to R11).
-/

namespace Sys2Proof.Machine

variable {s : State}

/-! ## Records created -/

theorem lists_settleStored (due : Bool) (i : Nat) (s : State) (inOrder : Lists s) : Lists (settleStored due i s) := by
  unfold settleStored
  split <;> simp [inOrder]

/-- A record stored in an entry that the allocation found outside the arrival region. -/
theorem Lists.storeAllocated (h : Lists s) {l : List Nat} (region : ∀ i ∈ l, i < s.table.qb) {u : State} {i : Nat}
    (found : Machine.allocate l s = (u, some i)) {e : Entry} (pending : e.state = .pending) (due : Bool) :
    Lists (Machine.storeRecord due i e u) := by
  have allocated := h.allocate l
  have bounds := (bounds_of_outer (outer_allocate l s)).2
  rw [found] at allocated bounds
  obtain ⟨inside, vacant⟩ := allocated.2 i rfl
  exact allocated.1.storeRecord_of_region ((region i inside).trans_eq bounds.symm) vacant pending due

theorem Lists.of_allocate (h : Lists s) {l : List Nat} {u : State} {o : Option Nat}
    (found : Machine.allocate l s = (u, o)) : Lists u := by
  have allocated := (h.allocate l).1
  rwa [found] at allocated

theorem lists_ownCreateBooking (p : List Byte) (s : State) (inOrder : Lists s) : Lists (ownCreateBooking p s).1 := by
  unfold ownCreateBooking
  dsimp only
  split
  · next id d _ _ _ _ _ =>
    split
    · exact inOrder
    have read := inOrder.readForDuplicate id d
    split
    · exact lists_settle _ read
    split
    · next found => exact lists_settle _ (read.of_allocate found)
    · next found =>
      refine lists_settleStored _ _ _ (read.storeAllocated (fun i hi => (mem_booked.1 hi).2) found ?_ _)
      rfl
  · exact inOrder

theorem lists_ownCreateTimetable (p : List Byte) (s : State) (inOrder : Lists s) :
    Lists (ownCreateTimetable p s).1 := by
  unfold ownCreateTimetable
  dsimp only
  split
  · next id d _ _ _ =>
    split
    · exact inOrder
    have read := inOrder.readForDuplicate id d
    split
    · exact lists_settle _ read
    split
    · next found => exact lists_settle _ (read.of_allocate found)
    · next found =>
      refine lists_settleStored _ _ _
        (read.storeAllocated (fun i hi => (mem_timetable.1 hi).trans_le read.tb_le) found ?_ _)
      rfl
  · exact inOrder

theorem lists_ownPostArrival (p : List Byte) (s : State) (inOrder : Lists s) : Lists (ownPostArrival p s).1 := by
  unfold ownPostArrival
  dsimp only
  split
  · exact inOrder
  next id d _ _ _ =>
    split
    · exact inOrder
    have read := inOrder.readForDuplicate id d
    split
    · exact lists_settle _ read
    have allocated := read.allocateArrival
    split
    · next found =>
      rw [found] at allocated
      exact lists_settle _ allocated.1
    · next i found =>
      rw [found] at allocated
      refine lists_settleStored _ _ _ (allocated.1.storeArrival (allocated.2 i rfl) ?_)
      rfl

/-! ## Requests that name a tag -/

/-- A record whose tag is good (R4). -/
def Tagged (i : Nat) (s : State) : Prop := (entryAt s i).state ≠ .vacant ∧ (entryAt s i).codeGood = true

theorem lists_withTag {owner : Nat → State → State × Answer}
    (own : ∀ i s, Lists s → Tagged i s → Lists (owner i s).1) (port : Port) (lookUpOnly : Bool) (p : List Byte)
    (s : State) (inOrder : Lists s) : Lists (withTag port lookUpOnly p owner s).1 := by
  obtain ⟨lists, tagged⟩ := inOrder.checkTag (byteAt p 0) (byteAt p 1)
  unfold withTag
  dsimp only
  generalize checkTag (byteAt p 0) (byteAt p 1) s = checked at lists tagged ⊢
  obtain ⟨u, _ | x⟩ := checked
  · dsimp only
    split
    · exact lists_settle _ lists
    · exact lists_settle _ (own _ u lists (tagged rfl))
  · exact lists_settle _ lists

theorem lists_ownRelease (i : Nat) (s : State) (inOrder : Lists s) (tagged : Tagged i s) :
    Lists (ownRelease i s).1 := by
  unfold ownRelease
  dsimp only
  split
  · exact inOrder.retireEntry (inOrder.lt_of_state rfl tagged.1)
  · exact inOrder

theorem lists_ownDeleteTimetable (i : Nat) (s : State) (inOrder : Lists s) (tagged : Tagged i s) :
    Lists (ownDeleteTimetable i s).1 := by
  unfold ownDeleteTimetable
  dsimp only
  split
  · exact inOrder
  split
  · exact inOrder.retireEntry (inOrder.lt_of_state rfl tagged.1)
  · exact inOrder

/-- The window test after an AMEND (R18). -/
theorem Lists.retestWindow {i : Nat} (h : Lists s) (good : (entryAt s i).codeGood = true) :
    Lists (retestWindow i s) := by
  unfold Machine.retestWindow
  dsimp only
  split
  · exact h
  split
  · next starts =>
    simp only [Bool.and_eq_true, beq_iff_eq] at starts
    exact h.becomeDue starts.1 good
  split
  · next ends =>
    have due : (entryAt s i).state = .due := by
      simp only [Bool.and_eq_true, beq_iff_eq] at ends
      exact ends.1
    have held : (s.table.entry i).state ≠ .vacant := fun vacant => nomatch due.symm.trans vacant
    refine Ranked.lists (c := s.table.counter) ?_
    rw [writeEntry_table, leaveDue_table]
    exact Ranked.drop h (h.lt_of_state due nofun) rfl nofun (fun _ => iff_of_false nofun held) nofun
  · exact h

theorem Lists.storeAmended {i : Nat} (h : Lists s) (tagged : Tagged i s) (a : Int) (c : Nat)
    (w : Option (Nat × Option Nat)) : Lists (storeAmended i a c w s) := by
  have len : i < s.table.entries.length := by
    rw [h.entries]
    exact h.lt_of_state rfl tagged.1
  unfold Machine.storeAmended
  dsimp only
  split
  · exact h.write_same rfl rfl
  · exact Lists.retestWindow (h.write_same rfl rfl) (congrArg Entry.codeGood (entryAt_writeEntry i _ s len))

theorem lists_amendEvent (i : Nat) (s : State) (inOrder : Lists s) : Lists (amendEvent i s) := by
  unfold amendEvent
  split <;> simp [inOrder]

theorem lists_ownAmend (p : List Byte) (i : Nat) (s : State) (inOrder : Lists s) (tagged : Tagged i s) :
    Lists (ownAmend p i s).1 := by
  unfold ownAmend
  dsimp only
  split
  · exact inOrder
  split
  · exact inOrder
  split
  · exact inOrder
  split
  · exact inOrder
  split
  · exact inOrder
  split
  · exact inOrder.concludeEntry .notNeeded tagged.1
  · exact lists_amendEvent i _ (inOrder.storeAmended tagged _ _ _)

theorem lists_afterFreed (s : State) (inOrder : Lists s) : Lists (afterFreed s) := by
  unfold afterFreed
  dsimp only
  split <;> simp [inOrder]

theorem lists_ownWithdraw (i : Nat) (s : State) (inOrder : Lists s) (tagged : Tagged i s) :
    Lists (ownWithdraw i s).1 := by
  have freed : Lists (freeSlot i s) := inOrder.of_table (freeSlot_table i s)
  have entry : entryAt (freeSlot i s) i = entryAt s i := entryAt_of_table (freeSlot_table i s) i
  unfold ownWithdraw
  dsimp only
  split
  · split
    · exact inOrder.write_same rfl rfl
    · exact inOrder.concludeEntry .withdrawn tagged.1
  · exact inOrder.concludeEntry .withdrawn tagged.1
  · exact lists_afterFreed _ (freed.concludeEntry .withdrawn (by rw [entry]; exact tagged.1))
  all_goals exact inOrder

/-! ## The requests that read the table, and the whole table -/

theorem lists_ownFind (p : List Byte) (s : State) (inOrder : Lists s) : Lists (ownFind p s).1 := by
  unfold ownFind
  dsimp only
  split
  · exact inOrder
  · exact lists_settle _ ((inOrder.verifyEntries _).verifyGenerations _)

theorem lists_ownList (p : List Byte) (s : State) (inOrder : Lists s) : Lists (ownList p s).1 := by
  unfold ownList
  dsimp only
  split
  · exact inOrder
  · exact lists_settle _ ((inOrder.readTags _ _ _).readFirst _ _)

theorem lists_ownListDue (p : List Byte) (s : State) (inOrder : Lists s) : Lists (ownListDue p s).1 :=
  lists_settle _ ((inOrder.verifyEntries _).verifyGenerations _)

theorem lists_ownQueueStatus (s : State) (inOrder : Lists s) : Lists (ownQueueStatus s).1 :=
  lists_settle _ (inOrder.verifyEntries _)

theorem lists_ownClearDamage (s : State) (inOrder : Lists s) : Lists (ownClearDamage s).1 :=
  Ranked.lists (c := s.table.counter) (Ranked.congr inOrder rfl rfl rfl rfl rfl rfl rfl)

/-- A table whose entries are all VACANT and whose lists are empty. -/
theorem lists_of_cleared (h : s.table.tb ≤ s.table.qb ∧ s.table.qb ≤ 64) (cleared : s.table = clearedTable s.table) :
    Lists s := by
  have entry : ∀ i, s.table.entry i = Entry.vacant := fun i => by
    rw [cleared]
    exact entryAt_reset (t := State.reset) rfl i
  have lists : s.table.entries.length = 64 ∧ s.table.generations.length = 64 ∧ s.table.dueList = [] ∧
      s.table.arrivalOrder = [] := by
    rw [cleared]
    exact ⟨rfl, rfl, rfl, rfl⟩
  obtain ⟨entries, generations, due, arrivals⟩ := lists
  constructor
  case counter => rfl
  case entries => exact entries
  case generations => exact generations
  case tb_le => exact h.1
  case qb_le => exact h.2
  case dueNodup => simp [due]
  case arrivalsNodup => simp [arrivals]
  case mem_due => simp [due, entry, Entry.vacant]
  case mem_arrivals => simp [arrivals, entry, Entry.vacant]
  case sorted => simp [due]
  case stamped => intro i _ counts; simp [entry, Entry.vacant, EntryState.inOpening] at counts
  case good => simp

theorem lists_ownClearTable (s : State) (inOrder : Lists s) : Lists (ownClearTable s).1 := by
  have cleared : Lists (mapTable clearedTable s) := lists_of_cleared ⟨inOrder.tb_le, inOrder.qb_le⟩ rfl
  exact lists_settle _ (cleared.of_table (refreshQueueCritical_table _))

/-- New bounds of the regions, where each entry whose kind changes is VACANT (R2). -/
theorem Lists.setBounds (h : Lists s) {tb qb : Nat} (order : tb ≤ qb) (bound : qb ≤ 64)
    (vacant : ∀ i, i < 64 → kindOf s.table i ≠ kindOf { s.table with tb := tb, qb := qb } i →
      (entryAt s i).state = .vacant) : Lists (mapTable (fun t => { t with tb := tb, qb := qb }) s) := by
  refine { h with tb_le := order, qb_le := bound, mem_arrivals := fun i => ?_ }
  refine (h.mem_arrivals i).trans ?_
  change (s.table.qb ≤ i ∧ i < 64 ∧ (s.table.entry i).state ≠ .vacant ∧ none ≠ some i) ↔
    (qb ≤ i ∧ i < 64 ∧ (s.table.entry i).state ≠ .vacant ∧ none ≠ some i)
  have same : i < 64 → (s.table.entry i).state ≠ .vacant → (s.table.qb ≤ i ↔ qb ≤ i) := fun hi held => by
    have kind : kindOf s.table i = kindOf { s.table with tb := tb, qb := qb } i := by
      by_contra changed
      exact held (vacant i hi changed)
    rw [← kindOf_arrival h.tb_le i, kind]
    exact kindOf_arrival (t := { s.table with tb := tb, qb := qb }) order i
  constructor
  · rintro ⟨hq, hi, held, rest⟩
    exact ⟨(same hi held).1 hq, hi, held, rest⟩
  · rintro ⟨hq, hi, held, rest⟩
    exact ⟨(same hi held).2 hq, hi, held, rest⟩

theorem lists_ownSetRegions (p : List Byte) (s : State) (inOrder : Lists s) : Lists (ownSetRegions p s).1 := by
  unfold ownSetRegions
  dsimp only
  split
  · exact inOrder
  next range =>
    have read := fun l => inOrder.verifyEntries l
    split
    · exact lists_settle _ (read _)
    · next free =>
      simp only [Bool.or_eq_true, decide_eq_true_eq, not_or, not_lt] at range
      refine lists_settle _ ((read _).setBounds (by omega) (by omega) fun i hi changed => ?_)
      have kind := kindOf_of_outer (outer_verifyEntries (allIndexes.filter fun i => kindOf s.table i !=
        kindOf { s.table with tb := (longAt p 0).toNat, qb := (longAt p 4).toNat } i) s) i
      rw [kind] at changed
      by_contra held
      refine free (List.any_eq_true.2 ⟨i, List.mem_filter.2 ⟨List.mem_range.2 hi, ?_⟩, ?_⟩)
      · exact bne_iff_ne.2 changed
      · simpa using held

/-! ## The other requests -/

theorem lists_ownWaterLevel (p : List Byte) (s : State) (inOrder : Lists s) : Lists (ownWaterLevel p s).1 := by
  have judged : ∀ b : Bool, Lists (if b then s else raiseControl .gaugeRange s) := fun b => by
    split <;> simp [inOrder]
  exact lists_takeReadingOf _ _ (judged _)

theorem lists_ownOpenNow (s : State) (inOrder : Lists s) : Lists (ownOpenNow s).1 := by
  unfold ownOpenNow
  dsimp only
  split <;> simp [inOrder]

theorem lists_ownCloseSpan (s : State) (inOrder : Lists s) : Lists (ownCloseSpan s).1 := by
  unfold ownCloseSpan
  (repeat' split) <;> simp [inOrder]

theorem lists_ownRoadPriority (s : State) (inOrder : Lists s) : Lists (ownRoadPriority s).1 := by
  unfold ownRoadPriority
  dsimp only
  (repeat' split) <;> simp (maxDischargeDepth := 4) [inOrder]

theorem lists_ownRoadPriorityEnd (s : State) (inOrder : Lists s) : Lists (ownRoadPriorityEnd s).1 := by
  unfold ownRoadPriorityEnd
  split <;> simp [inOrder]

theorem lists_ownOpenNavigation (s : State) (inOrder : Lists s) : Lists (ownOpenNavigation s).1 := by
  unfold ownOpenNavigation
  dsimp only
  split <;> simp (maxDischargeDepth := 4) [inOrder]

theorem lists_ownAbandon (s : State) (inOrder : Lists s) : Lists (ownAbandon s).1 := by
  unfold ownAbandon
  (repeat' split) <;> simp (maxDischargeDepth := 4) [inOrder]

theorem lists_ownCloseRoad (s : State) (inOrder : Lists s) : Lists (ownCloseRoad s).1 := by
  unfold ownCloseRoad
  split <;> simp [inOrder]

theorem lists_ownReopenRoad (s : State) (inOrder : Lists s) : Lists (ownReopenRoad s).1 := by
  unfold ownReopenRoad
  split <;> simp (maxDischargeDepth := 4) [inOrder]

theorem lists_ownStop (s : State) (inOrder : Lists s) : Lists (ownStop s).1 :=
  lists_settle _ (lists_demandHalt s inOrder)

theorem lists_ownResume (s : State) (inOrder : Lists s) : Lists (ownResume s).1 := by
  unfold ownResume
  (repeat' split) <;> simp (maxDischargeDepth := 4) [inOrder]

theorem lists_ownRecoverSeat (s : State) (inOrder : Lists s) : Lists (ownRecoverSeat s).1 := by
  unfold ownRecoverSeat
  split <;> simp [inOrder]

theorem lists_ownConfirmUnwarned (p : List Byte) (s : State) (inOrder : Lists s) :
    Lists (ownConfirmUnwarned p s).1 := by
  unfold ownConfirmUnwarned
  (repeat' split) <;> simp [inOrder]

theorem lists_ownArmRetry (p : List Byte) (s : State) (inOrder : Lists s) : Lists (ownArmRetry p s).1 := by
  have retried : ∀ a, Lists (retryArm a s) := fun a => by
    unfold retryArm
    dsimp only
    split <;> exact inOrder.of_table rfl
  unfold ownArmRetry
  (repeat' split) <;> simp [inOrder, retried]

theorem lists_ownArmService (p : List Byte) (s : State) (inOrder : Lists s) : Lists (ownArmService p s).1 := by
  have returned : ∀ a, Lists (returnArm a s) := fun a => by
    unfold returnArm
    dsimp only
    split <;> exact inOrder.of_table rfl
  have removed : ∀ a, Lists (removeArm a s) := fun a => inOrder.of_table rfl
  unfold ownArmService
  dsimp only
  (repeat' split) <;> simp [inOrder, removed, returned]

theorem lists_ownJog (p : List Byte) (s : State) (inOrder : Lists s) : Lists (ownJog p s).1 := by
  have renewed : Lists (renewJog s) := inOrder.of_table rfl
  have started : ∀ t d, Lists (startJog t d s) := fun t d => inOrder.of_table rfl
  unfold ownJog
  (repeat' split) <;> simp [inOrder, renewed, started]

theorem lists_ownZoneReset (s : State) (inOrder : Lists s) : Lists (ownZoneReset s).1 := by
  unfold ownZoneReset
  split
  · exact lists_settle _ (lists_zoneReset s inOrder)
  · exact inOrder

theorem lists_ownSetTime (p : List Byte) (s : State) (inOrder : Lists s) : Lists (ownSetTime p s).1 := by
  have set : Lists (setClock (wordAt p 0) (byteAt p 2) s) := inOrder.of_table rfl
  unfold ownSetTime withDueEvent forwardTable
  dsimp only
  (repeat' split) <;> simp (maxDischargeDepth := 4) [inOrder, set]

theorem ownClockStatus_table (p : List Byte) (s : State) : (ownClockStatus p s).1.table = s.table := by
  unfold ownClockStatus
  dsimp only
  (repeat' split) <;> rfl

theorem lists_ownConfigure (s : State) (inOrder : Lists s) : Lists (ownConfigure s).1 := by
  unfold ownConfigure
  split <;> simp [inOrder]

theorem lists_ownCommission (s : State) (inOrder : Lists s) : Lists (ownCommission s).1 := by
  unfold ownCommission
  split <;> simp [inOrder]

theorem lists_ownSetParameter (p : List Byte) (s : State) (inOrder : Lists s) : Lists (ownSetParameter p s).1 := by
  have stored : ∀ n v, Lists (storeParameter n v s) := fun n v =>
    lists_settle _ (lists_applyParameter _ _ _ _ (inOrder.of_table rfl))
  unfold ownSetParameter
  dsimp only
  (repeat' split) <;> simp [inOrder, stored]

/-! ## Every command -/

/-- A catalogued request is its row's request of an owner that keeps the lists in order. -/
theorem exec_request_lists {c : Instr} {p : Port} {row : CatalogueRow} (hr : requestRow c = some (p, row)) :
    ∃ (payload : List Byte) (owner : State → State × Answer),
      (∀ s, exec c s = .next (request p row payload owner s)) ∧ ∀ s, Lists s → Lists (owner s).1 := by
  cases c <;> cases hr
  case createBooking => exact ⟨_, _, fun _ => rfl, lists_ownCreateBooking _⟩
  case createTimetable => exact ⟨_, _, fun _ => rfl, lists_ownCreateTimetable _⟩
  case postArrival => exact ⟨_, _, fun _ => rfl, lists_ownPostArrival _⟩
  case amend x =>
    refine ⟨_, _, fun _ => rfl, fun s h => ?_⟩
    rw [amendTagged_eq]
    exact lists_withTag (lists_ownAmend x) p _ x s h
  case withdraw x =>
    refine ⟨_, _, fun _ => rfl, fun s h => ?_⟩
    rw [withdrawTagged_eq]
    exact lists_withTag lists_ownWithdraw p _ x s h
  case release => exact ⟨_, _, fun _ => rfl, lists_withTag lists_ownRelease p _ _⟩
  case deleteTimetable => exact ⟨_, _, fun _ => rfl, lists_withTag lists_ownDeleteTimetable p _ _⟩
  case lookUp => exact ⟨_, _, fun _ => rfl, lists_withTag (fun _ _ h _ => h) p _ _⟩
  case find => exact ⟨_, _, fun _ => rfl, lists_ownFind _⟩
  case list => exact ⟨_, _, fun _ => rfl, lists_ownList _⟩
  case listDue => exact ⟨_, _, fun _ => rfl, lists_ownListDue _⟩
  case queueStatus => exact ⟨_, _, fun _ => rfl, lists_ownQueueStatus⟩
  case clearDamage => exact ⟨_, _, fun _ => rfl, lists_ownClearDamage⟩
  case clearTable => exact ⟨_, _, fun _ => rfl, lists_ownClearTable⟩
  case setRegions => exact ⟨_, _, fun _ => rfl, lists_ownSetRegions _⟩
  case waterLevel => exact ⟨_, _, fun _ => rfl, lists_ownWaterLevel _⟩
  case openNow => exact ⟨_, _, fun _ => rfl, lists_ownOpenNow⟩
  case closeSpan => exact ⟨_, _, fun _ => rfl, lists_ownCloseSpan⟩
  case abandon => exact ⟨_, _, fun _ => rfl, lists_ownAbandon⟩
  case roadPriority => exact ⟨_, _, fun _ => rfl, lists_ownRoadPriority⟩
  case roadPriorityEnd => exact ⟨_, _, fun _ => rfl, lists_ownRoadPriorityEnd⟩
  case closeNavigation => exact ⟨_, _, fun _ => rfl, fun _ h => h.of_table rfl⟩
  case openNavigation => exact ⟨_, _, fun _ => rfl, lists_ownOpenNavigation⟩
  case closeRoad => exact ⟨_, _, fun _ => rfl, lists_ownCloseRoad⟩
  case reopenRoad => exact ⟨_, _, fun _ => rfl, lists_ownReopenRoad⟩
  case stop => exact ⟨_, _, fun _ => rfl, lists_ownStop⟩
  case resume => exact ⟨_, _, fun _ => rfl, lists_ownResume⟩
  case recoverSeat => exact ⟨_, _, fun _ => rfl, lists_ownRecoverSeat⟩
  case confirmUnwarned => exact ⟨_, _, fun _ => rfl, lists_ownConfirmUnwarned _⟩
  case clearLamp => exact ⟨_, _, fun _ => rfl, fun s h => h.of_offRoad (offRoad_ownClearLamp _ s)⟩
  case headService => exact ⟨_, _, fun _ => rfl, fun s h => h.of_offRoad (offRoad_ownHeadService _ s)⟩
  case clearRoadStatus => exact ⟨_, _, fun _ => rfl, fun s h => h.of_offRoad (offRoad_ownClearRoadStatus _ s)⟩
  case armRetry => exact ⟨_, _, fun _ => rfl, lists_ownArmRetry _⟩
  case armService => exact ⟨_, _, fun _ => rfl, lists_ownArmService _⟩
  case detectorService => exact ⟨_, _, fun _ => rfl, fun s h => h.of_offRoad (offRoad_ownDetectorService _ s)⟩
  case jog => exact ⟨_, _, fun _ => rfl, lists_ownJog _⟩
  case zoneReset => exact ⟨_, _, fun _ => rfl, lists_ownZoneReset⟩
  case setTime => exact ⟨_, _, fun _ => rfl, lists_ownSetTime _⟩
  case clockStatus => exact ⟨_, _, fun _ => rfl, fun s h => h.of_table (ownClockStatus_table _ s)⟩
  case configure => exact ⟨_, _, fun _ => rfl, lists_ownConfigure⟩
  case commission => exact ⟨_, _, fun _ => rfl, lists_ownCommission⟩
  case setParameter => exact ⟨_, _, fun _ => rfl, lists_ownSetParameter _⟩
  case clearanceStatus =>
    refine ⟨_, _, fun _ => rfl, fun s h => ?_⟩
    unfold ownClearanceStatus
    dsimp only
    (repeat' split) <;> exact h
  case readParameter =>
    refine ⟨_, _, fun _ => rfl, fun s h => ?_⟩
    unfold ownReadParameter
    split <;> exact h
  case setAttentionEnable =>
    refine ⟨_, _, fun _ => rfl, fun s h => ?_⟩
    unfold ownSetAttentionEnable
    dsimp only
    split
    · exact h
    · exact h.of_table rfl
  case roadStatus =>
    refine ⟨_, _, fun _ => rfl, fun s h => ?_⟩
    unfold ownRoadStatus
    dsimp only
    split <;> exact h
  all_goals exact ⟨_, _, fun _ => rfl, fun _ h => h.of_table rfl⟩

theorem lists_expireMinutes {act : State → State} (acts : ∀ s, Lists s → Lists (act s)) (t : Timer)
    (inOrder : Lists s) : Lists (expireMinutes t act s) := by
  cases t
  case running k l => exact acts _ (inOrder.of_table rfl)
  all_goals exact inOrder

theorem lists_expire {act : State → State} (acts : ∀ s, Lists s → Lists (act s)) (t : Timer) (inOrder : Lists s) :
    Lists (expire t act s) :=
  expire_keeps (fun _ _ h => h.of_table rfl) acts inOrder

/-- An expiry whose work is settled keeps the lists in order where the work does. -/
theorem lists_expire_settle {act : State → State} (acts : ∀ s, Lists s → Lists (act s)) (t : Timer)
    (inOrder : Lists s) : Lists (expire t (fun s => settle (act s)) s) :=
  lists_expire (fun s h => lists_settle _ (acts s h)) t inOrder

theorem lists_expireMinutes_settle {act : State → State} (acts : ∀ s, Lists s → Lists (act s)) (t : Timer)
    (inOrder : Lists s) : Lists (expireMinutes t (fun s => settle (act s)) s) :=
  lists_expireMinutes (fun s h => lists_settle _ (acts s h)) t inOrder

theorem lists_powerOn (x : PowerOnLevels) (s : State) : Lists (powerOn x s) :=
  lists_of_cleared (by decide : Table.reset.tb ≤ Table.reset.qb ∧ Table.reset.qb ≤ 64) rfl

theorem lists_boltTimeout (b : Tower) (s : State) (inOrder : Lists s) : Lists (boltTimeout b s) :=
  lists_foundFaults _ _ (inOrder.of_table (setBolt_table b _ s))

/-- An event of the block's own keeps the lists in order. -/
theorem exec_event_lists {c : Instr} (hr : requestRow c = none) (hl : ofLine c = false) (inOrder : Lists s) :
    ∃ t, exec c s = .next t ∧ Lists t := by
  cases c <;> cases hr <;> cases hl
  case powerOn x => exact ⟨_, rfl, lists_powerOn x s⟩
  case inputSample raw => exact ⟨_, rfl, lists_settle _ (lists_inputSample raw s inOrder)⟩
  case positionSample => exact ⟨_, rfl, lists_settle _ (lists_positionSample s inOrder)⟩
  case encoderEdge k a b => exact ⟨_, rfl, lists_settle _ (lists_encoderEdge k a b s inOrder)⟩
  case timePulseLeadingEdge ms =>
    exact ⟨_, rfl, lists_settle _ (lists_pulseEdge _ (lists_runClock _ ms s inOrder))⟩
  case secondMark =>
    refine ⟨_, rfl, ?_⟩
    split
    · exact inOrder.of_table rfl
    · exact inOrder
  case minuteMarkCorrection => exact ⟨_, rfl, lists_expire_settle lists_minuteMark _ inOrder⟩
  case supervisionTimerExpiry => exact ⟨_, rfl, lists_expire_settle lists_loseLock _ inOrder⟩
  case oscillatorStep => exact ⟨_, rfl, lists_expire_settle lists_oscillatorStep _ inOrder⟩
  case stalenessTimerExpiry => exact ⟨_, rfl, lists_expire_settle lists_goStale _ inOrder⟩
  case roadHoldOffExpiry =>
    exact ⟨_, rfl, lists_expireMinutes_settle (fun s h => lists_evaluateStart _ (lists_mapPlanner _ s h)) _ inOrder⟩
  case roadPriorityTimerExpiry => exact ⟨_, rfl, lists_expireMinutes_settle lists_endRoadPriority _ inOrder⟩
  case maxRaisedTimerExpiry =>
    exact ⟨_, rfl, lists_expireMinutes_settle (fun s h => lists_setClosingCall _ _ (lists_mapPlanner _ s h)) _ inOrder⟩
  case windWaitTimerExpiry =>
    exact ⟨_, rfl, lists_expire_settle
      (fun s h => lists_abandonWind _ _ (lists_raiseControl _ _ (lists_mapSeq _ s h))) _ inOrder⟩
  case amberTimerExpiry a => exact ⟨_, rfl, lists_expire_settle (lists_enterRed a) _ inOrder⟩
  case flasherHalf a => exact ⟨_, rfl, lists_expire (fun s h => h.of_offRoad (offRoad_nextHalf a s)) _ inOrder⟩
  case lampProving h l => exact ⟨_, rfl, lists_expire (fun s ok => ok.of_offRoad (offRoad_proveLamp h l s)) _ inOrder⟩
  case offCheck h l => exact ⟨_, rfl, lists_expire (fun s ok => ok.of_offRoad (offRoad_checkOff h l s)) _ inOrder⟩
  case warningCountComplete a => exact ⟨_, rfl, lists_expire_settle (lists_completeCount a) _ inOrder⟩
  case armTravelTimeout a => exact ⟨_, rfl, lists_expire_settle (lists_armFault a .timeout) _ inOrder⟩
  case retryWaitExpiry a => exact ⟨_, rfl, lists_expire_settle (lists_retryLowering a) _ inOrder⟩
  case deckClear => exact ⟨_, rfl, lists_expire_settle lists_deckIsClear _ inOrder⟩
  case deckWaitExpiry => exact ⟨_, rfl, lists_expire (fun s h => h.of_offRoad (offRoad_deckWaitOver s)) _ inOrder⟩
  case occupancyTimerExpiry d =>
    exact ⟨_, rfl, lists_expire (fun s h => h.of_offRoad (offRoad_occupiedTooLong d s)) _ inOrder⟩
  case brakeSettleExpiry => exact ⟨_, rfl, lists_expire_settle lists_runMotion _ inOrder⟩
  case lockTravelTimerExpiry b => exact ⟨_, rfl, lists_expire_settle (lists_boltTimeout b) _ inOrder⟩
  case jogKeepAliveExpiry => exact ⟨_, rfl, lists_expire_settle lists_endJog _ inOrder⟩
  case channelClearTimerRun => exact ⟨_, rfl, lists_expire_settle (fun s h => lists_mapChannel _ s h) _ inOrder⟩
  case noShowTimerExpiry n => exact ⟨_, rfl, lists_expire_settle (lists_noShow n) _ inOrder⟩

/-- An event of a port's line leaves the table alone. -/
theorem exec_line_table {c : Instr} (hl : ofLine c = true) (s : State) :
    ∃ t, exec c s = .next t ∧ t.table = s.table := by
  have marked : ∀ p v t, (addressMark p v t).table = t.table := fun p v t => by
    unfold addressMark
    dsimp only
    (repeat' split) <;> rfl
  cases c <;> cases hl
  case lineBreak p => exact ⟨_, rfl, rfl⟩
  case frameDiscarded p x =>
    refine ⟨_, rfl, ?_⟩
    unfold frameDiscarded
    dsimp only
    (repeat' split)
    case h_4 => exact marked _ _ _
    all_goals rfl
  case unknownRequest p k q =>
    refine ⟨_, rfl, ?_⟩
    unfold unknownRequest
    (repeat' split) <;> rfl
  case responseSent p =>
    refine ⟨_, rfl, ?_⟩
    unfold responseSent
    dsimp only
    split <;> rfl
  case addressMark p v => exact ⟨_, rfl, marked p v s⟩

/-- Every command keeps the lists in order. -/
theorem exec_keeps_lists (c : Instr) (s t : State) (h : exec c s = .next t) (inOrder : Lists s) : Lists t := by
  match hr : requestRow c with
  | some (p, row) =>
    obtain ⟨payload, owner, run, own⟩ := exec_request_lists hr
    obtain rfl := Host.Outcome.next.inj ((run s).symm.trans h)
    exact request_keeps (fun p r s h => lists_setPort p r s h) own inOrder
  | none =>
    match hl : ofLine c with
    | false =>
      obtain ⟨u, run, kept⟩ := exec_event_lists hr hl inOrder
      obtain rfl := Host.Outcome.next.inj (run.symm.trans h)
      exact kept
    | true =>
      obtain ⟨u, run, same⟩ := exec_line_table hl s
      obtain rfl := Host.Outcome.next.inj (run.symm.trans h)
      exact inOrder.of_table same

/-- Settles O11: the due list and the arrival order stay in order under every change of the table, and every command
is made of such changes; the stamps' ranks stay as they are while the counter moves on, for the stamp that would be of
age 0 counts as the oldest. -/
theorem listsKept : Obligations.ListsKept := by
  unfold Obligations.ListsKept
  intro s t inOrder h
  rw [listsOrdered_iff] at inOrder ⊢
  exact step_keeps (fun s q n h => h.of_table rfl) (fun s h => lists_elapse 1 s h) exec_keeps_lists h inOrder

end Sys2Proof.Machine
end
